-- ==== Sys2Proof/Word.lean ====
section
/-!
DEFINITION. Word.lean: the words of the device. Bits that the manual adds, masks or carries in a register are bit
vectors; counts, sizes and memory keys are natural numbers.
-/
namespace Sys2Proof

/-- One byte. -/
abbrev Byte := BitVec 8
/-- A halfword. -/
abbrev W16 := BitVec 16
/-- A 32-bit word: the Newel's registers and most device registers. -/
abbrev W32 := BitVec 32
/-- A 64-bit word: queue values and wide counters. -/
abbrev W64 := BitVec 64
/-- A 48-bit device address or phase time (R21, R183). -/
abbrev W48 := BitVec 48
/-- A condition code 0xCCDD: class and detail (R10). The value 0x0000 is success. -/
abbrev Cond := BitVec 16

/-- A wing number (R36). -/
abbrev WingId := Fin 16
/-- A Room number (R17). -/
abbrev RoomId := Fin 32
/-- A Storey number, and the number of the Cellar stack paired with it (R17). -/
abbrev StoreyId := Fin 4
/-- A Doorway number: 0 +X, 1 -X, 2 +Y, 3 -Y, 4 +Z, 5 -Z (R143). -/
abbrev DoorId := Fin 6
/-- A 12-bit device address: x in [11:8], y in [7:4], z in [3:0] (R32). -/
abbrev DevAddr := BitVec 12
/-- A Newel: Rooms 0 to 31, the Porch's Newel 32 and the Foyer's Newel 33 (R505, R588). -/
abbrev CoreId := Fin 34

end Sys2Proof
end

