-- ==== Sys2Proof/Syntax.lean ====
section
/-!
DEFINITION. Syntax.lean: the commands of the block. Each row of the spec's table of operations and events is one
constructor of `Instr`; its arguments are what comes with the operation or event from outside.
-/
namespace Sys2Proof

/-! ### Management requests -/

/-- Who sent a request: a CAN node, a host mailbox slot, or a device on the fabric (R62, R99, R116). -/
inductive Requester where
  | can (node : BitVec 12)
  | mailbox (wing : WingId) (slot : Fin 4)
  | fabric (device : DevAddr)
  deriving DecidableEq, Repr

/-- The seal of a request (R87). The tag's byte 0 is its least significant byte. -/
structure Seal where
  keyId : Byte
  ver : Byte
  reserved : W16
  counter : W32
  tag : BitVec 64
  deriving DecidableEq, Repr

/-- A complete request stream, parsed (R99, R120), with what its transport adds: sender, sequence, priority and, on the
mailbox, IRQ. -/
structure Request where
  who : Requester
  seq : BitVec 6
  pri : BitVec 3
  act : WingId
  write : Bool
  sealed : Option Seal
  obj : W16
  mem : Byte
  value : List Byte
  irq : Bool
  deriving DecidableEq, Repr

/-- A CAN frame as received: format, identifier and payload (R108, R109). -/
structure CanFrame where
  /-- FD data frame with a 29-bit identifier -/
  fdExtended : Bool
  id : BitVec 29
  payload : List Byte
  deriving DecidableEq, Repr

/-- TAP instructions (R77). -/
inductive TapInstr where
  | bypass | idcode | samplePreload | extest | clamp | other
  deriving DecidableEq, Repr

/-- An access of the host to BAR0, or to a Hatch aperture of BAR2 (R154-R157, R170). -/
inductive BarAccess where
  /-- bytes written at a BAR0 offset -/
  | write (off : Nat) (bs : List Byte)
  /-- bytes read at a BAR0 offset -/
  | read (off n : Nat)
  | winWrite (w : WingId) (off : Nat) (bs : List Byte) (be : List Bool)
  | winRead (w : WingId) (off n : Nat)
  | portWrite (w : WingId) (bs : List Byte) (full : Bool)
  | portRead (w : WingId) (n : Nat)
  /-- NWL_DBG.RESUME of a Room written 1 (R354) -/
  | resume (r : RoomId)
  deriving DecidableEq, Repr

/-- State of a phase base as beacons carry it, in the order of the codes of 0x3000/01 (R188, R214). -/
inductive PhSt where
  | unlocked | acquiring | locked | holdover | virtual
  deriving DecidableEq, Repr

/-- A phase beacon (R214). -/
structure Beacon where
  state : PhSt
  hops : W16
  phase : W48
  delayNs : W32
  mhz : W32
  deriving DecidableEq, Repr

/-- A Fusebox report (R203, R214). -/
structure FuseReport where
  half : W16
  spent : Nat
  floor : Nat
  cap : Nat
  lend : Nat
  borrow : Nat
  fanNeed : Byte
  allot : W32
  deriving DecidableEq, Repr

/-- A Fusebox grant (R204, R214). -/
structure FuseGrant where
  half : W16
  borrow : Nat
  allot : W32
  fan : Byte
  deriving DecidableEq, Repr

/-- The metering of one 2 µs step in µJ: each Room, each shared unit (Cellar, Larder, Doorways, Porch) with the pages,
bytes, flits or frames of each wing, and all the rest (R200, R207). -/
structure StepEnergy where
  rooms : List Nat
  shared : List (Nat × List Nat)
  rest : Nat
  deriving DecidableEq, Repr

/-- Kinds of Cellar read beside a stream's page reads (R223, R243, R249). -/
inductive CellarRead where
  /-- a verify read of a page of an image -/
  | verify (wing : WingId) (image : Fin 32) (page : Nat)
  | reloc
  | scrub
  /-- a page read for a stream of another device: requester, its stream, image, page, tag of the request -/
  | remote (wing : WingId) (requester : DevAddr) (image : Fin 32) (page : Nat) (tag : W16)
  deriving DecidableEq, Repr

/-- A page read in flight on a stack: a stream's page by its place in the pattern, or another read by block and page
position. -/
inductive ReadId where
  | stream (n : Fin 64) (index : Nat)
  | work (block pos : Nat)
  deriving DecidableEq, Repr

/-- States of a cached line; a line in I is not listed (R275). -/
inductive Mesi where
  | m | e | s
  deriving DecidableEq, Repr

/-- Operations of an atomic (R284). -/
inductive AtomOp where
  | add | swap | cas | minS | maxS | minU | maxU
  deriving DecidableEq, Repr

/-- Forms of a load: width and extension (R341). -/
inductive LoadForm where
  | word | half | halfU | byte | byteU
  deriving DecidableEq, Repr

/-- An error that a Room meets on a Newel cycle, beside the load: corrected; an uncorrectable Pantry word or tag of a slot; an
uncorrectable word of the instruction or data memory, by byte offset; outputs of a lockstep pair that differ (R297, R324,
R353). -/
inductive RoomErr where
  | none
  | corrected
  | pantryWord (slot : BitVec 14)
  | tagParity (slot : BitVec 14)
  | memory (off : BitVec 16)
  | lockstep
  deriving DecidableEq, Repr

/-- Sources of requests at the home agents: the coherent caches, the A-stream lines and the requests of other devices
(R275, R282, R283). The other non-caching agents make their accesses in one step and need no name here. -/
inductive Agent where
  | cache (c : CoreId)
  | astream (room : RoomId) (id : Nat)
  | remote (device : DevAddr) (tag : W16) (wing : WingId)
  deriving DecidableEq, Repr

/-- Requests to a home agent (R275, R282, R284, R294). -/
inductive HomeKind where
  | getS
  | getX
  | upg
  /-- a far atomic: operation, operand, compare operand, word of the line -/
  | atom (op : AtomOp) (rs2 cmp : W32) (word : Fin 16)
  | ncRd
  /-- bytes with byte enables, bit i for byte i of the line -/
  | ncWr (data : List Byte) (be : BitVec 64)
  deriving DecidableEq, Repr

/-- A request to the home agent of a line. -/
structure HomeReq where
  kind : HomeKind
  line : Nat
  src : Agent
  deriving DecidableEq, Repr

/-- Hallway coherence messages on their way (R294). -/
inductive MsgKind where
  | fwdGetS | fwdGetX | inv | binv
  | ack | wbPending | dat | wb
  | cmp | wbAck | ncAck | atomDone
  | datS | datE | datM | datNc
  deriving DecidableEq, Repr

/-- One message between the home agent of its line and a cache or agent. -/
structure HMsg where
  kind : MsgKind
  line : Nat
  peer : Agent
  data : List Byte
  poison : Bool
  dirty : Bool
  /-- old value and CONTENDED of an ATOM_DONE -/
  old : W32
  contended : Bool
  deriving DecidableEq, Repr

/-- Kinds of handle queue (R315). -/
inductive HqKind where
  | off | send | receive | local
  deriving DecidableEq, Repr

/-- Packet types (R471), in the order of their TYPE values. -/
inductive PktType where
  | mladyx | beacon | fuse | census | collAbort
  | rdReq | wrReq | atomReq | pageReq | creditDraw
  | rdRsp | wrAck | atomRsp | pageData | creditGrant | refuse
  | chunk | move
  deriving DecidableEq, Repr

/-- A fabric packet (R470, R471). `data` holds the bytes that the spec lays out; `tag`, `param` and `poison` hold the
contents whose place in the data flits the spec leaves open. -/
structure Packet where
  typ : PktType
  vc : Fin 8
  src : DevAddr
  dst : DevAddr
  /-- WING of the header; SEGMENT for MLADYX -/
  wing : WingId
  /-- SPAN_ID of the sender's wing (R51) -/
  span : W16
  /-- SEQUENCE of a MLADYX packet -/
  seq : BitVec 6
  tag : W16
  param : Nat
  poison : Bool
  data : List Byte
  deriving DecidableEq, Repr

/-- A packet of the management class: VC 0, wing 0 (R447, R471). -/
def Packet.mgmt (typ : PktType) (src dst : DevAddr) (data : List Byte) : Packet :=
  { typ := typ, vc := 0, src := src, dst := dst, wing := 0, span := 0, seq := 0, tag := 0, param := 0, poison := false,
    data := data }

/-- What the two ends of a Doorway exchange (R442). -/
structure Exchange where
  door : Fin 6
  addr : DevAddr
  addrSource : Bool
  candidate : Bool
  serialLow : W32
  lanes : BitVec 4
  deriving DecidableEq, Repr

/-- A credit return: class, VC and count; a count of 0 is no return (R448, R469). -/
structure CreditRet where
  cls : Fin 2
  vc : Fin 8
  count : Byte
  deriving DecidableEq, Repr

/-- A packet header in a frame with the whole packet it announces, its dateline class and its START (R452, R470). -/
structure FrameHead where
  pkt : Packet
  cls : Fin 2
  start : Nat
  /-- a reserved header bit is set, or the TYPE is reserved (R453) -/
  malformed : Bool
  deriving DecidableEq, Repr

/-- A frame: the fields of its control flit, the headers in it with their packets, and how many of its data flits carry
the packets of its owner (R434, R452, R469). -/
structure Frame where
  fseq : BitVec 7
  locked : Bool
  nak : Bool
  ackSeq : BitVec 7
  echo : BitVec 2
  echoT : W16
  train : Bool
  owner : WingId
  creditA : CreditRet
  creditB : CreditRet
  heads : List FrameHead
  flits : Nat
  exch : Option Exchange
  deriving DecidableEq, Repr

/-- Stages of Doorway training (R440). -/
inductive TrainStage where
  | detect | equalise | align | lock | exchange
  deriving DecidableEq, Repr

/-- Items of PCIe configuration space that the spec gives a value or an effect (R147-R153). -/
inductive CfgReg where
  | vendorId | deviceId | revisionId | classCode | subVendor | subDevice | interruptPin | serial
  | command | power | deviceControl | msixControl | bar0 | bar2
  deriving DecidableEq, Repr

/-- A value written to a configuration item. -/
inductive CfgWrite where
  /-- Memory Space Enable and Bus Master Enable -/
  | command (mem bm : Bool)
  /-- D3hot or D0 -/
  | power (d3hot : Bool)
  /-- Enable Relaxed Ordering, Max_Payload_Size and Max_Read_Request_Size in bytes -/
  | deviceControl (relaxed : Bool) (payload readReq : Nat)
  /-- MSI-X Enable and Function Mask -/
  | msixControl (en mask : Bool)
  | bar0 (v : BitVec 64)
  | bar2 (v : BitVec 64)
  deriving DecidableEq, Repr

/-- A request on the PCIe link beside memory requests: configuration accesses of a function, I/O and AtomicOps. -/
inductive CfgReq where
  | read (fn : Nat) (r : CfgReg)
  | write (fn : Nat) (w : CfgWrite)
  | io
  | atomicOp
  deriving DecidableEq, Repr

/-! ### The commands -/

/-- The commands of the block: the rows of opcode_table.json, in its order. -/
inductive Instr where
  /-- REGISTER_WRITE (R6) -/
  | registerWrite (off : Nat) (bs : List Byte)
  /-- WING_CREATE (R44) -/
  | wingCreate
  /-- WING_DESTROY (R43) -/
  | wingDestroy
  /-- CLEARING_ZEROING_DONE (R43) -/
  | clearingZeroingDone (w : WingId)
  /-- CONTROL_RUN (R40) -/
  | controlRun
  /-- CONTROL_FREEZE (R42) -/
  | controlFreeze
  /-- CONTROL_THAW (R40) -/
  | controlThaw
  /-- WING_FROZEN (R42) -/
  | wingFrozen (w : WingId)
  /-- HOUSE_FLOOR_WRITE (R46) -/
  | houseFloorWrite
  /-- DEVICE_CAP_WRITE (R139) -/
  | deviceCapWrite
  /-- SOCKET_BUDGET_WRITE (R135) -/
  | socketBudgetWrite
  /-- NOR_WRITE_DONE (R97) -/
  | norWriteDone
  /-- KEY_INSTALL (R71) -/
  | keyInstall
  /-- KEY_REMOVE (R72) -/
  | keyRemove
  /-- PROVISION (R73) -/
  | provision
  /-- FW_IMAGE (R76) -/
  | fwImage
  /-- FW_NOR_UPDATE_DONE (R581) -/
  | fwNorUpdateDone
  /-- DEBUG_UNLOCK (R78) -/
  | debugUnlock
  /-- DEBUG_LOCK (R78) -/
  | debugLock
  /-- ALARM_RESET (R85) -/
  | alarmReset
  /-- LEVEL_MAP (R80) -/
  | levelMap
  /-- SUPPLY_ALARM (R79) -/
  | supplyAlarm
  /-- CLOCK_ALARM (R79) -/
  | clockAlarm
  /-- TEMP_ALARM (R79) -/
  | tempAlarm
  /-- LID_ALARM (R79) -/
  | lidAlarm
  /-- TAP_INSTRUCTION (R77) -/
  | tapInstruction (i : TapInstr)
  /-- ERASE_EPOCH_PROGRAMMED (R83) -/
  | eraseEpochProgrammed
  /-- KEY_FILE_ERASED (R83) -/
  | keyFileErased
  /-- ERASE_SCRUB_DONE (R83) -/
  | eraseScrubDone
  /-- PORCH_SRAM_ZEROED (R83) -/
  | porchSramZeroed
  /-- CAN_FRAME (R109) -/
  | canFrame (f : CanFrame)
  /-- MBX_GO (R117) -/
  | mbxGo (w : WingId) (k : Fin 4) (seg : BitVec 4) (len : Nat) (last : Bool) (irq : Bool)
  /-- MBX_CANCEL (R117) -/
  | mbxCancel (w : WingId) (k : Fin 4)
  /-- MBX_NEXT (R118) -/
  | mbxNext (w : WingId) (k : Fin 4)
  /-- SEG_TIMEOUT (R104) -/
  | segTimeout (who : Requester) (seq : BitVec 6)
  /-- MLADYX_READ (R101) -/
  | mladyxRead
  /-- MLADYX_WRITE (R98) -/
  | mladyxWrite
  /-- MLADYX_ANSWER_SENT (R103) -/
  | mladyxAnswerSent
  /-- ALERT_QUEUE_SEND (R114) -/
  | alertQueueSend
  /-- CAN_BUS_OFF_RECOVERY (R108) -/
  | canBusOffRecovery
  /-- DISTURB_LIMIT_WRITE (R243) -/
  | disturbLimitWrite
  /-- CONFIG_REQUEST (R151) -/
  | configRequest (q : CfgReq)
  /-- FUNCTION_LEVEL_RESET (R152) -/
  | functionLevelReset
  /-- RING_ENABLE (R158) -/
  | ringEnable (w : WingId)
  /-- RING_ENABLE_DONE (R158) -/
  | ringEnableDone (w : WingId)
  /-- RING_DISABLE (R164) -/
  | ringDisable (w : WingId)
  /-- SQ_DOORBELL (R159) -/
  | sqDoorbell (w : WingId) (v : BitVec 12)
  /-- DESCRIPTOR_COPY (R160) -/
  | descriptorCopy (w : WingId)
  /-- COMPLETION_SLOT_RESERVE (R162) -/
  | completionSlotReserve (w : WingId)
  /-- CQ_HEAD_WRITE (R162) -/
  | cqHeadWrite (w : WingId) (v : BitVec 12)
  /-- JOB_NOP (R179) -/
  | jobNop (w : WingId)
  /-- JOB_PROGRAM_LOAD (R179) -/
  | jobProgramLoad (w : WingId)
  /-- PROGRAM_LOAD_DONE (R179) -/
  | programLoadDone (w : WingId) (serial : Nat)
  /-- JOB_RUN (R179) -/
  | jobRun (w : WingId)
  /-- JOB_HATCH_COPY (R174) -/
  | jobHatchCopy (w : WingId)
  /-- HATCH_COPY_DONE (R174) -/
  | hatchCopyDone (w : WingId)
  /-- MSIX_HOLDOFF_EXPIRY (R169) -/
  | msixHoldoffExpiry (v : Fin 32)
  /-- PCIE_COMPLETION (R174) -/
  | pcieCompletion (w : WingId) (tag : Nat) (data : List Byte) (ok : Bool)
  /-- PCIE_COMPLETION_TIMEOUT (R174) -/
  | pcieCompletionTimeout (w : WingId) (tag : Nat)
  /-- JOB_IMAGE_LOAD (R221) -/
  | jobImageLoad (w : WingId)
  /-- IMAGE_LOAD_DONE (R221) -/
  | imageLoadDone (w : WingId) (serial : Nat)
  /-- JOB_IMAGE_COMMIT (R223) -/
  | jobImageCommit (w : WingId)
  /-- JOB_IMAGE_ERASE (R224) -/
  | jobImageErase (w : WingId)
  /-- JOB_COLLECTIVE (R483) -/
  | jobCollective (w : WingId)
  /-- HATCH_WINDOW_WRITE (R171) -/
  | hatchWindowWrite (w : WingId) (off : Nat) (bs : List Byte) (be : List Bool)
  /-- HATCH_WINDOW_READ (R171) -/
  | hatchWindowRead (w : WingId) (off : Nat) (n : Nat)
  /-- HATCH_PORT_WRITE (R172) -/
  | hatchPortWrite (w : WingId) (bs : List Byte) (full : Bool)
  /-- HATCH_PORT_READ (R173) -/
  | hatchPortRead (w : WingId) (n : Nat)
  /-- HATCH_ADDR_WRITE (R181) -/
  | hatchAddrWrite (w : WingId) (a : W64)
  /-- HATCH_FLUSH (R181) -/
  | hatchFlush (w : WingId)
  /-- HATCH_READAHEAD_FILL (R173) -/
  | hatchReadaheadFill (w : WingId)
  /-- PHASE_TICK (R183) -/
  | phaseTick
  /-- HALF_CYCLE_BOUNDARY (R203) -/
  | halfCycleBoundary
  /-- MAINS_EDGE (R188) -/
  | mainsEdge (dt : Nat)
  /-- MAINS_EDGE_MISSING (R188) -/
  | mainsEdgeMissing
  /-- UNLOCKED_DECISION (R188) -/
  | unlockedDecision
  /-- HOLDOVER_EXPIRY (R188) -/
  | holdoverExpiry
  /-- UNLOCKED_ACCOUNT_CLOSE (R210) -/
  | unlockedAccountClose
  /-- BEACON (R191) -/
  | beacon (residence : Nat)
  /-- BEACON_MISSING (R192) -/
  | beaconMissing
  /-- PH_CMP_CLAIM (R194) -/
  | phCmpClaim (n : Fin 64) (w : WingId)
  /-- PH_CMP_RELEASE (R194) -/
  | phCmpRelease (n : Fin 64) (w : WingId)
  /-- PH_CMP_ARM (R195) -/
  | phCmpArm (n : Fin 64) (room : RoomId) (clrLate : Bool) (clrFired : Bool) (event : Bool) (record : Bool)
  /-- PH_CMP_DISARM (R197) -/
  | phCmpDisarm (n : Fin 64) (room : RoomId) (clrLate : Bool) (clrFired : Bool) (event : Bool) (record : Bool)
  /-- PH_CMP_TIME_WRITE (R195) -/
  | phCmpTimeWrite (n : Fin 64) (t : W48)
  /-- PH_CMP_REC_WRITE (R195) -/
  | phCmpRecWrite (n : Fin 64) (a : BitVec 36)
  /-- PH_NOW_LOW_READ (R212) -/
  | phNowLowRead
  /-- FUSE_REPORT (R204) -/
  | fuseReport
  /-- REPORT_DEADLINE (R204) -/
  | reportDeadline
  /-- FUSE_GRANT (R204) -/
  | fuseGrant
  /-- GRANT_DEADLINE (R204) -/
  | grantDeadline
  /-- PMBUS_TRANSACTION_DONE (R199) -/
  | pmbusTransactionDone (r : Fin 4) (ok : Bool) (round : Option (W16 × W16)) (rail : Option (StoreyId × W16))
  /-- STRETCH_STEP (R207) -/
  | stretchStep (e0 : StepEnergy)
  /-- CELLAR_SLOT (R229) -/
  | cellarSlot (i : StoreyId)
  /-- PAGE_READ_DONE (R250) -/
  | pageReadDone (i : StoreyId) (id : ReadId) (ok : Bool)
  /-- RECONSTRUCTION_DONE (R250) -/
  | reconstructionDone (i : StoreyId) (id : ReadId) (ok : Bool)
  /-- PAGE_PROGRAM_DONE (R257) -/
  | pageProgramDone (i : StoreyId) (b : Nat) (pos : Nat) (ok : Bool)
  /-- RATE_UPDATE (R230) -/
  | rateUpdate
  /-- IMAGE_COMMIT_ENTRY (R223) -/
  | imageCommitEntry
  /-- IMAGE_ERASE_ENTRY (R224) -/
  | imageEraseEntry
  /-- RELOCATION_START (R243) -/
  | relocationStart (i : StoreyId)
  /-- MAP_SNAPSHOT_DONE (R257) -/
  | mapSnapshotDone (i : StoreyId)
  /-- BLOCK_ERASE_START (R246) -/
  | blockEraseStart (i : StoreyId) (b : Nat)
  /-- BLOCK_ERASE_DONE (R257) -/
  | blockEraseDone (i : StoreyId) (b : Nat) (ok : Bool)
  /-- SCRUB_PASS_START (R248) -/
  | scrubPassStart (i : StoreyId)
  /-- SCRUB_NOW (R261) -/
  | scrubNow (i : StoreyId)
  /-- DIE_COMMAND_TIMEOUT (R254) -/
  | dieCommandTimeout (i : StoreyId) (d : Fin 9)
  /-- LARDER_REQUEST_SLOT (R269) -/
  | larderRequestSlot (h : Fin 4) (patrolDue : Bool) (errs : Nat)
  /-- GETS (R276) -/
  | gets (line : Nat)
  /-- GETX (R276) -/
  | getx (line : Nat)
  /-- UPG (R276) -/
  | upg (line : Nat)
  /-- ATOM (R284) -/
  | atom (line : Nat)
  /-- NC_RD (R282) -/
  | ncRd (line : Nat)
  /-- NC_WR (R282) -/
  | ncWr (line : Nat)
  /-- FWD_GETS (R277) -/
  | fwdGets (c : CoreId) (line : Nat)
  /-- FWD_GETX (R277) -/
  | fwdGetx (c : CoreId) (line : Nat)
  /-- INV (R277) -/
  | inv (c : CoreId) (line : Nat)
  /-- BINV (R280) -/
  | binv (c : CoreId) (line : Nat)
  /-- ACK (R276) -/
  | ack (c : CoreId) (line : Nat)
  /-- WB_PENDING (R278) -/
  | wbPending (c : CoreId) (line : Nat)
  /-- DAT (R278) -/
  | dat (c : CoreId) (line : Nat)
  /-- WB (R278) -/
  | wb (c : CoreId) (line : Nat)
  /-- CMP (R276) -/
  | cmp (c : CoreId) (line : Nat)
  /-- WB_ACK (R275) -/
  | wbAck (c : CoreId) (line : Nat)
  /-- NC_ACK (R282) -/
  | ncAck (p : Agent) (line : Nat)
  /-- ATOM_DONE (R284) -/
  | atomDone (p : Agent) (line : Nat)
  /-- DAT_S (R276) -/
  | datS (c : CoreId) (line : Nat)
  /-- DAT_E (R276) -/
  | datE (c : CoreId) (line : Nat)
  /-- DAT_M (R276) -/
  | datM (c : CoreId) (line : Nat)
  /-- DAT_NC (R282) -/
  | datNc (p : Agent) (line : Nat)
  /-- LARDER_ACCESS_DONE (R267) -/
  | larderAccessDone (line : Nat) (errs : Nat)
  /-- FAR_ATOMIC_IDLE (R284) -/
  | farAtomicIdle (line : Nat)
  /-- REGION_ENTRY_WRITE (R293) -/
  | regionEntryWrite (n : Fin 16) (reg : Fin 4) (v : W32)
  /-- STORE_BUFFER_DRAIN (R287) -/
  | storeBufferDrain (c : CoreId)
  /-- PANTRY_RANGE_CLAIM (R309) -/
  | pantryRangeClaim (r : RoomId) (range : Fin 16) (task : BitVec 4) (base : BitVec 11) (lenM1 : BitVec 11)
  /-- PANTRY_RANGE_RELEASE (R309) -/
  | pantryRangeRelease (r : RoomId) (range : Fin 16) (task : BitVec 4)
  /-- ROOM_TASK_WRITE (R310) -/
  | roomTaskWrite (r : RoomId) (task : BitVec 4) (range : BitVec 4)
  /-- HQ_CONFIG_WRITE (R315) -/
  | hqConfigWrite (r : RoomId) (q : Fin 32) (kind : HqKind) (task : BitVec 4) (destRoom : RoomId) (destQ : Fin 32) (auxQ : Fin 32)
  /-- LINK_MOVE_START (R318) -/
  | linkMoveStart (r : RoomId) (q : Fin 32)
  /-- LINK_MOVE_DONE (R319) -/
  | linkMoveDone (r : RoomId) (q : Fin 32)
  /-- WAIT_LIMIT_EXPIRY (R322) -/
  | waitLimitExpiry (r : RoomId) (agent : Fin 3)
  /-- STALL_WATCH_FIRE (R327) -/
  | stallWatchFire (r : RoomId)
  /-- STOREY_WATCH_FIRE (R328) -/
  | storeyWatchFire (i : StoreyId)
  /-- ROOM_IDLE (R327) -/
  | roomIdle (r : RoomId)
  /-- ROOM_GANG_WRITE (R325) -/
  | roomGangWrite (i : StoreyId) (gang : Byte) (lockstep : BitVec 4)
  /-- PANTRY_PEEK (R308) -/
  | pantryPeek (r : RoomId) (slot : BitVec 14) (tagSet : Bool)
  /-- PANTRY_FORCE (R308) -/
  | pantryForce (r : RoomId) (slot : BitVec 14) (tagSet : Bool)
  /-- ADD (R357) -/
  | add (c : CoreId)
  /-- SUB (R357) -/
  | sub (c : CoreId)
  /-- AND (R357) -/
  | and (c : CoreId)
  /-- OR (R357) -/
  | or (c : CoreId)
  /-- XOR (R357) -/
  | xor (c : CoreId)
  /-- SLL (R357) -/
  | sll (c : CoreId)
  /-- SRL (R357) -/
  | srl (c : CoreId)
  /-- SRA (R357) -/
  | sra (c : CoreId)
  /-- SLT (R357) -/
  | slt (c : CoreId)
  /-- SLTU (R357) -/
  | sltu (c : CoreId)
  /-- MUL (R357) -/
  | mul (c : CoreId)
  /-- MULH (R357) -/
  | mulh (c : CoreId)
  /-- MULHU (R357) -/
  | mulhu (c : CoreId)
  /-- DIV (R357) -/
  | div (c : CoreId)
  /-- DIVU (R357) -/
  | divu (c : CoreId)
  /-- REM (R357) -/
  | rem (c : CoreId)
  /-- REMU (R357) -/
  | remu (c : CoreId)
  /-- ADDI (R357) -/
  | addi (c : CoreId)
  /-- ANDI (R357) -/
  | andi (c : CoreId)
  /-- ORI (R357) -/
  | ori (c : CoreId)
  /-- XORI (R357) -/
  | xori (c : CoreId)
  /-- SLLI (R357) -/
  | slli (c : CoreId)
  /-- SRLI (R357) -/
  | srli (c : CoreId)
  /-- SRAI (R357) -/
  | srai (c : CoreId)
  /-- SLTI (R357) -/
  | slti (c : CoreId)
  /-- SLTIU (R357) -/
  | sltiu (c : CoreId)
  /-- LUI (R357) -/
  | lui (c : CoreId)
  /-- LDW (R341) -/
  | ldw (c : CoreId) (e : RoomErr)
  /-- LDH (R341) -/
  | ldh (c : CoreId)
  /-- LDHU (R341) -/
  | ldhu (c : CoreId)
  /-- LDB (R341) -/
  | ldb (c : CoreId)
  /-- LDBU (R341) -/
  | ldbu (c : CoreId)
  /-- STW (R341) -/
  | stw (c : CoreId)
  /-- STH (R341) -/
  | sth (c : CoreId)
  /-- STB (R341) -/
  | stb (c : CoreId)
  /-- LDFK (R342) -/
  | ldfk (c : CoreId)
  /-- LDFD (R342) -/
  | ldfd (c : CoreId)
  /-- STF (R342) -/
  | stf (c : CoreId)
  /-- ATOM_ADD (R359) -/
  | atomAdd (c : CoreId)
  /-- ATOM_SWAP (R359) -/
  | atomSwap (c : CoreId)
  /-- ATOM_CAS (R359) -/
  | atomCas (c : CoreId)
  /-- ATOM_MIN_SIGNED (R359) -/
  | atomMinSigned (c : CoreId)
  /-- ATOM_MAX_SIGNED (R359) -/
  | atomMaxSigned (c : CoreId)
  /-- ATOM_MIN_UNSIGNED (R359) -/
  | atomMinUnsigned (c : CoreId)
  /-- ATOM_MAX_UNSIGNED (R359) -/
  | atomMaxUnsigned (c : CoreId)
  /-- BEQ (R357) -/
  | beq (c : CoreId)
  /-- BNE (R357) -/
  | bne (c : CoreId)
  /-- BLT (R357) -/
  | blt (c : CoreId)
  /-- BGE (R357) -/
  | bge (c : CoreId)
  /-- BLTU (R357) -/
  | bltu (c : CoreId)
  /-- BGEU (R357) -/
  | bgeu (c : CoreId)
  /-- JMP (R357) -/
  | jmp (c : CoreId)
  /-- CALL (R336) -/
  | call (c : CoreId)
  /-- JMPR (R357) -/
  | jmpr (c : CoreId)
  /-- CALLR (R336) -/
  | callr (c : CoreId)
  /-- RET (R336) -/
  | ret (c : CoreId)
  /-- LEAVE (R336) -/
  | leave (c : CoreId)
  /-- ENTER (R336) -/
  | enter (c : CoreId)
  /-- RETT (R348) -/
  | rett (c : CoreId)
  /-- NEWEL_END (R345) -/
  | newelEnd (c : CoreId)
  /-- WFI (R351) -/
  | wfi (c : CoreId)
  /-- TRAP (R347) -/
  | trap (c : CoreId)
  /-- BRK (R354) -/
  | brk (c : CoreId)
  /-- FENCE (R289) -/
  | fence (c : CoreId)
  /-- FENCE_R (R289) -/
  | fenceR (c : CoreId)
  /-- IFENCE (R352) -/
  | ifence (c : CoreId)
  /-- SPILL (R337) -/
  | spill (c : CoreId)
  /-- FILL (R337) -/
  | fill (c : CoreId)
  /-- STRA (R344) -/
  | stra (c : CoreId)
  /-- STRX (R344) -/
  | strx (c : CoreId)
  /-- SJOIN (R344) -/
  | sjoin (c : CoreId)
  /-- RDS (R360) -/
  | rds (c : CoreId)
  /-- WRS (R360) -/
  | wrs (c : CoreId)
  /-- PUSHA (R343) -/
  | pusha (c : CoreId)
  /-- PMOV (R343) -/
  | pmov (c : CoreId)
  /-- POPN (R343) -/
  | popn (c : CoreId)
  /-- NEWEL_INTERRUPT (R351) -/
  | newelInterrupt (c : CoreId)
  /-- NWL_DBG_RESUME (R354) -/
  | nwlDbgResume (r : RoomId)
  /-- AS_NOP (R391) -/
  | asNop (r : RoomId)
  /-- LDT (R382) -/
  | ldt (r : RoomId)
  /-- STT (R382) -/
  | stt (r : RoomId)
  /-- LDT_LINE_DONE (R382) -/
  | ldtLineDone (r : RoomId) (id : Nat)
  /-- STT_LINE_DONE (R382) -/
  | sttLineDone (r : RoomId) (id : Nat)
  /-- POPA (R384) -/
  | popa (r : RoomId)
  /-- ADDA (R391) -/
  | adda (r : RoomId)
  /-- QPUSH (R384) -/
  | qpush (r : RoomId)
  /-- QPOP (R384) -/
  | qpop (r : RoomId)
  /-- AS_GLOAD (R376) -/
  | asGload (r : RoomId)
  /-- AS_LOOP (R373) -/
  | asLoop (r : RoomId)
  /-- AS_SKIP (R374) -/
  | asSkip (r : RoomId)
  /-- AS_PSET (R372) -/
  | asPset (r : RoomId)
  /-- AS_PPOP (R372) -/
  | asPpop (r : RoomId)
  /-- AS_PLOOP (R372) -/
  | asPloop (r : RoomId)
  /-- BIND (R387) -/
  | bind (r : RoomId)
  /-- UNBIND (R387) -/
  | unbind (r : RoomId)
  /-- AS_HRECV (R379) -/
  | asHrecv (r : RoomId)
  /-- AS_HSEND (R379) -/
  | asHsend (r : RoomId)
  /-- AS_WAITPH (R386) -/
  | asWaitph (r : RoomId)
  /-- AS_SYNC (R385) -/
  | asSync (r : RoomId)
  /-- AS_END (R365) -/
  | asEnd (r : RoomId)
  /-- WAITPH_DONE (R386) -/
  | waitphDone (r : RoomId) (xs : Bool)
  /-- SYNC_RENDEZVOUS (R385) -/
  | syncRendezvous (r : RoomId)
  /-- XS_LOOP (R395) -/
  | xsLoop (r : RoomId)
  /-- XS_SKIP (R395) -/
  | xsSkip (r : RoomId)
  /-- XS_PSET (R395) -/
  | xsPset (r : RoomId)
  /-- XS_PPOP (R372) -/
  | xsPpop (r : RoomId)
  /-- XS_PLOOP (R395) -/
  | xsPloop (r : RoomId)
  /-- XS_GLOAD (R395) -/
  | xsGload (r : RoomId)
  /-- XS_HRECV (R395) -/
  | xsHrecv (r : RoomId)
  /-- XS_HSEND (R395) -/
  | xsHsend (r : RoomId)
  /-- XS_WAITPH (R395) -/
  | xsWaitph (r : RoomId)
  /-- XS_SYNC (R385) -/
  | xsSync (r : RoomId)
  /-- XS_END (R365) -/
  | xsEnd (r : RoomId)
  /-- COPY (R394) -/
  | copy (r : RoomId)
  /-- FILLC (R394) -/
  | fillc (r : RoomId)
  /-- MMA (R409) -/
  | mma (r : RoomId)
  /-- MMAT (R409) -/
  | mmat (r : RoomId)
  /-- CONV (R411) -/
  | conv (r : RoomId)
  /-- SETH (R413) -/
  | seth (r : RoomId)
  /-- HEARTH_OP_DONE (R414) -/
  | hearthOpDone (r : RoomId)
  /-- SCULLERY_ADD (R428) -/
  | sculleryAdd (r : RoomId)
  /-- SCULLERY_SUB (R428) -/
  | scullerySub (r : RoomId)
  /-- SCULLERY_MUL (R428) -/
  | sculleryMul (r : RoomId)
  /-- MAX (R428) -/
  | max (r : RoomId)
  /-- MIN (R428) -/
  | min (r : RoomId)
  /-- MULG (R428) -/
  | mulg (r : RoomId)
  /-- ROPE (R428) -/
  | rope (r : RoomId)
  /-- EXP (R428) -/
  | exp (r : RoomId)
  /-- SILU (R428) -/
  | silu (r : RoomId)
  /-- GELU (R428) -/
  | gelu (r : RoomId)
  /-- TANH (R428) -/
  | tanh (r : RoomId)
  /-- SWIGLU (R428) -/
  | swiglu (r : RoomId)
  /-- CVT_I8 (R405) -/
  | cvtI8 (r : RoomId)
  /-- CVT_E4M3 (R405) -/
  | cvtE4m3 (r : RoomId)
  /-- CVT_E5M2 (R405) -/
  | cvtE5m2 (r : RoomId)
  /-- CVT_BF16 (R405) -/
  | cvtBf16 (r : RoomId)
  /-- CVT_F32 (R405) -/
  | cvtF32 (r : RoomId)
  /-- CVT_I32 (R405) -/
  | cvtI32 (r : RoomId)
  /-- RMAX (R418) -/
  | rmax (r : RoomId)
  /-- RSUM (R418) -/
  | rsum (r : RoomId)
  /-- RSSQ (R418) -/
  | rssq (r : RoomId)
  /-- RDOT (R418) -/
  | rdot (r : RoomId)
  /-- SLD (R428) -/
  | sld (r : RoomId)
  /-- SST (R428) -/
  | sst (r : RoomId)
  /-- RSQF (R428) -/
  | rsqf (r : RoomId)
  /-- RCPF (R428) -/
  | rcpf (r : RoomId)
  /-- TKCLR (R419) -/
  | tkclr (r : RoomId)
  /-- TOPK (R419) -/
  | topk (r : RoomId)
  /-- TKOUT (R419) -/
  | tkout (r : RoomId)
  /-- TKMRG (R419) -/
  | tkmrg (r : RoomId)
  /-- SAMPLE (R419) -/
  | sample (r : RoomId)
  /-- DWCONV (R420) -/
  | dwconv (r : RoomId)
  /-- SCULLERY_OP_DONE (R421) -/
  | sculleryOpDone (r : RoomId)
  /-- STREAM_DEBUG_RESUME (R388) -/
  | streamDebugResume (r : RoomId)
  /-- DW_FRAME_SEND (R434) -/
  | dwFrameSend (d : DoorId) (t : W16)
  /-- DW_FRAME_RECEIVED (R443) -/
  | dwFrameReceived (d : DoorId) (f : Frame) (crcOk : Bool) (lcrcOk : Bool) (t : W16)
  /-- LOCK_SEARCH_START (R437) -/
  | lockSearchStart (d : DoorId)
  /-- DW_SIGNAL_DETECT (R439) -/
  | dwSignalDetect (d : DoorId) (signal : Bool)
  /-- TRAINING_STAGE_DONE (R440) -/
  | trainingStageDone (d : DoorId) (pass : BitVec 4)
  /-- TRAINING_STAGE_TIMEOUT (R440) -/
  | trainingStageTimeout (d : DoorId)
  /-- DW_DOWN_RETRY (R439) -/
  | dwDownRetry (d : DoorId)
  /-- REPLAY_TIMEOUT (R444) -/
  | replayTimeout (d : DoorId)
  /-- DW_ECHO (R446) -/
  | dwEcho (d : DoorId)
  /-- DW_FAB_CTRL_EN (R439) -/
  | dwFabCtrlEn (en : BitVec 6)
  /-- MLADYX (R115) -/
  | mladyx
  /-- CENSUS_QUERY (R456) -/
  | censusQuery
  /-- CENSUS_ANSWER (R456) -/
  | censusAnswer
  /-- CENSUS_RESULT (R456) -/
  | censusResult
  /-- CENSUS_COMPLETE (R456) -/
  | censusComplete
  /-- CENSUS_NOW (R473) -/
  | censusNow
  /-- RD_REQ (R283) -/
  | rdReq
  /-- WR_REQ (R283) -/
  | wrReq
  /-- ATOM_REQ (R286) -/
  | atomReq
  /-- PAGE_REQ (R231) -/
  | pageReq
  /-- CREDIT_DRAW (R320) -/
  | creditDraw
  /-- RD_RSP (R465) -/
  | rdRsp
  /-- WR_ACK (R471) -/
  | wrAck
  /-- ATOM_RSP (R471) -/
  | atomRsp
  /-- PAGE_DATA (R231) -/
  | pageData
  /-- CREDIT_GRANT (R320) -/
  | creditGrant
  /-- REFUSE (R465) -/
  | refuse
  /-- MOVE (R320) -/
  | move
  /-- REQ_TIMEOUT (R465) -/
  | reqTimeout (tag : W16)
  /-- DW_VC_CLAIM (R451) -/
  | dwVcClaim (d : DoorId) (p : Fin 3) (w : WingId)
  /-- DW_VC_RELEASE (R451) -/
  | dwVcRelease (d : DoorId) (p : Fin 3) (w : WingId)
  /-- DW_ROUTE_WRITE (R463) -/
  | dwRouteWrite (n : Fin 64) (v : W32)
  /-- STW_GROUP_WRITE (R477) -/
  | stwGroupWrite (n : Fin 32) (v : W64)
  /-- COLL_GRANT (R484) -/
  | collGrant
  /-- COLL_DATA_CHUNK (R486) -/
  | collDataChunk
  /-- COLL_CREDIT (R488) -/
  | collCredit
  /-- COLL_ABORT (R493) -/
  | collAbort
  /-- STW_CTX_ABORT (R493) -/
  | stwCtxAbort (i : Fin 8)
  /-- COLL_TIMEOUT (R492) -/
  | collTimeout (i : Fin 8)
  /-- ABORT_HOLD_EXPIRY (R493) -/
  | abortHoldExpiry (i : Fin 8)
  /-- ABORT_RECORD_EXPIRY (R494) -/
  | abortRecordExpiry
  /-- COLL_CHUNK_SEND (R487) -/
  | collChunkSend (i : Fin 8)
  /-- SEGMENT_HANDLE_POP (R482) -/
  | segmentHandlePop (i : Fin 8)
  /-- CLAIM_STREAM (R512) -/
  | claimStream
  /-- RELEASE_STREAM (R513) -/
  | releaseStream
  /-- START (R513) -/
  | start
  /-- STOP (R513) -/
  | stop
  /-- CLAIM_PAGES (R511) -/
  | claimPages
  /-- RELEASE_PAGES (R511) -/
  | releasePages
  /-- PAGE_ZEROED (R511) -/
  | pageZeroed (g : Fin 64)
  /-- CLAIM_PARLOUR (R523) -/
  | claimParlour
  /-- RELEASE_PARLOUR (R523) -/
  | releaseParlour
  /-- PARLOUR_RUN (R523) -/
  | parlourRun
  /-- PARLOUR_STOP (R523) -/
  | parlourStop
  /-- CSI_BURST_START (R507) -/
  | csiBurstStart (port : Fin 2) (vc : Fin 4) (dt : Byte) (wc : W16) (errs : Nat)
  /-- FRAME_START (R507) -/
  | frameStart (port : Fin 2)
  /-- CSI_LINE (R514) -/
  | csiLine (port : Fin 2) (bs : List Byte) (crcOk : Bool)
  /-- FRAME_END (R507) -/
  | frameEnd (port : Fin 2)
  /-- TDM_FS (R514) -/
  | tdmFs (port : Fin 4) (slots : List W32)
  /-- SENSOR_PERIOD (R514) -/
  | sensorPeriod (k : Fin 16)
  /-- SENSOR_TRANSACTION_DONE (R514) -/
  | sensorTransactionDone (k : Fin 16) (rd : List Byte) (ok : Bool)
  /-- PORCH_CONV (R534) -/
  | porchConv
  /-- FC (R534) -/
  | fc
  /-- POOL (R534) -/
  | pool
  /-- PORCH_ADD (R534) -/
  | porchAdd
  /-- MEL (R534) -/
  | mel
  /-- WAITSRC (R516) -/
  | waitsrc
  /-- WAITSRC_DONE (R516) -/
  | waitsrcDone (k : Fin 16)
  /-- PORCH_COPY (R534) -/
  | porchCopy
  /-- RESULT (R522) -/
  | result
  /-- PORCH_JMP (R534) -/
  | porchJmp
  /-- PORCH_WAITPH (R516) -/
  | porchWaitph
  /-- PORCH_WAITPH_DONE (R516) -/
  | porchWaitphDone (k : Fin 16)
  /-- PORCH_END (R534) -/
  | porchEnd
  /-- FRAME_TIMEOUT (R518) -/
  | frameTimeout (k : Option (Fin 16))
  /-- PARLOUR_NOP (R535) -/
  | parlourNop
  /-- PARLOUR_CONV (R535) -/
  | parlourConv
  /-- PARLOUR_FC (R535) -/
  | parlourFc
  /-- PARLOUR_POOL (R535) -/
  | parlourPool
  /-- PARLOUR_RESULT (R529) -/
  | parlourResult
  /-- WAIT (R526) -/
  | wait
  /-- PARLOUR_WAIT_DONE (R526) -/
  | parlourWaitDone
  /-- WRW (R527) -/
  | wrw
  /-- PARLOUR_JMP (R535) -/
  | parlourJmp
  /-- PARLOUR_LOOP (R535) -/
  | parlourLoop
  /-- INPUT (R535) -/
  | input
  /-- INPUT_DONE (R518) -/
  | inputDone
  /-- PARLOUR_END (R535) -/
  | parlourEnd
  /-- PORCH_PAR_RESULT_READ (R529) -/
  | porchParResultRead (w : WingId)
  /-- RES_HEAD_WRITE (R522) -/
  | resHeadWrite (w : WingId) (k : Fin 16) (v : W16)
  /-- VOUT_COMMAND_DONE (R542) -/
  | voutCommandDone (i : StoreyId)
  /-- SETTLE_EXPIRY (R542) -/
  | settleExpiry (i : StoreyId)
  /-- PLL_LOCK_DETECT (R542) -/
  | pllLockDetect (i : StoreyId)
  /-- LOCK_HOLD_EXPIRY (R544) -/
  | lockHoldExpiry (i : StoreyId)
  /-- RELOCK_TIMEOUT (R545) -/
  | relockTimeout (i : StoreyId)
  /-- STOREY_GATE (R554) -/
  | storeyGate (v : W32)
  /-- FOY_DOM_HOLD (R554) -/
  | foyDomHold (v : W32)
  /-- FOY_ROOM_HOLD (R553) -/
  | foyRoomHold (v : W32)
  /-- FOY_ROOM_INVAL (R553) -/
  | foyRoomInval (v : W32)
  /-- ROOM_INVAL_DONE (R281) -/
  | roomInvalDone (r : RoomId)
  /-- POWER_ON_RESET (R556) -/
  | powerOnReset
  /-- POR_END (R565) -/
  | porEnd
  /-- SYS_RESET_N (R556) -/
  | sysResetN (low : Bool)
  /-- PERST_N (R556) -/
  | perstN (low : Bool)
  /-- WATCHDOG_EXPIRY (R559) -/
  | watchdogExpiry
  /-- REF_CLK_LOSS (R556) -/
  | refClkLoss (lost : Bool)
  /-- TRST_N (R556) -/
  | trstN
  /-- HOLDUP_MONITOR (R609) -/
  | holdupMonitor
  /-- DEVICE_RESET_RELEASE (R565) -/
  | deviceResetRelease
  /-- SLOT_VERIFY_DONE (R569) -/
  | slotVerifyDone (jedec : Byte)
  /-- LARDER_TRAINING_DONE (R573) -/
  | larderTrainingDone (rate : W16) (ok : Bool)
  /-- LARDER_ZEROING_DONE (R573) -/
  | larderZeroingDone
  /-- CELLAR_RECOVERY_DONE (R260) -/
  | cellarRecoveryDone (i : StoreyId) (crcA : Bool) (crcB : Bool)
  /-- STACK_TIMEOUT (R574) -/
  | stackTimeout (i : StoreyId)
  /-- HOST_READY (R575) -/
  | hostReady
  /-- FABRIC_TIMEOUT (R576) -/
  | fabricTimeout
  /-- ALARM_SOURCE_CLEARED (R79) -/
  | alarmSourceCleared (src : Fin 4)
  /-- ENGINE_COMMAND_DONE (R520) -/
  | engineCommandDone
  /-- ROOM_ZEROING_DONE (R553) -/
  | roomZeroingDone (r : RoomId)
  /-- EMPTY_LONG_WORD (R365) -/
  | emptyLongWord (r : RoomId)
  /-- MARKER_ABSENT (R436) -/
  | markerAbsent (d : DoorId)
  deriving DecidableEq, Repr

end Sys2Proof
end

