-- ==== Sys2Proof/Decode.lean ====
section
/-!
DEFINITION. Decode.lean: the words of the block's table of commands. No row of the table gives its command any bits (all
422 rows have an empty list of fields), so no word spells a command. The words of the Newel's own instructions (R356-R360)
are data of a Room's instruction memory and are decoded in Machine/NewelDecode.lean.
-/
namespace Sys2Proof

/-- The command that a word of `nbits` bits spells by the table's bits: none, since the table gives no row bits. -/
def decodeTableWord (_nbits _w : Nat) : Option Instr := none

end Sys2Proof
end

