-- ==== Sys2Proof/Config.lean ====
section
/-!
DEFINITION. Config.lean: what the implementation fixes, and the free values. Every `opaque` constant here has no body:
nothing can be proved about its values, so a theorem of the model holds whatever they are.
-/
namespace Sys2Proof.Config
open Sys2Proof

/-- What an unlisted byte of the Larder reads as, by the count of such reads and the address: a line zeroed past XTS
or never written decrypts to no stated value (R43, R83, R265). Free value. -/
opaque larderJunk : Nat → Nat → Byte

/-- The first 64 bits of AES-CMAC of a message under a CA key (R63; the algorithm is NIST's, outside the spec). -/
opaque cmac : BitVec 512 → List Byte → BitVec 64

/-- AES key unwrap of 72 bytes under the KWK; `none` when the integrity check fails (R71). -/
opaque kwUnwrap : BitVec 512 → List Byte → Option (BitVec 512)

/-- The ECDSA P-384 signature of a provisioning record verifies: owner key of the running image, signed bytes,
signature (R73). -/
opaque ownerSigOk : List Byte → List Byte → List Byte → Bool

/-- The public key of a firmware image hashes to FW_KEY_HASH and its signature verifies (R75, R76). -/
opaque imageSigOk : BitVec 384 → List Byte → Bool

/-- SHA-384 of a key equals FW_KEY_HASH: check 2 of R569. -/
opaque keyHashOk : BitVec 384 → List Byte → Bool

/-- The Threshold's internal random source, by draw (R57). Free value. -/
opaque random512 : Nat → BitVec 512

/-- A generic free value of 64 bits, by the free-value counter of the state. -/
opaque free64 : Nat → W64

/-- A free byte of a destination that an event leaves undefined, by the counter and the address. -/
opaque freeByte : Nat → Nat → Byte

/-- A byte of the boot ROM, by its offset (R566, R588). Free value. -/
opaque bootRom : Nat → Byte

/-- Of two zeros with different signs, MAX and MIN give the first (R403, R490; the spec does not say which). Free value. -/
opaque firstZero : Bool

/-- Distance in ulp, from 0 to 8 for -4 to +4, of a function's result from the rounded exact value, by function and operand
(R428). Free value. -/
opaque ulpOff : Nat → Nat → Nat

/-- Of an odd count of padded rows or columns, the greater half lies before the map (R520, R521; the spec does not say
which). Free value. -/
opaque padBefore : Bool

/-- A MEL band, from the samples, FS_HZ, the number of bands and the band (R534; the
spec does not give the filters). Free value. -/
opaque melBand : List Byte → Nat → Nat → Nat → Byte

/-- The result of a function where the spec states none, by function and operand (R428). Free value. -/
opaque openFn : Nat → Nat → W32

end Sys2Proof.Config
end

