-- ==== Sys2Proof/Machine/DataCellar.lean ====
section
/-!
DEFINITION. Machine/DataCellar.lean: the plain data of the Cellar: images, streams and Landing (R216-R238) and upkeep
(R239-R262).
-/
namespace Sys2Proof.Machine
open Sys2Proof

/-- Image state, in the order of the codes of R219. -/
inductive ImgSt where
  | empty | loading | loaded | verifying | committed | erasing
  deriving DecidableEq, Repr

/-- One image of a wing (R216-R224, R234, R235). -/
structure Image where
  st : ImgSt
  quarterPages : W32
  crc : W32
  salt : W64
  shardIndex : W16
  shardCount : W16
  name : List Byte
  build : W64
  /-- data pages programmed and journalled, with their plaintext, page numbers rising (R218, R257) -/
  pages : List (Nat × List Byte)
  /-- local streams and remote-service contexts bound -/
  streams : W16
  rows : W16
  /-- data pages still to verify, ascending (R223) -/
  verifyLeft : List Nat
  lastCond : Cond
  /-- serial of the IMAGE_COMMIT job that waits for the end of VERIFYING -/
  commitJob : Option Nat
  /-- stacks whose map snapshot must still record the image's last state change (R259) -/
  snaps : BitVec 4
  /-- erased while its wing was FREE: its rows return when it is EMPTY (R47) -/
  heldErase : Bool
  deriving DecidableEq, Repr

/-- An EMPTY image: IMAGE_INFO all zero (R219). -/
def Image.none : Image :=
  { st := .empty, quarterPages := 0, crc := 0, salt := 0, shardIndex := 0, shardCount := 0, name := [], build := 0,
    pages := [], streams := 0, rows := 0, verifyLeft := [], lastCond := 0, commitJob := Option.none,
    snaps := 0, heldErase := false }

/-- Cellar stream state, in the order of the codes of CEL_LAND_ID (R237). -/
inductive StreamSt where
  | free | running | draining | faulted | paused
  deriving DecidableEq, Repr

/-- A page in flight or landed: its place in the pattern and its handle (R227). -/
structure FlightPage where
  index : Nat
  page : Nat
  handle : W32
  /-- physical block that serves the read (R246); `none` for a remote page -/
  block : Option Nat
  /-- read-retry step reached, and whether a reconstruction runs (R250) -/
  step : Nat
  rebuilding : Bool
  deriving DecidableEq, Repr

/-- One Cellar stream and its Landing (R225-R230, R236, R237). -/
structure CelStream where
  st : StreamSt
  wing : WingId
  room : RoomId
  image : Fin 32
  remote : Bool
  source : DevAddr
  startPage : Nat
  runPages : Nat
  runs : Nat
  runStride : Nat
  freeQ : Byte
  fullQ : Byte
  rate : Nat
  issued : W32
  delivered : W32
  flight : List FlightPage
  landed : List FlightPage
  cond : Cond
  /-- pages popped from FULL_Q in this 2.048 µs interval (R230) -/
  popped : Nat
  /-- an UNBIND has stopped the issuing of pages (R227) -/
  unbinding : Bool
  deriving DecidableEq, Repr

def CelStream.init : CelStream :=
  { st := .free, wing := 0, room := 0, image := 0, remote := false, source := 0, startPage := 0, runPages := 0,
    runs := 0, runStride := 0, freeQ := 0, fullQ := 0, rate := 0, issued := 0, delivered := 0, flight := [],
    landed := [], cond := 0, popped := 0, unbinding := false }

/-- A remote-service context: a stream bound on another device (R231). -/
structure RemoteCtx where
  used : Bool
  wing : WingId
  requester : DevAddr
  stream : Fin 64
  image : Fin 32
  deriving DecidableEq, Repr

/-- A queued remote page request (R231). -/
structure PageReqQ where
  wing : WingId
  requester : DevAddr
  stream : Fin 64
  image : Fin 32
  page : Nat
  ttd : Nat
  tag : W16
  deriving DecidableEq, Repr

/-- Block state (R240). -/
inductive BlockSt where
  | erased | isOpen | mapped | source | toErase | retired
  deriving DecidableEq, Repr

/-- One pool block of a stack (R240-R252). -/
structure Block where
  st : BlockSt
  reads : W32
  /-- counter value of the last map snapshot (R242) -/
  readsKept : W32
  pe : W16
  seen : BitVec 1536
  suspect : Bool
  /-- retire instead of returning to the pool (R251, R252) -/
  retireAfter : Bool
  /-- reads issued to the block that have not landed (R246) -/
  inflight : Nat
  /-- wing, image, quarter and quarter block index that the block holds (R240) -/
  owner : Option (WingId × Fin 32 × Fin 4 × Nat)
  /-- programmed pages of the block: positions 0-1535 (R243) -/
  programmed : BitVec 1536
  /-- pages with an INTENT and no DONE (R257) -/
  intent : BitVec 1536
  /-- powered time in µs of the last scrub visit (R248, R249) -/
  visited : Nat
  erasing : Bool
  raised620 : Bool
  deriving DecidableEq, Repr

/-- A never-used erased block. -/
def Block.fresh : Block :=
  { st := .erased, reads := 0, readsKept := 0, pe := 0, seen := 0, suspect := false, retireAfter := false,
    inflight := 0, owner := none, programmed := 0, intent := 0, visited := 0, erasing := false, raised620 := false }

/-- Cause of a queued relocation, in the order of R244. -/
inductive RelocCause where
  | recovery | reconstruction | retry | disturb | wear
  deriving DecidableEq, Repr

/-- The relocation that runs on a stack (R243). -/
structure Reloc where
  source : Nat
  target : Nat
  cause : RelocCause
  /-- page positions still to read, and those read and not yet programmed -/
  left : List Nat
  copied : List Nat
  /-- all pages programmed; the snapshot is being written -/
  snapshot : Bool
  deriving DecidableEq, Repr

/-- One copy of the map journal (R257). -/
structure MapCopy where
  seq : W32
  crcOk : Bool
  blocks : List (Nat × Block)
  powered : Nat
  /-- the image table as the snapshot was written -/
  images : Vector (Vector Image 32) 16
  deriving DecidableEq, Repr

/-- A map snapshot of a stack with nothing on it. -/
def MapCopy.init (seq : W32) : MapCopy :=
  { seq := seq, crcOk := true, blocks := [], powered := 0, images := Vector.replicate 16 (Vector.replicate 32 Image.none) }

/-- STACK_STATE (R140). -/
inductive StackSt where
  | normal | degraded | failed
  deriving DecidableEq, Repr

/-- A verify or upkeep read in flight on a stack. -/
structure ReadWork where
  block : Nat
  pos : Nat
  kind : CellarRead
  step : Nat
  rebuilding : Bool
  deriving DecidableEq, Repr

/-- A page program in flight on a stack (R257). -/
structure ProgWork where
  block : Nat
  pos : Nat
  /-- the job's ring and serial; `none` for upkeep -/
  job : Option (WingId × Nat)
  image : WingId × Fin 32
  page : Nat
  data : List Byte
  deriving DecidableEq, Repr

/-- One Cellar stack (R140, R228, R239-R261). -/
structure Stack where
  st : StackSt
  failedDie : Byte
  /-- data dies and parity die (8) declared lost -/
  lostDies : List (Fin 9)
  factoryBad : List Nat
  grownBad : W16
  retriedPages : W64
  relocations : W32
  tagsUsed : Nat
  tagsPeak : W16
  /-- blocks that differ from `Block.fresh`, numbers rising -/
  blocks : List (Nat × Block)
  queue : List (Nat × RelocCause)
  reloc : Option Reloc
  /-- a map snapshot is being written (R257) -/
  snapPending : Bool
  /-- reads of pages of streams are in the streams; other reads in flight -/
  reads : List ReadWork
  progs : List ProgWork
  /-- slot of the frame and frame of the superframe; programs begun in this pair of superframes, all and by wings -/
  slot : Fin 64
  frame : Fin 32
  pairProgs : Nat
  pairWingProgs : Nat
  /-- rotation totals of the wings in each class: read, remote, program (R228) -/
  rotRead : Vector Int 16
  rotRemote : Vector Int 16
  rotProg : Vector Int 16
  /-- last stream served of each isolated wing (R49, R229) -/
  rotStream : Vector (Fin 64) 16
  scrubActive : Bool
  nextBlock : W16
  passes : W16
  /-- effective scrub period in hours (R248) -/
  periodH : W16
  /-- µs of powered time at the end of the last pass, and the kept powered time (R248) -/
  lastPass : Nat
  powered : Nat
  /-- powered time in µs at the start of the last pass (R249) -/
  passStart : Nat
  tmean : BitVec 8
  maps : Vector MapCopy 2
  recovering : Bool
  mapResult : BitVec 2
  discarded : BitVec 10
  orphans : BitVec 10
  reerased : BitVec 10
  /-- consecutive commands a die failed to answer (R254) -/
  dieMisses : Vector Nat 9
  /-- (µs time, die, block) of reconstructions in the last 10 s (R254) -/
  rebuilds : List (Nat × Fin 9 × Nat)
  raised623 : Bool
  raised625 : Bool
  deriving DecidableEq, Repr

/-- The Cellar (R216-R262). -/
structure Cellar where
  images : Vector (Vector Image 32) 16
  imageSelect : Vector Byte 16
  commitLast : Vector Byte 16
  eraseLast : Vector Byte 16
  streams : Vector CelStream 64
  remote : Vector RemoteCtx 16
  pageReqs : List PageReqQ
  stk : Vector Stack 4
  disturbLimit : W32
  scrubDays : W16
  deriving DecidableEq, Repr

/-- A stack of a new device: two empty map copies, the even one the newer (R257). -/
def Stack.init : Stack :=
  { st := .normal, failedDie := 0xFF, lostDies := [], factoryBad := [], grownBad := 0, retriedPages := 0,
    relocations := 0, tagsUsed := 0, tagsPeak := 0, blocks := [], queue := [], reloc := none, snapPending := false, reads := [],
    progs := [], slot := 0, frame := 0, pairProgs := 0, pairWingProgs := 0, rotRead := Vector.replicate 16 0,
    rotRemote := Vector.replicate 16 0, rotProg := Vector.replicate 16 0, rotStream := Vector.replicate 16 0,
    scrubActive := false, nextBlock := 0, passes := 0, periodH := 0, lastPass := 0, powered := 0, passStart := 0, tmean := 0,
    maps := Vector.ofFn fun c : Fin 2 => MapCopy.init (if c = 0 then 2 else 1),
    recovering := false, mapResult := 0, discarded := 0, orphans := 0, reerased := 0, dieMisses := Vector.replicate 9 0,
    rebuilds := [], raised623 := false, raised625 := false }

/-- A remote-service context that is not bound. -/
def RemoteCtx.init : RemoteCtx := { used := false, wing := 0, requester := 0, stream := 0, image := 0 }

/-- The Cellar of a new device: defaults of R140, no image. -/
def Cellar.init : Cellar :=
  { images := Vector.replicate 16 (Vector.replicate 32 Image.none), imageSelect := Vector.replicate 16 0,
    commitLast := Vector.replicate 16 0, eraseLast := Vector.replicate 16 0, streams := Vector.replicate 64 CelStream.init,
    remote := Vector.replicate 16 RemoteCtx.init, pageReqs := [], stk := Vector.replicate 4 Stack.init,
    disturbLimit := 1500000000, scrubDays := 28 }

end Sys2Proof.Machine
end

