-- ==== Sys2Proof/Machine/DataFabric.lean ====
section
/-!
DEFINITION. Machine/DataFabric.lean: the plain data of the Doorways and the Rhadjak fabric (R432-R475) and of the
Stairwell (R476-R503).
-/
namespace Sys2Proof.Machine
open Sys2Proof

/-- DW_STATE, in the order of its codes (R439). -/
inductive DoorSt where
  | absent | training | up | down
  deriving DecidableEq, Repr

/-- A packet queued for a Doorway, with its dateline class after this hop (R462, R470). -/
structure TxPacket where
  pkt : Packet
  cls : Fin 2
  /-- for a packet in transit, the Doorway and class that it came in by, whose credits it holds (R448) -/
  from_ : Option (DoorId × Fin 2)
  deriving DecidableEq, Repr

/-- A packet released to this device: the Doorway and class that it came by (R443, R461). -/
structure RxPacket where
  door : DoorId
  cls : Fin 2
  pkt : Packet
  deriving DecidableEq, Repr

/-- A packet being sent or reassembled, with its class and the data flits still to send or to come. -/
structure PartPacket where
  pkt : Packet
  cls : Fin 2
  left : Nat
  deriving DecidableEq, Repr

/-- A private-channel claim (R451, R473). -/
structure VcClaim where
  held : Bool
  wing : WingId
  deriving DecidableEq, Repr

/-- One Doorway (R432-R453, R473, R474). -/
structure Doorway where
  st : DoorSt
  stage : TrainStage
  laneMask : BitVec 4
  neighbour : Option DevAddr
  /-- what the peer sent in EXCHANGE (R442) -/
  peer : Option Exchange
  crcErrors : W64
  retries : W64
  peerLocked : Bool
  rxLocked : Bool
  delay : W16
  discards : W32
  late : W32
  /-- credits held toward the peer: class 0 and class 1 of each VC (R448) -/
  credits : Vector (Nat × Nat) 8
  /-- credits to return to the peer: VC, class, count (R448) -/
  creditsDue : List (Fin 8 × Fin 2 × Nat)
  txq : List TxPacket
  /-- packet of each OWNER whose data flits are not all sent (R452) -/
  sending : List (WingId × PartPacket)
  /-- reassembly stream of each OWNER (R452) -/
  reasm : List (WingId × PartPacket)
  fseq : BitVec 7
  ackSeq : BitVec 7
  /-- newest FSEQ received good and in order (R444) -/
  rxSeq : BitVec 7
  nak : Bool
  /-- frames after a bad one are discarded until the replayed one (R444) -/
  rxError : Bool
  /-- frames sent and not acknowledged, oldest first (R444) -/
  replay : List Frame
  /-- frames to send again -/
  replayNext : List Frame
  noProgress : Nat
  /-- a frame received with a correct CRC-16, whose LCRC the next control flit carries (R443) -/
  rxHeld : Option Frame
  /-- consecutive frame intervals without the marker (R436) -/
  absentMarks : Nat
  /-- consecutive intervals with the marker at the candidate offset, and those with a good CRC-16 (R436) -/
  lockHits : Nat
  lockCrcOk : Nat
  searching : Bool
  /-- lock was lost and the 64 frame intervals before a search are not over (R437) -/
  lockHold : Bool
  /-- frames sent since the last control flit with a correct CRC-16 came in (R437) -/
  peerAge : Nat
  /-- µs times of returns to TRAINING within the last 10 s (R445) -/
  retrains : List Nat
  rot : Vector Int 16
  /-- local ECHO_T of an echo request sent (R446), and an echo to answer -/
  echoSent : Option W16
  echoDue : Option W16
  echoAsk : Bool
  claims : Vector VcClaim 3
  deriving DecidableEq, Repr

/-- A Doorway at reset: ABSENT, with every register and counter at its reset value (R143, R473, R474). -/
def Doorway.init : Doorway :=
  { st := .absent, stage := .detect, laneMask := 0, neighbour := none, peer := none, crcErrors := 0, retries := 0,
    peerLocked := false, rxLocked := false, delay := 0, discards := 0, late := 0, credits := Vector.replicate 8 (0, 0),
    creditsDue := [], txq := [], sending := [], reasm := [], fseq := 0, ackSeq := 0, rxSeq := 0, nak := false, rxError := false,
    replay := [], replayNext := [], noProgress := 0, rxHeld := none, absentMarks := 0, lockHits := 0, lockCrcOk := 0,
    searching := false, lockHold := false, peerAge := 0, retrains := [], rot := Vector.replicate 16 0, echoSent := none,
    echoDue := none, echoAsk := false, claims := Vector.replicate 3 ⟨false, 0⟩ }

/-- A census answer held by the master (R456). -/
structure CensusAns where
  addr : DevAddr
  assigned : Bool
  serial : W64
  /-- by Doorway, the peer's address and the low half of its serial (R442) -/
  neighbours : List (Option (DevAddr × W32))
  deriving DecidableEq, Repr

/-- Who waits for a remote answer (R465). -/
inductive ReqBy where
  /-- a Newel's access, with the Newel address that a trap reports -/
  | newel (core : CoreId) (va : W32)
  | aLine (room : RoomId) (id : Nat)
  | stream (n : Fin 64) (index : Nat)
  | link (room : RoomId) (q : Fin 32)
  deriving DecidableEq, Repr

/-- A REQ packet or credit draw that has not been answered (R465). -/
structure OutReq where
  tag : W16
  by_ : ReqBy
  dest : DevAddr
  typ : PktType
  /-- quarter pages received of a page request (R452) -/
  got : List Byte
  deriving DecidableEq, Repr

/-- State of the census (R473). -/
inductive CensusSt where
  | none | running | done
  deriving DecidableEq, Repr

/-- The fabric page and census (R454-R465, R473). -/
structure Fabric where
  en : BitVec 6
  epoch : W16
  candidate : Bool
  isMaster : Bool
  assignWait : Bool
  censusSt : CensusSt
  devAddr : DevAddr
  addrSource : Bool
  masterAddr : DevAddr
  /-- devices of the census, rising (0x7000/06) -/
  census : List DevAddr
  torus : W16
  /-- dimensions that are open chains (R456) -/
  open_ : BitVec 3
  reqTimeout : W16
  lowestSeen : Option DevAddr
  answeredEpoch : Option (DevAddr × W16)
  /-- Doorway by which the census query came, and whether its result has come (R456) -/
  upstream : Option DoorId
  resultTaken : Bool
  answers : List CensusAns
  excluded : Bool
  routes : Vector W32 64
  reqs : List OutReq
  nextTag : W16
  /-- packets released to this device and not handled, oldest first (R443, R461) -/
  inbox : List RxPacket
  doors : Vector Doorway 6
  deriving DecidableEq, Repr

/-- The fabric page and census at reset, for a device at a strap address: it is its own census (R143, R454, R455, R473). -/
def Fabric.init (addr : DevAddr) (auto candidate : Bool) : Fabric :=
  { en := 0x3F, epoch := 0, candidate := candidate, isMaster := candidate, assignWait := !auto, censusSt := .none,
    devAddr := addr, addrSource := !auto, masterAddr := addr, census := [addr], torus := 0, open_ := 0, reqTimeout := 500,
    lowestSeen := none, answeredEpoch := none, upstream := none, resultTaken := false, answers := [], excluded := false,
    routes := Vector.replicate 64 0, reqs := [], nextTag := 0, inbox := [], doors := Vector.replicate 6 Doorway.init }

/-- State of a Stairwell context; HELD shows while its wing is frozen (R495, R502). -/
inductive CtxSt where
  | free | starting | running | aborting
  deriving DecidableEq, Repr

/-- A chunk named by its place in the schedule (R485-R487). -/
structure ChunkId where
  seg : Nat
  gather : Bool
  step : Nat
  chunk : Nat
  deriving DecidableEq, Repr

/-- A chunk ready to be sent, or sent and not credited: place, block, data, CRC, originator, SEQ (R488, R489). -/
structure Chunk where
  id : ChunkId
  block : Nat
  data : List Byte
  crc : W32
  origin : DevAddr
  seq : W16
  /-- SEQ of the chunk from the predecessor that is consumed when this one is sent (R488) -/
  seqIn : Option W16
  deriving DecidableEq, Repr

/-- Parameters of a COLLECTIVE job (R498). -/
structure CollParams where
  op : Byte
  redType : Byte
  abortMode : Bool
  group : Fin 32
  collId : W32
  src : Nat
  dst : Nat
  length : Nat
  deriving DecidableEq, Repr

/-- A segment's handle while the handle form works on it (R482). -/
structure SegHandle where
  seg : Nat
  room : RoomId
  handle : W32
  /-- chunks of the segment still to be received -/
  left : Nat
  /-- false for a handle smaller than a segment, which goes back unchanged -/
  used : Bool
  deriving DecidableEq, Repr

/-- One Stairwell context (R481-R493, R502). -/
structure Ctx where
  st : CtxSt
  wing : WingId
  serial : Nat
  par : CollParams
  rank : Nat
  n : Nat
  groupTag : W16
  succ : DevAddr
  pred : DevAddr
  /-- every other member of the group -/
  members : List DevAddr
  /-- the successor's GRANT has been received and agrees; its window (R484) -/
  window : Nat
  sent : W32
  recv : W32
  cause : Cond
  detector : DevAddr
  nextSeq : W16
  /-- next SEQ expected from the predecessor, and those received and not consumed (R488) -/
  inSeq : W16
  unconsumed : List W16
  /-- chunks formed from received ones and not sent -/
  ready : List Chunk
  /-- segments whose own chunks are not all read: segment and next chunk -/
  locals : List (Nat × Nat)
  uncredited : List Chunk
  /-- uncredited chunks to send again (R488) -/
  resend : List Chunk
  /-- bytes written on this member (R491) -/
  written : Nat
  recvLeft : Nat
  sendLeft : Nat
  handles : List SegHandle
  nextSeg : Nat
  /-- aborts taken: cause and detector (R493) -/
  aborts : List (Cond × DevAddr)
  /-- causes of this member's own aborts that wait for the thaw of its wing (R495) -/
  owed : List Cond
  deriving DecidableEq, Repr

/-- The record of a FREE Stairwell context. -/
def Ctx.free : Ctx :=
  { st := .free, wing := 0, serial := 0, par := ⟨0, 0, false, 0, 0, 0, 0, 0⟩, rank := 0, n := 0, groupTag := 0,
    succ := 0, pred := 0, members := [], window := 0, sent := 0, recv := 0, cause := 0,
    detector := 0, nextSeq := 0, inSeq := 0, unconsumed := [], ready := [], locals := [], uncredited := [], resend := [],
    written := 0, recvLeft := 0, sendLeft := 0, handles := [], nextSeg := 0, aborts := [], owed := [] }

/-- A kept abort record (R494). -/
structure AbortRec where
  collId : W32
  groupTag : W16
  wing : WingId
  cause : Cond
  detector : DevAddr
  deriving DecidableEq, Repr

/-- A GRANT from a successor whose collective has not started here (R476, R484). -/
structure PendGrant where
  src : DevAddr
  wing : WingId
  flit : List Byte
  deriving DecidableEq, Repr

/-- The Stairwell (R476-R503). -/
structure Stairwell where
  groups : Vector W64 32
  ctxs : Vector Ctx 8
  abortRecs : List AbortRec
  grants : List PendGrant
  collTimeout : W32
  crcFails : W64
  deriving DecidableEq, Repr

/-- The Stairwell at reset (R143, R502). -/
def Stairwell.init : Stairwell :=
  { groups := Vector.replicate 32 0, ctxs := Vector.replicate 8 Ctx.free, abortRecs := [], grants := [], collTimeout := 20000,
    crcFails := 0 }

end Sys2Proof.Machine
end

