-- ==== Sys2Proof/Machine/DataHost.lean ====
section
/-!
DEFINITION. Machine/DataHost.lean: the plain data of the host interface: PCIe function, rings, jobs, completion,
MSI-X and the Hatches (R146-R182).
-/
namespace Sys2Proof.Machine
open Sys2Proof

/-- The PCIe configuration registers the spec gives an effect, by name (R147-R153). -/
structure PcieCfg where
  /-- Bus Master Enable of the Command register -/
  busMaster : Bool
  memEnable : Bool
  /-- power state: D3hot when true, D0 otherwise (R147, R153) -/
  d3hot : Bool
  enableRelaxed : Bool
  /-- Max_Payload_Size and Max_Read_Request_Size in bytes (R149) -/
  maxPayload : Nat
  maxReadReq : Nat
  msixEnable : Bool
  msixFuncMask : Bool
  bar0 : W64
  bar2 : W64
  deriving DecidableEq, Repr

/-- One MSI-X table entry with its pending bit and its hold-off (R147, R169). -/
structure MsixVec where
  addr : W64
  data : W32
  masked : Bool
  pending : Bool
  /-- HOLDOFF of the vector is running (R169) -/
  holding : Bool
  deriving DecidableEq, Repr

/-- What a dispatched job is doing (R179). -/
inductive JobKind where
  /-- RUN: the Rooms of the mask, those whose program has not ended, and the mask's lowest Room -/
  | run (mask left : W32)
  | programLoad (mask : W32) (src niLen ndLen aLen xLen : Nat)
  | hatchCopy
  /-- IMAGE_LOAD of an image: pages still to program and journal, bytes programmed -/
  | imageLoad (image : Fin 32) (left : List Nat) (src dest : Nat) (done : Nat)
  | imageCommit (image : Fin 32)
  | collective (ctx : Fin 8)
  deriving DecidableEq, Repr

/-- A job dispatched and not completed (R161). -/
structure Job where
  ring : WingId
  /-- order of dispatch in the ring -/
  serial : Nat
  tag : W32
  typ : Byte
  irq : Bool
  late : Bool
  kind : JobKind
  deriving DecidableEq, Repr

/-- The descriptor the dispatcher of a ring holds (R160). -/
structure HeldDesc where
  bytes : List Byte
  /-- a completion slot is reserved and the checks have passed -/
  checked : Bool
  deriving DecidableEq, Repr

/-- Ring page and dispatcher of one wing (R158-R164, R177). -/
structure Ring where
  en : Bool
  active : Bool
  inflight : W16
  sqBase : W64
  sqSize : BitVec 4
  sqTail : BitVec 12
  sqHead : BitVec 12
  cqSize : BitVec 4
  cqBase : W64
  cqHead : BitVec 12
  cqTail : BitVec 12
  phase : Bool
  /-- records written and not released (R162) -/
  unreleased : Nat
  cqMirror : W64
  holdoff : BitVec 10
  attn : BitVec 6
  attnEn : BitVec 6
  ringErr : W16
  jobsDone : W64
  held : Option HeldDesc
  /-- serial number of the next dispatched job -/
  nextSerial : Nat
  /-- jobs whose host signals a Function Level Reset has lost (R152) -/
  lostSignals : List Nat
  deriving DecidableEq, Repr

/-- Ring-page registers at their reset values (R177). -/
def Ring.init : Ring :=
  { en := false, active := false, inflight := 0, sqBase := 0, sqSize := 0, sqTail := 0, sqHead := 0,
    cqSize := 0, cqBase := 0, cqHead := 0, cqTail := 0, phase := false, unreleased := 0, cqMirror := 0, holdoff := 0, attn := 0,
    attnEn := 0, ringErr := 0, jobsDone := 0, held := none, nextSerial := 0, lostSignals := [] }

/-- A Hatch read-ahead line: its wing offset and the snapshot (R173). -/
structure RaLine where
  off : Nat
  bytes : List Byte
  deriving DecidableEq, Repr

/-- A memory read of host memory that the copy engine has outstanding (R174). -/
structure HostRead where
  tag : Nat
  wingOff : Nat
  len : Nat
  deriving DecidableEq, Repr

/-- A HATCH_COPY on the copy engine (R174, R179). -/
structure CopyEngine where
  serial : Nat
  toHost : Bool
  hostAddr : Nat
  wingOff : Nat
  /-- bytes for which no read has been issued yet -/
  left : Nat
  moved : Nat
  nextTag : Nat
  reads : List HostRead
  failed : Option Cond
  deriving DecidableEq, Repr

/-- Hatch control page and state (R171-R174, R181). -/
structure Hatch where
  raDepth : Byte
  winEn : Bool
  raEn : Bool
  errCode : W16
  err : Bool
  addr : BitVec 36
  win : BitVec 36
  count : W64
  lines : List RaLine
  /-- serial of the IMAGE_LOAD job that holds the copy engine -/
  imageJob : Option Nat
  copy : Option CopyEngine
  deriving DecidableEq, Repr

/-- Hatch registers at reset: HATCH_CTRL 0x0000_1000, the rest 0 (R181). -/
def Hatch.init : Hatch :=
  { raDepth := 16, winEn := false, raEn := false, errCode := 0, err := false, addr := 0, win := 0, count := 0,
    lines := [], imageJob := none, copy := none }

/-- The host interface (R146-R182). -/
structure HostIf where
  /-- FOY_HOST_STATUS.READY (R176) -/
  ready : Bool
  cfg : PcieCfg
  msix : Vector MsixVec 32
  rings : Vector Ring 16
  jobs : List Job
  hatches : Vector Hatch 16
  /-- mirror writes held for the return to D0, oldest first (R153) -/
  heldSignals : List (Nat × List Byte)
  /-- a BAR access to a stopped domain, and those that wait behind it, oldest first (R157, R549) -/
  barBlocked : List BarAccess
  deriving DecidableEq, Repr

/-- Configuration items at reset (R152). -/
def PcieCfg.init : PcieCfg :=
  { busMaster := false, memEnable := false, d3hot := false, enableRelaxed := true, maxPayload := 128, maxReadReq := 512,
    msixEnable := false, msixFuncMask := false, bar0 := 0, bar2 := 0 }

/-- An MSI-X vector at reset: masked (R147). -/
def MsixVec.init : MsixVec := { addr := 0, data := 0, masked := true, pending := false, holding := false }

/-- The host interface at reset: not ready. -/
def HostIf.init : HostIf :=
  { ready := false, cfg := PcieCfg.init, msix := Vector.replicate 32 MsixVec.init, rings := Vector.replicate 16 Ring.init,
    jobs := [], hatches := Vector.replicate 16 Hatch.init, heldSignals := [], barBlocked := [] }

end Sys2Proof.Machine
end

