-- ==== Sys2Proof/Machine/DataMgmt.lean ====
section
/-!
DEFINITION. Machine/DataMgmt.lean: the plain data of the wings (R36-R54), the Threshold (R55-R92) and the Mladyx
dictionary server with its transports and log (R93-R125).
-/
namespace Sys2Proof.Machine
open Sys2Proof

/-- Lifecycle state of a wing, in the order of the codes of R39. -/
inductive WingSt where
  | free | populate | run | freezing | frozen | clearing | house
  deriving DecidableEq, Repr

/-- FROZEN_BY, 0x21w0/02: 0 none, 1 host, 2 alarm (R54). -/
inductive FrozenBy where
  | none | host | alarm
  deriving DecidableEq, Repr

/-- One wing: its lifecycle (R39, R40), the resources its create record fixed (R38, R53) and its counters (R54). -/
structure Wing where
  st : WingSt
  frozenBy : FrozenBy
  /-- the state a level 2 alarm found the wing in, to which a THAW returns it (R40) -/
  recorded : WingSt
  /-- a destroy accepted while FREEZING, which acts when the stopping completes (R40) -/
  destroyPending : Bool
  roomMask : W32
  maskCreated : W32
  flags : Byte
  spanId : W16
  celShare : Byte
  doorShare : Byte
  larShare : Byte
  fuseFloor : W16
  fuseCeil : W16
  celQuota : W16
  windowCount : Byte
  windows : Vector W32 8
  abortedJobs : W32
  hatchDiscards : W32
  /-- 64-byte lines of the wing's windows that CLEARING step 5 has still to zero; CLEAR_LEFT is its MiB (R43) -/
  clearLines : Nat
  /-- next wing-offset line that each home agent's zeroing looks at (R43, R269) -/
  clearAt : Vector Nat 4
  /-- step 4 of R43 is done: the keys are gone and the images marked -/
  keysGone : Bool
  deriving DecidableEq, Repr

/-- A FREE wing: every value reads its default (R54). -/
def Wing.free : Wing :=
  { st := .free, frozenBy := .none, recorded := .free, destroyPending := false, roomMask := 0, maskCreated := 0,
    flags := 0, spanId := 0, celShare := 0, doorShare := 0, larShare := 0, fuseFloor := 0, fuseCeil := 0,
    celQuota := 0, windowCount := 0, windows := Vector.replicate 8 0, abortedJobs := 0, hatchDiscards := 0,
    clearLines := 0, clearAt := Vector.replicate 4 0, keysGone := false }

/-- Wing 0, the house wing (R37). -/
def Wing.houseInit : Wing := { Wing.free with st := .house }

/-- The wings at reset: wing 0 in HOUSE, the others FREE (R39). -/
def Wing.allInit : Vector Wing 16 := Vector.ofFn fun w => if w = 0 then Wing.houseInit else Wing.free

/-- The wing entries of object 0x2000 that hold a value of their own (R54). -/
structure WingTop where
  /-- the last accepted create record, 0x2000/03 -/
  createRecord : List Byte
  /-- the last wing named, 0x2000/04 -/
  destroyLast : Byte
  quarantined : W32
  houseFloor : W16
  deriving DecidableEq, Repr

/-- Object 0x2000 at reset (R54). -/
def WingTop.init : WingTop := { createRecord := [], destroyLast := 0, quarantined := 0, houseFloor := 200 }

/-- One CA key's scopes and counters (R59, R68, R69). -/
structure CaKey where
  wingScope : W16
  cmdScope : W16
  last : W32
  persisted : W32
  deriving DecidableEq, Repr

/-- A CA key with no scope and no counter. -/
def CaKey.empty : CaKey := ⟨0, 0, 0, 0⟩

/-- Threshold state, in the order of the codes of R82. -/
inductive ThrSt where
  | unprovisioned | normal | locked | erasing | retired
  deriving DecidableEq, Repr

/-- The fuses (R58). The thermometer fields are held as the number of programmed bits. -/
structure Fuses where
  fwKeyHash : BitVec 384
  deviceSecret : BitVec 256
  serial : W64
  fwSvn : Fin 33
  eraseEpoch : Fin 33
  deriving DecidableEq, Repr

/-- Progress of a level 3 erase: the steps of R83 that are still to be done, and whether the event came in a state
that only scrubs (R82). -/
structure EraseSteps where
  epochLeft : Bool
  keyFileLeft : Bool
  scrubLeft : Bool
  porchLeft : Bool
  deriving DecidableEq, Repr

/-- The Threshold (R55-R92). -/
structure Threshold where
  st : ThrSt
  /-- the key store: slot contents, `none` while empty (R55) -/
  slots : Vector (Option (BitVec 512)) 64
  ca : Vector CaKey 16
  fuses : Fuses
  /-- µs time stamps of the most recent 16 counted failures, newest first (R67) -/
  failTimes : List Nat
  levelMap : W16
  /-- alarm sources asserted now; the event sources only inside their own step (R79) -/
  asserted : Byte
  events : Byte
  lockSource : Byte
  debugWings : W16
  debugScope : BitVec 4
  debugUnlockLast : W32
  keyInstallLast : List Byte
  keyRemoveLast : Byte
  alarmResetLast : Byte
  erase : Option EraseSteps
  /-- the TAP instruction selected (R77) -/
  tap : TapInstr
  /-- the Threshold's 1 MHz count: UPTIME in µs (R67, R137) -/
  us : W64
  deriving DecidableEq, Repr

/-- State of the sealed key file in NOR at a start (R570): what R572 finds there. -/
inductive KeyFileSt where
  | erased | valid | previousEpoch | invalid
  deriving DecidableEq, Repr

/-- What one NOR copy holds: the persistent entries, the sealed key file and the CA counters (R58, R97). -/
structure NorContent where
  /-- persistent entries that differ from their default: (object * 256 + member, value), keys rising -/
  entries : List (Nat × Nat)
  slots : Vector (Option (BitVec 512)) 64
  ca : Vector CaKey 16
  /-- the ERASE_EPOCH count under whose store key the key file is sealed; `none` when erased (R58, R83) -/
  sealedEpoch : Option Nat
  deriving DecidableEq, Repr

/-- One of the two NOR copies: sequence number, whether its CRC-32C is correct, content (R97). -/
structure NorCopy where
  seq : W32
  crcOk : Bool
  content : NorContent
  deriving DecidableEq, Repr

/-- What a pending NOR write will do when both copies are written (R69, R71, R73, R76, R97). -/
inductive NorEffect where
  /-- the value of a persistent entry -/
  | entry
  /-- the persisted value of a CA key, after which the command goes on -/
  | counter (key : Fin 16) (value : W32)
  | keyFile
  | provision
  /-- the firmware image: ended by FW_NOR_UPDATE_DONE -/
  | firmware (slot : Fin 2)
  deriving DecidableEq, Repr

/-- A write being made in NOR: its request, and what takes effect at the end. -/
structure NorPending where
  req : Request
  effect : NorEffect
  /-- a write to an RWA entry or a provisioning record, which an erase discards (R83) -/
  critical : Bool
  deriving DecidableEq, Repr

/-- An answer queued for sending: its request, the abort code and the value read (R99, R121). -/
structure Answer where
  req : Request
  abort : Cond
  value : List Byte
  /-- a BLOCK value, which a CRC-32C follows (R99) -/
  isBlock : Bool
  /-- sending it closes the transaction; false for a segment 0 that opened none (R101, R103) -/
  closes : Bool
  deriving DecidableEq, Repr

/-- An open transaction (R99-R104). -/
structure Txn where
  who : Requester
  seq : BitVec 6
  pri : BitVec 3
  irq : Bool
  nextSeg : BitVec 4
  bytes : List Byte
  complete : Bool
  /-- refused already; later segments are discarded without answer (R101) -/
  refused : Bool
  deriving DecidableEq, Repr

/-- One log and alert record (R122). -/
structure LogRec where
  code : Cond
  wing : Byte
  unit : Byte
  suppressed : Byte
  seq : Byte
  phase : W48
  detail : W32
  deriving DecidableEq, Repr

/-- CAN controller state, in the order of the codes of 0x1010/06 (R124). -/
inductive CanSt where
  | errorActive | errorPassive | busOff
  deriving DecidableEq, Repr

/-- One mailbox slot (R117, R118, R123). -/
structure MbxSlot where
  reqBuf : List Byte
  ansBuf : List Byte
  gen : Byte
  ready : Bool
  more : Bool
  ansSeg : BitVec 4
  ansLen : BitVec 10
  /-- stream bytes of the answer not yet shown -/
  ansRest : List Byte
  irq : Bool
  deriving DecidableEq, Repr

def MbxSlot.empty : MbxSlot :=
  { reqBuf := [], ansBuf := [], gen := 0, ready := false, more := false,
    ansSeg := 0, ansLen := 0, ansRest := [], irq := false }

/-- The CAN rates in force and as last written: 0x1010/01-04 act once the answer has been sent (R112). -/
structure CanRates where
  nomRate : Byte
  dataRate : Byte
  nomSp : Byte
  dataSp : Byte
  deriving DecidableEq, Repr

/-- The Foyer's dictionary server, its transports, log and alert queue (R93-R125). -/
structure Mgmt where
  /-- CAN rates written (read back) and the rates the controller uses (R112) -/
  rates : CanRates
  ratesInForce : CanRates
  alertMask : W16
  canSt : CanSt
  tec : Byte
  recCount : Byte
  framesIgnored : W32
  busOffCount : W32
  alertsLost : W32
  canActMask : W16
  fabActMask : W16
  canEnable : Bool
  segTimeout : W16
  refusedCount : W32
  timeouts : W32
  mbxIgnored : W32
  /-- open transactions, oldest first -/
  txns : List Txn
  /-- complete requests in order of arrival, each with the answers that were queued before it (R102) -/
  ready : List (Request × Nat)
  /-- BLOCK entries claimed by a write: object and member (R103) -/
  blockClaims : List (W16 × Byte × Requester × BitVec 6)
  norPending : Option NorPending
  answers : List Answer
  mbx : Vector (Vector MbxSlot 4) 16
  log : List LogRec
  logCount : W32
  logSelect : Byte
  alertQueue : List LogRec
  /-- alerts lost since the last record sent, saturating (R114) -/
  suppressed : Byte
  /-- last alert sent of each code from each unit, with its µs time (R114) -/
  lastSent : List ((Cond × Byte) × Nat)
  nor : Vector NorCopy 2
  deriving DecidableEq, Repr

/-- The Threshold as POR leaves it: UNPROVISIONED until the Foyer opens the key file, LEVEL_MAP 0x06EA, LOCK_SOURCE 0xFF
(R82, R91, R572). -/
def Threshold.init : Threshold :=
  { st := .unprovisioned, slots := Vector.replicate 64 none, ca := Vector.replicate 16 CaKey.empty,
    fuses := { fwKeyHash := 0, deviceSecret := 0, serial := 0, fwSvn := 0, eraseEpoch := 0 }, failTimes := [],
    levelMap := 0x06EA, asserted := 0, events := 0, lockSource := 0xFF, debugWings := 0, debugScope := 0,
    debugUnlockLast := 0, keyInstallLast := [], keyRemoveLast := 0, alarmResetLast := 0, erase := none, tap := .idcode,
    us := 0 }

/-- A NOR copy of a new device: no persistent entry, no key file. -/
def NorCopy.blank : NorCopy :=
  { seq := 0, crcOk := false,
    content := { entries := [], slots := Vector.replicate 64 none, ca := Vector.replicate 16 CaKey.empty, sealedEpoch := none } }

/-- The dictionary server at reset: defaults of R124, nothing open, an empty log. -/
def Mgmt.init (nor : Vector NorCopy 2) : Mgmt :=
  { rates := ⟨2, 1, 80, 75⟩, ratesInForce := ⟨2, 1, 80, 75⟩, alertMask := 0xFFFE, canSt := .errorActive, tec := 0,
    recCount := 0, framesIgnored := 0, busOffCount := 0, alertsLost := 0, canActMask := 1, fabActMask := 1, canEnable := true,
    segTimeout := 100, refusedCount := 0, timeouts := 0, mbxIgnored := 0, txns := [], ready := [], blockClaims := [],
    norPending := none, answers := [], mbx := Vector.replicate 16 (Vector.replicate 4 MbxSlot.empty), log := [], logCount := 0,
    logSelect := 0, alertQueue := [], suppressed := 0, lastSent := [], nor := nor }

end Sys2Proof.Machine
end

