-- ==== Sys2Proof/Machine/DataPhase.lean ====
section
/-!
DEFINITION. Machine/DataPhase.lean: the plain data of the phase base, its comparators (R183-R198) and the Fusebox
(R199-R215).
-/
namespace Sys2Proof.Machine
open Sys2Proof

/-- One phase comparator (R194-R198, R212). -/
structure Cmp where
  held : Bool
  wing : WingId
  room : RoomId
  missed : Byte
  late : Bool
  fired : Bool
  event : Bool
  record : Bool
  arm : Bool
  time : W48
  recAddr : BitVec 36
  period : W32
  /-- matches delivered since the claim (R213) -/
  fires : W32
  /-- the first match of a freeze, latched for the thaw: its TIME and LATE (R198) -/
  latched : Option (W48 × Bool)
  deriving DecidableEq, Repr

/-- Comparator registers at reset (R212). -/
def Cmp.init : Cmp :=
  { held := false, wing := 0, room := 0, missed := 0, late := false, fired := false, event := false,
    record := false, arm := false, time := 0, recAddr := 0, period := 0, fires := 0, latched := none }

/-- The phase base (R183-R193). Periods are in cycles of the 100 MHz reference. -/
structure PhaseBase where
  time : W48
  st : PhSt
  mainsMhz : W32
  /-- high word latched by the last low-word read of PH_NOW (R212) -/
  nowHigh : W32
  /-- a valid edge stands before the next one (R187) -/
  hadValid : Bool
  /-- the previous valid period (R187) -/
  lastPeriod : Option Nat
  /-- last valid periods, newest first, at most 8 (R187) -/
  periods : List Nat
  /-- consecutive valid periods of 45-65 Hz, each within 0.5% of the one before, newest first (R188) -/
  run : List Nat
  /-- consecutive edges with a phase error of at most 1 tick (R188) -/
  goodEdges : Nat
  /-- consecutive expected edges that did not come (R188) -/
  missingEdges : Nat
  /-- 10 ms decisions of UNLOCKED since the last valid edge, or 1 more than those since UNLOCKED was entered (R188) -/
  quietDecisions : Nat
  /-- mains cycles of holdover used (R188) -/
  holdoverUsed : Nat
  /-- UNLOCKED left for ACQUIRING; phase time starts at the next valid edge (R188) -/
  startPending : Bool
  alignErr : W32
  /-- a beacon has been received since reset or a census of one (R192) -/
  beaconSeen : Bool
  missedBeacons : Nat
  bigErrors : Nat
  virtualOk : Bool
  holdoverMax : W16
  cmps : Vector Cmp 64
  deriving DecidableEq, Repr

/-- A wing's energy account (R203-R207). Energies in mJ; the running spend in µJ. -/
structure WingAccount where
  grant : W32
  spentLast : W32
  capped : W32
  spendUj : Nat
  reached : Bool
  /-- the wing reached its grant in the last closed half-cycle (R203) -/
  reachedLast : Bool
  /-- d_w of the report of the running half-cycle, by which the next grant is split (R203, R206) -/
  demandNext : Nat
  deriving DecidableEq, Repr

def WingAccount.zero : WingAccount :=
  { grant := 0, spentLast := 0, capped := 0, spendUj := 0, reached := false, reachedLast := false, demandNext := 0 }

/-- One telemetry regulator (R199). -/
structure Regulator where
  failsInRow : Nat
  goodInRow : Nat
  /-- three transactions in a row failed; metering is by estimators with margin -/
  failed : Bool
  deriving DecidableEq, Repr

/-- A device's report as the master holds it (R203, R204, R214). -/
structure ReportAt where
  device : DevAddr
  report : FuseReport
  deriving DecidableEq, Repr

/-- The Fusebox (R199-R215). Energies in mJ but for the running spends, in µJ. -/
structure Fusebox where
  /-- written values; each is used from the next half-cycle (R139) -/
  deviceCap : W16
  rampLimit : W16
  socketBudget : W16
  fanCeil : Byte
  /-- values in force in the current half-cycle -/
  rampUsed : W16
  fanCeilUsed : Byte
  /-- usable grant U of the current half-cycle, GRANT -/
  grant : W32
  spentLast : W32
  lentLast : W32
  borrowedLast : W32
  powerNow : W16
  fanDuty : W16
  wings : Vector WingAccount 16
  houseUj : Nat
  /-- standing allotment in 10 mW (R201) -/
  allot : W32
  /-- excess of the last half-cycle (R205) -/
  excess : Nat
  /-- thermal derate in watts (R211) -/
  derateW : Nat
  ceilingLifted : Bool
  /-- hottest sensor, 0.1 °C (R145, R211) -/
  junction : W32
  vddCoreMv : W16
  regs : Vector Regulator 4
  /-- the Fusebox is armed: reports, grants and DVFS follow R203 to R209 (R578) -/
  armed : Bool
  /-- half-cycle index of the last boundary (R184) -/
  half : Option Nat
  /-- LEND that the last report bound, for the next half-cycle (R203) -/
  lend : Nat
  /-- BORROW_GRANTED for the next half-cycle, and whether a grant for it has come (R204) -/
  borrowGranted : Nat
  grantSeen : Bool
  /-- LEND and loan of the half-cycle now running -/
  lendUsed : Nat
  borrowUsed : Nat
  /-- reports held at the master device for the current half-cycle (R204) -/
  reports : List ReportAt
  /-- FAN_APPLIANCE of the last grant (R211) -/
  fanAppliance : Byte
  /-- 2 µs steps since the half-cycle began (R207) -/
  steps : Nat
  /-- energy of each Storey's Rooms in this half-cycle, µJ, and in the closed one (R209) -/
  storeyUj : Vector Nat 4
  storeyLastUj : Vector Nat 4
  /-- sum over the steps of the stretch levels of each Storey's Rooms (R209) -/
  stretchSum : Vector Nat 4
  /-- stretch level of each Room (R207) -/
  stretch : Vector (BitVec 4) 32
  /-- DEVICE_CAP of each device, held at the master for R201 -/
  caps : List (DevAddr × Nat)
  deriving DecidableEq, Repr

/-- The phase base at reset: UNLOCKED at time 0, defaults of R138. -/
def PhaseBase.init : PhaseBase :=
  { time := 0, st := .unlocked, mainsMhz := 0, nowHigh := 0, hadValid := false, lastPeriod := none, periods := [], run := [],
    goodEdges := 0, missingEdges := 0, quietDecisions := 1, holdoverUsed := 0, startPending := false, alignErr := 0,
    beaconSeen := false, missedBeacons := 0, bigErrors := 0, virtualOk := true, holdoverMax := 250,
    cmps := Vector.replicate 64 Cmp.init }

/-- The Fusebox at reset: defaults of R139, not armed, fans at 0% (R572). -/
def Fusebox.init : Fusebox :=
  { deviceCap := 2800, rampLimit := 200, socketBudget := 600, fanCeil := 35, rampUsed := 200,
    fanCeilUsed := 35, grant := 0, spentLast := 0, lentLast := 0, borrowedLast := 0, powerNow := 0,
    fanDuty := 0, wings := Vector.replicate 16 WingAccount.zero, houseUj := 0, allot := 2800, excess := 0, derateW := 0,
    ceilingLifted := false, junction := 0, vddCoreMv := 0, regs := Vector.replicate 4 ⟨0, 0, false⟩, armed := false,
    half := none, lend := 0, borrowGranted := 0, grantSeen := false, lendUsed := 0, borrowUsed := 0, reports := [],
    fanAppliance := 0, steps := 0, storeyUj := Vector.replicate 4 0, storeyLastUj := Vector.replicate 4 0,
    stretchSum := Vector.replicate 4 0, stretch := Vector.replicate 32 0, caps := [] }

end Sys2Proof.Machine
end

