-- ==== Sys2Proof/Machine/DataPorch.lean ====
section
/-!
DEFINITION. Machine/DataPorch.lean: the plain data of the Porch and the Parlour (R504-R538).
-/
namespace Sys2Proof.Machine
open Sys2Proof

/-- Porch stream state, in the order of the codes of 0x80k0/01 (R144, R513). -/
inductive PStreamSt where
  | free | claimed | held | running | paused | stopped
  deriving DecidableEq, Repr

/-- What a Porch list waits for (R516). -/
inductive PWait where
  | none
  /-- WAITSRC for a line, counted from 0, of the frame with a number of frame starts since START, or of a later one -/
  | line (start n : Nat)
  /-- WAITSRC for a count of samples since START -/
  | sample (n : Nat)
  /-- WAITSRC for a count of frames since START -/
  | frame (n : Nat)
  | phase (target : W48)
  deriving DecidableEq, Repr

/-- A frame being captured into the next buffer (R507, R514). -/
structure Capture where
  /-- phase time of the frame's start -/
  stamp : W48
  /-- lines or samples landed -/
  count : Nat
  bad : Bool
  deriving DecidableEq, Repr

/-- A frame that the Parlour has not read: its buffer and its stamp (R526, R533). -/
structure UnreadFrame where
  buffer : Nat
  stamp : W48
  deriving DecidableEq, Repr

/-- One Porch stream (R512-R522, R532). -/
structure PStream where
  st : PStreamSt
  owner : WingId
  kind : Byte
  lastCond : Cond
  record : List Byte
  frames : W32
  framePhase : W48
  samples : W64
  resHead : W16
  resTail : W16
  resPhase : Bool
  /-- ring slots written and not released (R522) -/
  unreleased : Nat
  gen : Byte
  ready : Bool
  cls : W16
  score : W32
  delivered : W64
  dropped : W32
  /-- Porch SRAM offset of the list's next command -/
  pc : Nat
  /-- the list has started and has not ended -/
  listOn : Bool
  sampleMark : Nat
  frameMark : Nat
  phaseMark : W48
  wait : PWait
  /-- phase time at which the last wait ended (R533) -/
  waitStamp : W48
  /-- the engine performs the list's command and has not finished it (R520) -/
  issued : Bool
  /-- results of the list since START (R533) -/
  hops : Nat
  capture : Option Capture
  /-- frame starts since START, and the lines landed of the last of them (R516) -/
  starts : Nat
  lines : Nat
  /-- number of the buffer the next frame lands in -/
  nextBuf : Nat
  /-- completed frames the Parlour has not read (R526) -/
  unread : List UnreadFrame
  /-- state a freeze or pause found, for the thaw -/
  before : PStreamSt
  deriving DecidableEq, Repr

/-- A FREE stream: STATE 0, OWNER reads 0xFF, the rest 0 (R144). -/
def PStream.init : PStream :=
  { st := .free, owner := 0, kind := 0, lastCond := 0, record := [], frames := 0, framePhase := 0, samples := 0,
    resHead := 0, resTail := 0, resPhase := false, unreleased := 0, gen := 0, ready := false, cls := 0, score := 0,
    delivered := 0, dropped := 0, pc := 0, listOn := false, sampleMark := 0, frameMark := 0, phaseMark := 0,
    wait := .none, waitStamp := 0, issued := false, hops := 0, capture := none, starts := 0, lines := 0, nextBuf := 0,
    unread := [], before := .free }

/-- One 64 KiB page of Porch SRAM (R511, R536). -/
structure PPage where
  held : Bool
  wing : WingId
  zeroing : Bool
  deriving DecidableEq, Repr

/-- One Porch mailbox (R510). -/
structure PMailbox where
  request : List Byte
  gen : Byte
  ready : Bool
  busy : Bool
  cond : Cond
  value : W32
  deriving DecidableEq, Repr

/-- Parlour context state, in the order of its codes (R523, R536). -/
inductive ParlourSt where
  | free | claimed | running | waiting | paused | stopped
  deriving DecidableEq, Repr

/-- What a waiting Parlour waits for (R526). -/
inductive ParlourWait where
  | none
  | phase (target : W48)
  | input
  deriving DecidableEq, Repr

/-- A Parlour command as fetched: its address, and the bytes of the window from there, at most 16 (R527). -/
structure ParFetch where
  at_ : Nat
  bytes : List Byte
  deriving DecidableEq, Repr

/-- The Parlour context (R523-R529, R536, R537). -/
structure Parlour where
  st : ParlourSt
  owner : WingId
  /-- page of the window -/
  base : Byte
  stream : Option (Fin 16)
  ringAddr : Nat
  /-- log of the ring's slots -/
  ringLog : Nat
  resTail : W16
  resPhase : Bool
  unreleased : Nat
  /-- the command it executes and the one it executes next (R527) -/
  cur : ParFetch
  next : ParFetch
  mark : W48
  /-- LOOP counter, with the address of the LOOP that loaded it (R528) -/
  loop : W16
  loopAt : Nat
  wait : ParlourWait
  waitStamp : W48
  /-- the list has started and has not ended -/
  listOn : Bool
  issued : Bool
  /-- PARLOUR_RUN came while the wing was in POPULATE -/
  held : Bool
  hops : Nat
  /-- buffer of the frame last copied (R533) -/
  buffer : Nat
  cond : Cond
  rdy : Bool
  score : Byte
  cls : W16
  before : ParlourSt
  deriving DecidableEq, Repr

/-- The Parlour context free. -/
def Parlour.init : Parlour :=
  { st := .free, owner := 0, base := 0, stream := none, ringAddr := 0, ringLog := 0, resTail := 0, resPhase := false,
    unreleased := 0, cur := ⟨0, []⟩, next := ⟨0, []⟩, mark := 0, loop := 0, loopAt := 0, wait := .none, waitStamp := 0,
    listOn := false, issued := false, held := false, hops := 0, buffer := 0, cond := 0, rdy := false, score := 0,
    cls := 0, before := .free }

/-- Who asked for the engine's command: a stream's list or the Parlour (R520). -/
inductive EngineBy where
  | stream (k : Fin 16)
  | parlour
  deriving DecidableEq, Repr

/-- A wing's claim of a port's pins (R512). -/
structure PortClaim where
  held : Bool
  wing : WingId
  deriving DecidableEq, Repr

/-- A CSI-2 packet header: virtual channel, data type, word count (R506, R507). -/
structure CsiHeader where
  vc : Fin 4
  dt : Byte
  wc : W16
  deriving DecidableEq, Repr

/-- The Porch (R504-R538). -/
structure Porch where
  streams : Vector PStream 16
  sram : List Host.Cell
  pages : Vector PPage 64
  mailboxes : Vector PMailbox 16
  /-- wings whose mailbox request waits, in the order of their GO writes (R510) -/
  arrivals : List WingId
  /-- the command the engine runs, and lists whose wait has ended, oldest first (R520) -/
  running : Option EngineBy
  queue : List EngineBy
  parlour : Parlour
  csi : Vector PortClaim 2
  /-- packet header of the burst on each CSI-2 port (R507) -/
  headers : Vector (Option CsiHeader) 2
  tdm : Vector PortClaim 4
  sensors : Vector PortClaim 4
  deriving DecidableEq, Repr

def PMailbox.init : PMailbox :=
  { request := [], gen := 0, ready := false, busy := false, cond := 0, value := 0 }

/-- The Porch at reset: every stream, page, port and the Parlour free. -/
def Porch.init : Porch :=
  { streams := Vector.replicate 16 PStream.init, sram := [], pages := Vector.replicate 64 ⟨false, 0, false⟩,
    mailboxes := Vector.replicate 16 PMailbox.init, arrivals := [], running := none, queue := [], parlour := Parlour.init,
    csi := Vector.replicate 2 ⟨false, 0⟩, headers := Vector.replicate 2 none, tdm := Vector.replicate 4 ⟨false, 0⟩,
    sensors := Vector.replicate 4 ⟨false, 0⟩ }

end Sys2Proof.Machine
end

