-- ==== Sys2Proof/Machine/DataLarder.lean ====
section
/-!
DEFINITION. Machine/DataLarder.lean: the plain data of the Larder, its request slots, the home agents with directory,
trackers and far-atomic buffer, the 34 caches and the Hallway region table (R263-R295).
-/
namespace Sys2Proof.Machine
open Sys2Proof

/-- A cache line: its line number (address / 64), MESI state, 64 bytes, POISON (R275). -/
structure CacheLine where
  line : Nat
  st : Mesi
  data : List Byte
  poison : Bool
  deriving DecidableEq, Repr

/-- One coherent cache (R275-R278): lines most recently used first. -/
structure Cache where
  lines : List CacheLine
  /-- the one outstanding request (R275) -/
  req : Option HomeReq
  /-- the writeback slot: an M line that waits for WB_ACK -/
  wb : Option CacheLine
  /-- a snoop held until the awaited DAT has arrived (R277) -/
  heldSnoop : Option HMsg
  deriving DecidableEq, Repr

def Cache.empty : Cache := { lines := [], req := none, wb := none, heldSnoop := none }

/-- State of a directory entry (R276): S with a sharer vector, or X with its owner. -/
inductive DirSt where
  | shared (sharers : BitVec 34)
  | owned (owner : CoreId)
  deriving DecidableEq, Repr

/-- A directory entry; entries of a set stand most recently used first (R276, R280). -/
structure DirEntry where
  line : Nat
  st : DirSt
  deriving DecidableEq, Repr

/-- What a tracker waits for. -/
inductive TrackPhase where
  /-- accepted, not yet handled (R270, R276) -/
  | accepted
  /-- waits for the answers of a directory victim's holders (R280) -/
  | evicting (victim : Nat) (acks : BitVec 34)
  /-- waits for snoop answers from these caches -/
  | snooping (acks : BitVec 34)
  /-- waits for the Larder read -/
  | reading
  deriving DecidableEq, Repr

/-- A request in its tracker, oldest acceptance first in a home (R270). -/
structure Tracker where
  req : HomeReq
  phase : TrackPhase
  /-- a FWD or INV has been sent to another cache for this request (R284, R285) -/
  snooped : Bool
  /-- a snoop answer brought the line (R276) -/
  gotData : Bool
  /-- a snooped cache answered WB_PENDING: its WB is awaited (R278) -/
  wbWait : Bool
  deriving DecidableEq, Repr

/-- A line of the far-atomic buffer; newest first (R284). -/
structure FarLine where
  line : Nat
  data : List Byte
  poison : Bool
  lastBy : Agent
  deriving DecidableEq, Repr

/-- One home agent (R264-R284). -/
structure Home where
  dir : List DirEntry
  trackers : List Tracker
  far : List FarLine
  /-- WB data received before the WB_PENDING answer, by cache (R278) -/
  wbData : List (CoreId × Nat × List Byte × Bool)
  /-- next line of the patrol (R268) -/
  patrol : Nat
  /-- rotation totals and slot of the request-slot frame (R269) -/
  rot : Vector Int 16
  slot : Fin 64
  deriving DecidableEq, Repr

/-- One Hallway region-table entry (R293). -/
structure Region where
  base : BitVec 15
  limit : BitVec 15
  uncached : Bool
  en : Bool
  deriving DecidableEq, Repr

/-- Store-buffer entry of a Newel (R287). -/
structure StoreEntry where
  addr : W48
  /-- the Newel address that a trap reports -/
  va : W32
  bytes : List Byte
  deriving DecidableEq, Repr

/-- The Larder, the Hallway and coherence (R263-R295). -/
structure Larder where
  /-- plaintext of every line written since it was last zeroed; unlisted bytes are unpredictable (R265) -/
  mem : List Host.Cell
  /-- lines whose stored POISON is set, rising (R266, R267) -/
  poison : List Nat
  /-- writes of the device's own that wait for a line's transaction to end: address and bytes (R196) -/
  posted : List (Nat × List Byte)
  /-- counts reads of unpredictable contents (model's own, for the free value) -/
  junk : Nat
  /-- XTS engines refuse every access until the scrub of a level 3 erase ends (R83) -/
  refuseAll : Bool
  fitted64 : Bool
  rateMts : W16
  ceCount : W32
  ueCount : W32
  lastUeAddr : W64
  patrolOn : Bool
  atomicPolicy : Byte
  dirEvictions : W64
  backInvals : W64
  farAtomics : W64
  homes : Vector Home 4
  /-- requests waiting at each home agent pair, oldest first, each with the wing charged (R269) -/
  waiting : Vector (List (WingId × HomeReq)) 2
  caches : Vector Cache 34
  /-- Hallway messages on their way, in the order sent (R272, R294) -/
  net : List HMsg
  regions : Vector Region 16
  deriving DecidableEq, Repr

def Home.init : Home :=
  { dir := [], trackers := [], far := [], wbData := [], patrol := 0, rot := Vector.replicate 16 0, slot := 0 }

/-- The Larder at reset: not trained, its contents unpredictable, defaults of R141, region table zero (R293). -/
def Larder.init (fitted64 : Bool) : Larder :=
  { mem := [], poison := [], posted := [], junk := 0, refuseAll := false, fitted64 := fitted64, rateMts := 0, ceCount := 0,
    ueCount := 0, lastUeAddr := 0, patrolOn := true, atomicPolicy := 0, dirEvictions := 0, backInvals := 0, farAtomics := 0,
    homes := Vector.replicate 4 Home.init, waiting := Vector.replicate 2 [], caches := Vector.replicate 34 Cache.empty, net := [],
    regions := Vector.replicate 16 ⟨0, 0, false, false⟩ }

end Sys2Proof.Machine
end

