-- ==== Sys2Proof/Machine/DataRoom.lean ====
section
/-!
DEFINITION. Machine/DataRoom.lean: the plain data of a Room: Pantry, tags, ranges, queues, links (R296-R333), Newel
(R334-R361), A-stream and X-stream (R362-R398), Hearth and Scullery (R399-R431), and of a Storey.
-/
namespace Sys2Proof.Machine
open Sys2Proof

/-- ROOM_STATE, in the order of its codes (R142). -/
inductive RoomSt where
  | idle | loading | running | frozen | halted | watched | quarantined | debugHalt
  deriving DecidableEq, Repr

/-- BLOCK_REASON of an agent, in the order of its codes (R142). -/
inductive BlockReason where
  | none | pantryTag | dataQueue | handleQueue | token | waitph | inflight | sync
  deriving DecidableEq, Repr

/-- A claimable Pantry range (R309, R330). -/
structure PRange where
  held : Bool
  wing : WingId
  task : BitVec 4
  base : BitVec 11
  lenM1 : BitVec 11
  deriving DecidableEq, Repr

def PRange.init : PRange := { held := false, wing := 0, task := 0, base := 0, lenM1 := 0 }

/-- A data queue: entries oldest first, each a value and a token; the value last popped (R311, R313). -/
structure DataQ where
  entries : List (W64 × Byte)
  lastPopped : W64
  deriving DecidableEq, Repr

def DataQ.init : DataQ := { entries := [], lastPopped := 0 }

/-- A link move in flight, oldest first: handles, destination, and what has been done (R318-R320). -/
structure LinkMove where
  hp : W32
  hc : W32
  destRoom : RoomId
  destQ : Fin 32
  returnQ : Fin 32
  /-- the move goes to another device: its address -/
  remote : Option DevAddr
  deriving DecidableEq, Repr

/-- One handle queue and, for SEND, its link engine (R315-R320, R330). -/
structure HandleQ where
  kind : HqKind
  task : BitVec 4
  destRoom : RoomId
  destQ : Fin 32
  auxQ : Fin 32
  dev : DevAddr
  moves : W16
  handles : List W32
  flight : List LinkMove
  /-- a credit draw sent to another device, by its tag (R320) -/
  draw : Option W16
  deriving DecidableEq, Repr

def HandleQ.init : HandleQ :=
  { kind := .off, task := 0, destRoom := 0, destQ := 0, auxQ := 0, dev := 0, moves := 0, handles := [],
    flight := [], draw := none }

/-- What a Newel is doing between instructions. -/
inductive NewelWait where
  | ready
  /-- a load that misses or is remote: destination, form, device address, Newel address (R275, R341) -/
  | load (rd : BitVec 5) (form : LoadForm) (addr : W48) (va : W32)
  /-- a near atomic waiting for the line in M (R284) -/
  | nearAtom (rd : BitVec 5) (op : AtomOp) (rs2 : W32) (cmp : W32) (addr : W48) (va : W32)
  /-- a far or remote atomic waiting for its result (R284, R286) -/
  | farAtom (rd : BitVec 5) (addr : W48) (va : W32)
  /-- waiting with a BLOCK_REASON; the instruction is tried again. WFI waits with reason 5 -/
  | blocked (why : BlockReason)
  /-- ended by END, or halted -/
  | ended
  deriving DecidableEq, Repr

/-- One Newel (R334-R360). -/
structure Newel where
  pc : W32
  /-- FRM, RES, IE, TM of NWL_PSR (R360) -/
  frm : BitVec 4
  res : BitVec 4
  ie : Bool
  tm : Bool
  globals : Vector W32 8
  /-- 16 windows of 6 outs and 10 locals (R335, R336) -/
  outs : Vector (Vector W32 6) 16
  locals : Vector (Vector W32 10) 16
  shadow : Vector W32 8
  tpsr : W32
  tpc : W32
  cause : Byte
  tval : W32
  tcond : W16
  tbr : W32
  trapen : W32
  ien : BitVec 5
  /-- PHASE and STREAM, latched; with the comparator and stream that raised them (R347, R351) -/
  pendPhase : Bool
  pendStream : Bool
  phaseSrc : W32
  streamSrc : W32
  qhi : W32
  cycleHi : W32
  phaseHi : W32
  hqSel : W32
  dbgHalt : Bool
  bkpt : Vector W32 2
  wsp : W32
  segs : Vector W32 8
  retired : W64
  /-- the fetch buffer: two words fetched ahead (R352) -/
  fetchBuf : List W32
  wait : NewelWait
  /-- the next instruction executes without a breakpoint match (R354) -/
  skipBreak : Bool
  stores : List StoreEntry
  predictor : Vector (BitVec 2) 256
  /-- remote writes and atomics issued and not acknowledged (R289) -/
  remoteOut : Nat
  imem : List Host.Cell
  dmem : List Host.Cell
  deriving DecidableEq, Repr

/-- Newel registers at reset: all zero (R360); the register file, for which the spec gives no value, zero as well. -/
def Newel.init : Newel :=
  { pc := 0, frm := 0, res := 0, ie := false, tm := false, globals := Vector.replicate 8 0,
    outs := Vector.replicate 16 (Vector.replicate 6 0), locals := Vector.replicate 16 (Vector.replicate 10 0),
    shadow := Vector.replicate 8 0, tpsr := 0, tpc := 0, cause := 0, tval := 0, tcond := 0, tbr := 0, trapen := 0,
    ien := 0, pendPhase := false, pendStream := false, phaseSrc := 0, streamSrc := 0, qhi := 0,
    cycleHi := 0, phaseHi := 0, hqSel := 0, dbgHalt := false, bkpt := Vector.replicate 2 0, wsp := 0,
    segs := Vector.replicate 8 0, retired := 0, fetchBuf := [], wait := .ended, skipBreak := false, stores := [],
    predictor := Vector.replicate 256 0, remoteOut := 0, imem := [], dmem := [] }

/-- How a generator holds handles (R376, R379-R381). -/
inductive GenHold where
  | none
  /-- after HRECV: the handle, BASE at the HRECV and the queue it came from -/
  | handle (h : W32) (baseH : W32) (hq : Fin 32)
  /-- chain leader: SIZE of the chain, number of the first handle held, handles in order, number of the next -/
  | chain (size : Nat) (first : Nat) (held : List W32)
  deriving DecidableEq, Repr

/-- An address generator (R376, R396). -/
structure Gen where
  loaded : Bool
  base : W32
  pitch : W16
  half : Bool
  padchk : Bool
  chain : Bool
  follow : Bool
  leader : Fin 4
  h : W16
  w : W16
  u0 : W16
  v0 : W16
  du : Vector W16 4
  dv : Vector W16 4
  dil : Vector Byte 4
  pad : W32
  chainIn : Fin 32
  chainOut : Fin 32
  hold : GenHold
  deriving DecidableEq, Repr

def Gen.init : Gen :=
  { loaded := false, base := 0, pitch := 0, half := false, padchk := false, chain := false, follow := false,
    leader := 0, h := 0, w := 0, u0 := 0, v0 := 0, du := Vector.replicate 4 0, dv := Vector.replicate 4 0,
    dil := Vector.replicate 4 1, pad := 0, chainIn := 0, chainOut := 0, hold := .none }

/-- An open loop level: byte offsets of the first command of the body and past the body, iterations, index (R373, R375). -/
structure LoopLvl where
  start : Nat
  stop : Nat
  count : Nat
  i : Nat
  deriving DecidableEq, Repr

/-- What a stream waits at. -/
inductive StreamWait where
  | ready
  | blocked (why : BlockReason)
  | waitph (target : W48)
  /-- at a rendezvous SYNC with this TAG (R385) -/
  | rdv (tag : Byte)
  deriving DecidableEq, Repr

/-- A run of Pantry bytes of an operand, or of padding that touches no slot (R376, R377). -/
structure Piece where
  addr : Nat
  n : Nat
  pad : Option W32
  deriving DecidableEq, Repr

/-- A part of a line inside one line of its home, or one request to another device: where, which bytes of the transfer, and
the answer: data with POISON, or the condition that refused it. -/
structure LinePart where
  at_ : Nat
  first : Nat
  len : Nat
  answer : Option (List Byte × Bool × Cond)
  deriving DecidableEq, Repr

/-- A Larder line of an LDT or STT in flight (R382, R383). -/
structure LineXfer where
  id : Nat
  store : Bool
  /-- a fill write of an LDT, a drain read of an STT -/
  tagged : Bool
  /-- another device that holds the line -/
  dev : Option DevAddr
  pieces : List Piece
  /-- an STT line whose slots have been read and whose write has gone out -/
  sent : Bool
  parts : List LinePart
  /-- byte offset and count of its command, for the fault registers -/
  pc : Nat
  count : W64
  deriving DecidableEq, Repr

/-- Every part of a line is answered. -/
def LineXfer.answered (l : LineXfer) : Bool := l.parts.all fun p => p.answer.isSome

/-- The slots that a run of bytes touches. -/
def Piece.slots (p : Piece) : List Nat :=
  if p.pad.isSome || p.n == 0 then [] else (List.range ((p.addr + p.n - 1) / 64 + 1 - p.addr / 64)).map (· + p.addr / 64)

/-- The part of a stream that both kinds share (R362-R375, R388). -/
structure Strm where
  running : Bool
  pc : Nat
  count : W64
  loops : List LoopLvl
  preds : Byte
  gens : Vector Gen 4
  mark : W48
  token : Bool
  bkc : W64
  bkt : W32
  wait : StreamWait
  skipBreak : Bool
  mem : List Host.Cell
  deriving DecidableEq, Repr

def Strm.init : Strm :=
  { running := false, pc := 0, count := 0, loops := [], preds := 1, gens := Vector.replicate 4 Gen.init, mark := 0,
    token := false, bkc := 0, bkt := 0, wait := .ready, skipBreak := false, mem := [] }

/-- The A-stream (R362, R382-R387). -/
structure AStream where
  strm : Strm
  adr : Vector W48 4
  /-- bind slots SS0-SS3: stream number (R387) -/
  bind : Vector (Option (Fin 64)) 4
  lines : List LineXfer
  nextLine : Nat
  /-- lines of the current LDT or STT that have been issued -/
  issued : Nat
  deriving DecidableEq, Repr

def AStream.init : AStream :=
  { strm := Strm.init, adr := Vector.replicate 4 0, bind := Vector.replicate 4 none, lines := [], nextLine := 0,
    issued := 0 }

/-- ACC's type (R408). -/
inductive AccType where
  | empty | int | float
  deriving DecidableEq, Repr

/-- The operands of one beat of an operation. -/
structure XBeat where
  a : List Piece
  b : List Piece
  d : List Piece
  deriving DecidableEq, Repr

/-- An operation of the Hearth or the Scullery, issued and not finished: its slot word, TAG and mode, what it sampled at issue
(R410, R413), its operands resolved at issue (R376), whether it has been performed, and its long word for the fault
registers. -/
structure XOp where
  word : W32
  tag : Byte
  token : Bool
  loop : Nat
  cfg : W32
  beats : List XBeat
  scale : List Piece
  ran : Bool
  pc : Nat
  count : W64
  deriving DecidableEq, Repr

/-- Hearth, Scullery and their registers (R399-R431). Each unit has one operation executing and one in its issue buffer. -/
structure Compute where
  cfg : W32
  accType : AccType
  acc : Vector W32 256
  hearth : List XOp
  scullery : List XOp
  ovf : Bool
  nan : Bool
  isat : Bool
  sreg : W32
  /-- K of the top-k list; `none` while unset (R419) -/
  topK : Option Nat
  indexBase : BitVec 24
  topCount : W32
  /-- entries in rank order: value bits and index -/
  topList : List (W32 × W32)
  deriving DecidableEq, Repr

/-- Compute registers at reset (R408, R417, R419, R429). -/
def Compute.init : Compute :=
  { cfg := 0x11111F61, accType := .empty, acc := Vector.replicate 256 0, hearth := [], scullery := [],
    ovf := false, nan := false, isat := false, sreg := 0, topK := none, indexBase := 0, topCount := 0,
    topList := [] }

/-- One Room (R296-R331, R397, R429). -/
structure Room where
  st : RoomSt
  /-- the state a freeze or a debug halt left (R42, R354) -/
  stBefore : RoomSt
  lastCond : Cond
  faultStream : Byte
  faultAddr : W32
  faultCount : W64
  /-- BLOCK_REASON latched when the Room stopped (R142) -/
  blockLatched : W32
  pantryCe : W32
  pantry : List Host.Cell
  /-- full slots, rising (R304) -/
  full : List Nat
  ranges : Vector PRange 16
  task : BitVec 4
  taskRange : BitVec 4
  /-- task window: base group and length in groups; length 0 is no window (R310, R330) -/
  winBase : BitVec 11
  winLen : BitVec 12
  prResult : W16
  waitLimit : W32
  overrun : BitVec 6
  underrun : BitVec 6
  watchCount : W32
  hqs : Vector HandleQ 32
  queues : Vector DataQ 6
  modeToken : Bool
  peekForce : Bool
  peekTagSet : Bool
  peekTagRead : Bool
  peekDone : Bool
  peekSlot : BitVec 14
  peekData : List Byte
  newel : Newel
  astream : AStream
  xstream : Strm
  /-- the unit and move slots of the current long word have issued; its control slot waits (R395) -/
  xIssued : Bool
  sdbgHalt : Bool
  sdbgWhich : BitVec 2
  compute : Compute
  /-- FOY_ROOM_HOLD keeps the Room in reset; zeroing after its release runs (R553) -/
  held : Bool
  zeroing : Bool
  deriving DecidableEq, Repr

/-- A Room after its reset: IDLE, zeros with every tag empty, every register at its reset value (R307, R330, R553). -/
def Room.init : Room :=
  { st := .idle, stBefore := .idle, lastCond := 0, faultStream := 0, faultAddr := 0, faultCount := 0,
    blockLatched := 0, pantryCe := 0, pantry := [], full := [], ranges := Vector.replicate 16 PRange.init, task := 0,
    taskRange := 0, winBase := 0, winLen := 0, prResult := 0, waitLimit := 0, overrun := 0, underrun := 0,
    watchCount := 0, hqs := Vector.replicate 32 HandleQ.init, queues := Vector.replicate 6 DataQ.init,
    modeToken := false, peekForce := false, peekTagSet := false, peekTagRead := false, peekDone := false,
    peekSlot := 0, peekData := List.replicate 64 0, newel := Newel.init, astream := AStream.init,
    xstream := Strm.init, xIssued := false, sdbgHalt := false, sdbgWhich := 0, compute := Compute.init, held := false,
    zeroing := false }

/-- Relock sequence of a Storey (R542). -/
inductive RelockStep where
  | idle | volt | settle | refclk | waitLock | hold
  deriving DecidableEq, Repr

/-- One Storey (R142, R331, R541-R546). -/
structure Storey where
  op : BitVec 4
  opCeil : Byte
  relocks : W32
  stretched : W64
  gang : Byte
  lockstep : BitVec 4
  step : RelockStep
  target : BitVec 4
  failsInRow : Nat
  /-- no relock is tried after repeated failure (R545) -/
  stuck : Bool
  /-- a step up ended and the first PMBus sample has not come (R546) -/
  checkRail : Bool
  /-- that sample was low: the Storey steps down at the next boundary (R546) -/
  railLow : Bool
  watchCount : W32
  deriving DecidableEq, Repr

/-- A Storey at reset: OP4, its ceiling OP4 (R142, R564). -/
def Storey.init : Storey :=
  { op := 4, opCeil := 4, relocks := 0, stretched := 0, gang := 0, lockstep := 0, step := .idle, target := 4,
    failsInRow := 0, stuck := false, checkRail := false, railLow := false, watchCount := 0 }

end Sys2Proof.Machine
end

