-- ==== Sys2Proof/Machine/DataSystem.lean ====
section
/-!
DEFINITION. Machine/DataSystem.lean: the plain data of clock domains, resets and crossings (R539-R562), of the boot
(R563-R589) and of what the device has sent to the outside.
-/
namespace Sys2Proof.Machine
open Sys2Proof

/-- Reset sources (R556). -/
inductive ResetSrc where
  | por | sys | perst | watchdog | refClk
  deriving DecidableEq, Repr

/-- A firmware slot of NOR (R567, R568, R581). -/
structure FwSlot where
  recordOk : Bool
  seq : W32
  length : Nat
  image : List Byte
  deriving DecidableEq, Repr

/-- Straps as sampled at the end of POR (R454, R565). -/
structure Straps where
  pos : DevAddr
  posAuto : Bool
  /-- MASTER_N low -/
  master : Bool
  deriving DecidableEq, Repr

/-- Clock domains, resets, boot (R539-R589). -/
structure System where
  part064 : Bool
  strapPins : Straps
  straps : Straps
  clkRunning : BitVec 17
  resetHeld : BitVec 17
  domGate : BitVec 4
  domHold : BitVec 10
  roomHold : W32
  roomInval : W32
  resetCause : Byte
  /-- reset sources asserted now, and the internal reset -/
  asserted : List ResetSrc
  inReset : Bool
  /-- the stage that runs; BOOT_STAGE reads 0xF4 instead while `larderFailed` (R571, R573) -/
  bootStage : Byte
  larderFailed : Bool
  fwSlots : Vector FwSlot 2
  runningSlot : Option (Fin 2)
  tried : List (Fin 2)
  boardValid : Bool
  /-- Subsystem IDs of the board block (R147, R585) -/
  subVendor : W16
  subDevice : W16
  /-- version of the running Foyer firmware (R137) -/
  fwVersion : W32
  /-- last metered power of the Porch, 10 mW (R144) -/
  porchPower : W16
  /-- APPLIANCE_RESERVE of the board block, W (R201, R585) -/
  applianceReserve : W16
  /-- STALL_LIMIT and STOREY_LIMIT (R142) -/
  stallLimit : W32
  storeyLimit : W32
  stallRoom : Vector W64 32
  stallStack : Vector W64 4
  stallPair : Vector W64 2
  stallDoor : Vector W64 6
  stallRing : Vector W64 16
  stallMladyx : Vector W64 3
  stallHatch : Vector W64 16
  reservedWrites : W32
  /-- Foyer private memory (R34) -/
  foyerPriv : List Host.Cell
  /-- the Threshold's count at the last device reset, from which UPTIME counts (R137) -/
  resetUs : W64
  /-- refusals of slots that the ROM hands to the log: code and DETAIL (R569) -/
  romLog : List (Cond × W32)
  /-- Larder zeroing of the start runs (R573), and the key file found unreadable asks for the erase of every image (R572) -/
  zeroing : Bool
  eraseAll : Bool
  deriving DecidableEq, Repr

/-- The device just released from POR, with straps at (0, 0, 0), automatic addressing by straps and no candidate: the boot
ROM starts; the clocks of domains 0-4 and of the Storeys run, the Larder and the Cellar are held (R454, R539, R566, R571). -/
def System.init : System :=
  { part064 := false, strapPins := ⟨0, true, false⟩, straps := ⟨0, true, false⟩, clkRunning := 0x79F, resetHeld := 0x60,
    domGate := 0, domHold := 0, roomHold := 0, roomInval := 0, resetCause := 1, asserted := [], inReset := false,
    bootStage := 1, larderFailed := false, fwSlots := Vector.replicate 2 ⟨false, 0, 0, []⟩, runningSlot := none, tried := [], boardValid := false,
    subVendor := 0, subDevice := 0, fwVersion := 0, porchPower := 0, applianceReserve := 0, stallLimit := 0x100000,
    storeyLimit := 0x400000, stallRoom := Vector.replicate 32 0, stallStack := Vector.replicate 4 0,
    stallPair := Vector.replicate 2 0, stallDoor := Vector.replicate 6 0, stallRing := Vector.replicate 16 0,
    stallMladyx := Vector.replicate 3 0, stallHatch := Vector.replicate 16 0, reservedWrites := 0, foyerPriv := [],
    resetUs := 0, romLog := [], zeroing := false, eraseAll := false }

/-- What the block has sent to the outside, and answers to reads, newest last. -/
inductive Out where
  | can (id : Nat) (bytes : List Byte)
  | hostWrite (addr : Nat) (bytes : List Byte)
  | hostRead (tag addr len : Nat)
  | msix (vector : Fin 32)
  | barData (bytes : List Byte)
  | cfgData (value : Nat)
  | cfgRetry
  | unsupported
  | frame (door : DoorId) (frame : Frame)
  | pmbus (storey : StoreyId) (mv : Nat)
  | porchValue (value : W32)
  deriving DecidableEq, Repr

end Sys2Proof.Machine
end

