-- ==== Sys2Proof/Machine/State.lean ====
section
/-!
DEFINITION. Machine/State.lean: the state of the device, the reasons a command can stop, and the state after reset.
-/
namespace Sys2Proof.Machine
open Sys2Proof

/-- The state of the device: every register, buffer, counter and mode of the spec, the queue of waiting commands,
and two model's own fields: the free-value counter and the record of what was sent outside. -/
structure State where
  wings : Vector Wing 16
  wingTop : WingTop
  thr : Threshold
  mgmt : Mgmt
  host : HostIf
  phase : PhaseBase
  fuse : Fusebox
  cellar : Cellar
  larder : Larder
  rooms : Vector Room 32
  storeys : Vector Storey 4
  /-- the Porch's Newel (core 32) and the Foyer's Newel (core 33) -/
  porchNewel : Newel
  foyerNewel : Newel
  fabric : Fabric
  stair : Stairwell
  porch : Porch
  sys : System
  /-- commands that wait, first in first out -/
  pending : List Instr
  /-- the model's own: advanced each time a free value is used -/
  free : Nat
  /-- the model's own: what the device has sent, newest last -/
  out : List Out
  deriving DecidableEq, Repr

/-- Reasons a command can stop with a fault. -/
inductive Fault where
  /-- never raised -/
  | none
  deriving DecidableEq, Repr

/-- Reasons a command has no meaning. -/
inductive Refusal where
  /-- raised by an arm of `exec` whose command has no meaning yet; safe: the machine stops -/
  | notModelled (mnemonic : String)
  deriving DecidableEq, Repr

/-- The Newel of the Foyer at reset: it fetches from the boot ROM (R588). -/
def foyerReset : Newel := { Newel.init with pc := 0x80000, wait := .ready }

/-- The device right after POR: the internal reset has been released and the boot ROM starts, BOOT_STAGE 0x01 (R565, R571).
It is a new YF4-128 with 64 GiB of Larder; what the spec gives no value is named in the assumption log. -/
def State.reset : State :=
  { wings := Wing.allInit, wingTop := WingTop.init, thr := Threshold.init,
    mgmt := Mgmt.init (Vector.replicate 2 NorCopy.blank), host := HostIf.init, phase := PhaseBase.init, fuse := Fusebox.init,
    cellar := Cellar.init, larder := Larder.init true, rooms := Vector.replicate 32 Room.init,
    storeys := Vector.replicate 4 Storey.init, porchNewel := Newel.init, foyerNewel := foyerReset,
    fabric := Fabric.init 0 true false, stair := Stairwell.init, porch := Porch.init, sys := System.init, pending := [],
    free := 0, out := [] }

end Sys2Proof.Machine
end

