-- ==== Sys2Proof/Machine/Ops.lean ====
section
/-!
DEFINITION. Machine/Ops.lean: the named operations that every family shares: bytes and fields, sparse memories in
canonical form, indexed updates, updates of one part of the state, the dictionary log with its alerts, MSI-X messages
and attention bits.
-/
namespace Sys2Proof.Machine
open Sys2Proof

/-- The outcome type of every meaning. -/
abbrev Res := Host.Outcome State Fault Refusal

/-! ### Bytes and fields -/

/-- Little-endian value of a byte list (R4). -/
def leNat : List Byte → Nat
  | [] => 0
  | b :: bs => b.toNat + 256 * leNat bs

/-- The `n` little-endian bytes of a value (R4). -/
def leBytes : Nat → Nat → List Byte
  | 0, _ => []
  | n + 1, v => BitVec.ofNat 8 v :: leBytes n (v / 256)

/-- `n` bytes from offset `o`. -/
def bytesAt (l : List Byte) (o n : Nat) : List Byte := (l.drop o).take n

/-- Little-endian field of `n` bytes at offset `o`. -/
def fieldAt (l : List Byte) (o n : Nat) : Nat := leNat (bytesAt l o n)

/-- All bytes of the range are zero. -/
def zeroAt (l : List Byte) (o n : Nat) : Bool := (bytesAt l o n).all (· == 0)

/-- `n` bytes at `o` replaced; the list keeps its length when the range lies inside it. -/
def putAt (l : List Byte) (o : Nat) (v : List Byte) : List Byte := l.take o ++ v ++ l.drop (o + v.length)

/-- Bits [hi:lo] of a value. -/
def bitsOf (v hi lo : Nat) : Nat := (v / 2 ^ lo) % 2 ^ (hi + 1 - lo)

/-- Bit `i` of a value. -/
def bitOf (v i : Nat) : Bool := v.testBit i

/-- 1 for true. -/
def b2n (b : Bool) : Nat := if b then 1 else 0

/-- A counter rises by `n` and saturates at its all-ones value (R130). -/
def satAdd {w : Nat} (c : BitVec w) (n : Nat) : BitVec w := BitVec.ofNat w (min (c.toNat + n) (2 ^ w - 1))

/-- Ones of a bit vector. -/
def popCount {w : Nat} (m : BitVec w) : Nat := ((List.range w).filter fun i => m.getLsbD i).length

/-- The set bits of a mask, lowest first. -/
def onesOf {w : Nat} (m : BitVec w) : List (Fin w) := (List.finRange w).filter fun i => m.getLsbD i

/-- A number inserted in a rising list. -/
def insertUp (l : List Nat) (n : Nat) : List Nat :=
  match l with
  | [] => [n]
  | m :: ms => if n < m then n :: m :: ms else if n = m then m :: ms else m :: insertUp ms n

/-! ### CRCs -/

/-- One bit step of a reflected CRC with the given reversed polynomial. -/
def crcBit (poly c : Nat) : Nat := if c.testBit 0 then (c / 2) ^^^ poly else c / 2

/-- One byte of a reflected CRC. -/
def crcByte (poly c : Nat) (b : Byte) : Nat := (List.range 8).foldl (fun a _ => crcBit poly a) (c ^^^ b.toNat)

/-- CRC-32C, the Castagnoli code: reflected polynomial 0x82F63B78, initial and final all ones. -/
def crc32c (l : List Byte) : W32 := BitVec.ofNat 32 ((l.foldl (crcByte 0x82F63B78) 0xFFFFFFFF) ^^^ 0xFFFFFFFF)

/-- A 32-bit write of a BAR0 register. -/
def bar0 (off v : Nat) : BarAccess := .write off (leBytes 4 v)

/-- BAR0 offset of a Room's register page (R330). -/
def roomPage (r : RoomId) : Nat := 0x140000 + 0x400 * r.1

/-- BAR0 offset of FOY_MBX_CTRL of a mailbox slot (R123). -/
def mbxCtrl (w : WingId) (k : Fin 4) : Nat := 0x207F0 + 0x2000 * w.1 + 0x800 * k.1

/-! ### Indexed tables -/

/-- Entry `i` of a table replaced. -/
def vset {α : Type} {n : Nat} (v : Vector α n) (i : Fin n) (x : α) : Vector α n := v.set i.1 x i.2

/-- Entry `i` of a table changed by `f`. -/
def vmod {α : Type} {n : Nat} (v : Vector α n) (i : Fin n) (f : α → α) : Vector α n := vset v i (f (v.get i))

/-- A natural number as an index, if in range. -/
def idx (n i : Nat) : Option (Fin n) := if h : i < n then some ⟨i, h⟩ else none

/-- Lowest index with a property (R12). -/
def lowest {α : Type} {n : Nat} (v : Vector α n) (p : Fin n → α → Bool) : Option (Fin n) :=
  (List.finRange n).find? fun i => p i (v.get i)

/-! ### Smooth weighted rotation (R228, R269, R450) -/

/-- Totals after every wing has gained its share. -/
def rotGain (tot : Vector Int 16) (share : WingId → Nat) : Vector Int 16 :=
  Vector.ofFn fun w => tot.get w + (share w : Int)

/-- The wing with the highest total, the lowest on a tie. -/
def rotBest (tot : Vector Int 16) : WingId :=
  (List.finRange 16).foldl (fun b w => if tot.get b < tot.get w then w else b) 0

/-- One slot is dealt: every wing gains its share, the wing with the highest total takes the slot and loses 64. -/
def rotate (tot : Vector Int 16) (share : WingId → Nat) : WingId × Vector Int 16 :=
  let g := rotGain tot share
  let b := rotBest g
  (b, vmod g b (· - 64))

/-- What wings 1-15 leave of 64 belongs to wing 0. -/
def withHouse (f : WingId → Nat) (w : WingId) : Nat :=
  if w = 0 then 64 - ((List.finRange 16).map fun v => if v = 0 then 0 else f v).foldl (· + ·) 0 else f w

/-! ### Sparse memories -/

/-- What a memory lists at an address. -/
def cellFind : List Host.Cell → Nat → Option Byte
  | [], _ => none
  | (k, v) :: m, a => if k == a then some v else if a < k then none else cellFind m a

/-- A byte stored at an address, keys kept rising. -/
def cellPut : List Host.Cell → Nat → Byte → List Host.Cell
  | [], a, b => [(a, b)]
  | (k, v) :: m, a, b =>
    if k == a then (a, b) :: m else if a < k then (a, b) :: (k, v) :: m else (k, v) :: cellPut m a b

/-- The listing of an address removed. -/
def cellDrop : List Host.Cell → Nat → List Host.Cell
  | [], _ => []
  | (k, v) :: m, a => if k == a then m else if a < k then (k, v) :: m else (k, v) :: cellDrop m a

/-- Listings of `n` addresses from `a` removed. -/
def cellClear (m : List Host.Cell) (a n : Nat) : List Host.Cell := m.filter fun c => c.1 < a || a + n ≤ c.1

/-- A byte of a memory whose unlisted bytes read 0. -/
def zget (m : List Host.Cell) (a : Nat) : Byte := (cellFind m a).getD 0

/-- A byte stored into a memory whose unlisted bytes read 0: a zero removes the listing. -/
def zput (m : List Host.Cell) (a : Nat) (b : Byte) : List Host.Cell := if b == 0 then cellDrop m a else cellPut m a b

/-- Bytes of a zero-default memory. -/
def zread (m : List Host.Cell) (a n : Nat) : List Byte := (List.range n).map fun i => zget m (a + i)

/-- Bytes stored into a zero-default memory. -/
def zwrite (m : List Host.Cell) (a : Nat) : List Byte → List Host.Cell
  | [] => m
  | b :: bs => zwrite (zput m a b) (a + 1) bs

/-- Little-endian word of `n` bytes of a zero-default memory. -/
def zword (m : List Host.Cell) (a n : Nat) : Nat := leNat (zread m a n)

/-! ### Updates of one part of the state -/

def State.onWings (s : State) (f : Vector Wing 16 → Vector Wing 16) : State := { s with wings := f s.wings }
def State.onTop (s : State) (f : WingTop → WingTop) : State := { s with wingTop := f s.wingTop }
def State.onThr (s : State) (f : Threshold → Threshold) : State := { s with thr := f s.thr }
def State.onMgmt (s : State) (f : Mgmt → Mgmt) : State := { s with mgmt := f s.mgmt }
def State.onHost (s : State) (f : HostIf → HostIf) : State := { s with host := f s.host }
def State.onPhase (s : State) (f : PhaseBase → PhaseBase) : State := { s with phase := f s.phase }
def State.onFuse (s : State) (f : Fusebox → Fusebox) : State := { s with fuse := f s.fuse }
def State.onCellar (s : State) (f : Cellar → Cellar) : State := { s with cellar := f s.cellar }
def State.onLarder (s : State) (f : Larder → Larder) : State := { s with larder := f s.larder }
def State.onFabric (s : State) (f : Fabric → Fabric) : State := { s with fabric := f s.fabric }
def State.onStair (s : State) (f : Stairwell → Stairwell) : State := { s with stair := f s.stair }
def State.onPorch (s : State) (f : Porch → Porch) : State := { s with porch := f s.porch }
def State.onSys (s : State) (f : System → System) : State := { s with sys := f s.sys }

def State.onWing (s : State) (w : WingId) (f : Wing → Wing) : State := s.onWings fun v => vmod v w f
def State.onRing (s : State) (w : WingId) (f : Ring → Ring) : State :=
  s.onHost fun h => { h with rings := vmod h.rings w f }
def State.onHatch (s : State) (w : WingId) (f : Hatch → Hatch) : State :=
  s.onHost fun h => { h with hatches := vmod h.hatches w f }
def State.onRoom (s : State) (r : RoomId) (f : Room → Room) : State := { s with rooms := vmod s.rooms r f }
def State.onStorey (s : State) (i : StoreyId) (f : Storey → Storey) : State :=
  { s with storeys := vmod s.storeys i f }
def State.onDoor (s : State) (d : DoorId) (f : Doorway → Doorway) : State :=
  s.onFabric fun b => { b with doors := vmod b.doors d f }
def State.onStack (s : State) (i : StoreyId) (f : Stack → Stack) : State :=
  s.onCellar fun c => { c with stk := vmod c.stk i f }
def State.onStream (s : State) (n : Fin 64) (f : CelStream → CelStream) : State :=
  s.onCellar fun c => { c with streams := vmod c.streams n f }
def State.onCtx (s : State) (c : Fin 8) (f : Ctx → Ctx) : State :=
  s.onStair fun t => { t with ctxs := vmod t.ctxs c f }
def State.onPStream (s : State) (k : Fin 16) (f : PStream → PStream) : State :=
  s.onPorch fun p => { p with streams := vmod p.streams k f }
def State.onCmp (s : State) (n : Fin 64) (f : Cmp → Cmp) : State :=
  s.onPhase fun p => { p with cmps := vmod p.cmps n f }
def State.onCache (s : State) (c : CoreId) (f : Cache → Cache) : State :=
  s.onLarder fun l => { l with caches := vmod l.caches c f }
def State.onHome (s : State) (h : Fin 4) (f : Home → Home) : State :=
  s.onLarder fun l => { l with homes := vmod l.homes h f }

/-- One thing sent to the outside. -/
def State.send (s : State) (o : Out) : State := { s with out := s.out ++ [o] }

/-- A free value has been used. -/
def State.draw (s : State) : State := { s with free := s.free + 1 }

def State.wing (s : State) (w : WingId) : Wing := s.wings.get w
def State.room (s : State) (r : RoomId) : Room := s.rooms.get r
def State.ring (s : State) (w : WingId) : Ring := s.host.rings.get w
def State.hatch (s : State) (w : WingId) : Hatch := s.host.hatches.get w
def State.storey (s : State) (i : StoreyId) : Storey := s.storeys.get i
def State.door (s : State) (d : DoorId) : Doorway := s.fabric.doors.get d
def State.stack (s : State) (i : StoreyId) : Stack := s.cellar.stk.get i

/-- A clock domain runs and is not held in reset (R539, R552). -/
def domainUp (s : State) (d : Nat) : Bool := s.sys.clkRunning.getLsbD d && !s.sys.resetHeld.getLsbD d && !s.sys.inReset

/-- The clock domain of a Room's Storey (R539). -/
def storeyDomain (r : RoomId) : Nat := 7 + r.1 / 8

/-- The Storey of a Room (R17). -/
def storeyOf (r : RoomId) : StoreyId := ⟨r.1 / 8, by omega⟩

/-! ### Routing (R461-R464) -/

/-- Coordinate of a device address in dimension 0 X, 1 Y, 2 Z (R32). -/
def coord (a : DevAddr) (dim : Fin 3) : Nat := a.toNat / 2 ^ (8 - 4 * dim.1) % 16

/-- Size of a dimension (R143). -/
def dimSize (s : State) (dim : Fin 3) : Nat := s.fabric.torus.toNat / 2 ^ (8 - 4 * dim.1) % 16 + 1

/-- Dimension of a Doorway, and whether it is the + one (R143). -/
def doorDim (d : DoorId) : Fin 3 := ⟨d.1 / 2, by omega⟩
def doorPlus (d : DoorId) : Bool := d.1 % 2 == 0

/-- The Doorway of a dimension and sign. -/
def doorOf (dim : Fin 3) (plus : Bool) : DoorId := ⟨2 * dim.1 + b2n (!plus), by unfold b2n; split <;> omega⟩

/-- The Doorway that the dimension order names; `none` for this device itself (R461). -/
def orderHop (s : State) (dst : DevAddr) : Option DoorId :=
  match (List.finRange 3).find? fun dim => coord dst dim != coord s.fabric.devAddr dim with
  | none => none
  | some dim =>
    let here := coord s.fabric.devAddr dim
    let there := coord dst dim
    if s.fabric.open_.getLsbD dim.1 then some (doorOf dim (decide (here < there)))
    else
      let n := dimSize s dim
      some (doorOf dim (decide (2 * ((there + n - here) % n) ≤ n)))

/-- What a routing override says: a Doorway, or DENY (R463, R473). -/
def overrideHop (s : State) (dst : DevAddr) : Option (Option DoorId) :=
  (lowest s.fabric.routes fun _ r => r.getLsbD 31 &&
      decide ((dst.toNat ^^^ r.toNat % 4096) &&& (r.toNat / 65536 % 4096) = 0)).map fun i =>
    idx 6 ((s.fabric.routes.get i).toNat / 2 ^ 28 % 8)

/-- The next hop of a packet: an UP Doorway, or `none` where it is refused or discarded (R461, R463, R464). -/
def nextHop (s : State) (dst : DevAddr) : Option DoorId :=
  let hop := match overrideHop s dst with
    | some h => h
    | none => orderHop s dst
  hop.filter fun d => decide ((s.door d).st = .up)

/-- The link of a Doorway crosses the dateline of its ring (R462). -/
def crosses (s : State) (d : DoorId) : Bool :=
  let dim := doorDim d
  !s.fabric.open_.getLsbD dim.1 &&
    decide (coord s.fabric.devAddr dim = if doorPlus d then dimSize s dim - 1 else 0)

/-- A packet enters the queue of a Doorway; one in transit keeps its class within a dimension (R462). -/
def enqueue (s : State) (d : DoorId) (p : Packet) (from_ : Option (DoorId × Fin 2)) : State :=
  let kept : Fin 2 := match from_ with
    | some (e, c) => if doorDim e = doorDim d then c else 0
    | none => 0
  s.onDoor d fun x => { x with txq := x.txq ++ [{ pkt := p, cls := if crosses s d then 1 else kept, from_ := from_ }] }

/-! ### Packets -/

/-- LEN of a packet (R471). -/
def pktLen (p : Packet) : Nat :=
  let n := (p.data.length + 31) / 32
  match p.typ with
  | .mladyx => min 8 n
  | .census => max 1 (min 16 n)
  | .wrReq => 3
  | .rdRsp => 2
  | .pageData => 128
  | .chunk | .move => max 1 (min 128 n)
  | _ => 1

/-- Credits of a VC and class become due to the peer of a Doorway (R448). -/
def oweCredits (s : State) (d : DoorId) (cls : Fin 2) (p : Packet) : State :=
  s.onDoor d fun x => { x with creditsDue := x.creditsDue ++ [(p.vc, cls, max 1 (pktLen p))] }

/-- A packet of a wing from this device (R470). -/
def wingPacket (s : State) (t : PktType) (vc : Fin 8) (w : WingId) (dst : DevAddr) (tag : W16) (data : List Byte) : Packet :=
  { typ := t, vc := vc, src := s.fabric.devAddr, dst := dst, wing := w, span := (s.wing w).spanId, seq := 0, tag := tag,
    param := 0, poison := false, data := data }

/-- A packet that starts here waits for the Doorway its route names; without a route it is refused, which for a packet
with no requester ends it (R464). -/
def postPacket (s : State) (p : Packet) : State :=
  match nextHop s p.dst with
  | some d => enqueue s d p none
  | none => s

/-- A management packet toward a device (R115, R447). -/
def postTo (s : State) (dest : DevAddr) (t : PktType) (data : List Byte) : State :=
  postPacket s (Packet.mgmt t s.fabric.devAddr dest data)

/-- A management packet for the peer of an UP Doorway (R190, R191, R456). -/
def postOn (s : State) (d : DoorId) (t : PktType) (data : List Byte) : State :=
  if (s.door d).st = .up then
    s.onDoor d fun x => { x with txq := x.txq ++
      [{ pkt := Packet.mgmt t s.fabric.devAddr s.fabric.devAddr data, cls := 0, from_ := none }] }
  else s

/-- A tag is taken for a request to another device (R465). -/
def newRequest (s : State) (b : ReqBy) (dest : DevAddr) (t : PktType) : W16 × State :=
  (s.fabric.nextTag, s.onFabric fun f =>
    { f with nextTag := f.nextTag + 1,
             reqs := f.reqs ++ [{ tag := f.nextTag, by_ := b, dest := dest, typ := t, got := [] }] })

/-- The outstanding requests of a Room's Newel and A-stream are forgotten: the Room was reset or quarantined. -/
def dropRoomReqs (s : State) (r : RoomId) : State :=
  s.onFabric fun f => { f with reqs := f.reqs.filter fun q => match q.by_ with
    | .newel c _ => c.1 != r.1
    | .aLine x _ => x != r
    | .link x _ => x != r
    | .stream .. => true }

/-- The oldest received packet with a property is taken out of the inbox, and its buffers are free (R448). -/
def takePacket (s : State) (p : RxPacket → Bool) : Option (RxPacket × State) :=
  match s.fabric.inbox.find? p with
  | some x => some (x, oweCredits (s.onFabric fun f => { f with inbox := f.inbox.erase x }) x.door x.cls x.pkt)
  | none => none

/-- The data flit of a COLL_ABORT (R500). -/
def abortFlit (c : Ctx) (cause : Cond) (detector : DevAddr) : List Byte :=
  leBytes 4 c.par.collId.toNat ++ leBytes 2 c.groupTag.toNat ++ leBytes 2 cause.toNat ++ leBytes 2 detector.toNat ++
    [BitVec.ofNat 8 c.wing.1] ++ List.replicate 21 0

/-- COLL_ABORT goes to every other member of a context's group (R493). -/
def sendAborts (s : State) (c : Ctx) (cause : Cond) : State :=
  c.members.foldl (fun s d => postPacket s
    { Packet.mgmt .collAbort s.fabric.devAddr d (abortFlit c cause s.fabric.devAddr) with span := (s.wing c.wing).spanId }) s

/-- Uncredited chunks of collectives with a property are to be sent again (R488). -/
def resendChunks (s : State) (p : Ctx → Bool) : State :=
  s.onStair fun t => { t with ctxs := t.ctxs.map fun c => if c.st == .running && p c then { c with resend := c.uncredited } else c }

/-! ### MSI-X and attention -/

/-- Vector `v` has an event: a message is sent, or left pending while the vector is held off, masked, or messages are
not sent (R169, R153). -/
def signalVector (s : State) (v : Fin 32) : State :=
  let e := s.host.msix.get v
  if s.host.cfg.busMaster && !s.host.cfg.d3hot && s.host.cfg.msixEnable && !s.host.cfg.msixFuncMask && !e.masked
      && !e.holding then
    let held := decide (v.1 < 16 ∧ (s.ring ⟨v.1 % 16, by omega⟩).holdoff ≠ 0)
    (s.onHost fun h => { h with msix := vmod h.msix v fun e => { e with pending := false, holding := held } }).send
      (.msix v)
  else s.onHost fun h => { h with msix := vmod h.msix v fun e => { e with pending := true } }

/-- FOY_ATTN bit `b` of wing `w` is set; a bit that goes 0 → 1 while enabled signals vector 16 + w (R168, R177). -/
def setAttn (s : State) (w : WingId) (b : Fin 6) : State :=
  let r := s.ring w
  let s1 := s.onRing w fun r => { r with attn := r.attn ||| (1 <<< b.1 : BitVec 6) }
  if !r.attn.getLsbD b.1 && r.attnEn.getLsbD b.1 then signalVector s1 ⟨16 + w.1, by omega⟩ else s1

/-! ### The dictionary log and alerts -/

/-- The 20 bytes of a log and alert record (R122). -/
def LogRec.bytes (r : LogRec) : List Byte :=
  leBytes 4 r.code.toNat ++ [r.wing, r.unit, r.suppressed, r.seq] ++ leBytes 6 r.phase.toNat ++ [0, 0]
    ++ leBytes 4 r.detail.toNat

/-- The CAN identifier of an alert: priority 0 for classes 0x02 and 0x0E and 1 otherwise, class 5, node, SEQ modulo 64,
segment 0 (R109, R113). -/
def alertId (node : DevAddr) (r : LogRec) : Nat :=
  let cls := r.code.toNat / 256
  (if cls == 2 || cls == 14 then 0 else 1) * 2 ^ 26 + 5 * 2 ^ 22 + node.toNat * 2 ^ 10 + (r.seq.toNat % 64) * 16

/-- One alert is lost: SUPPRESSED of the next record sent is raised, saturating, and 0x1010/0B counts the loss; a repeat is
suppressed in the same way (R114). -/
def suppressAlert (s : State) : State :=
  s.onMgmt fun m => { m with suppressed := satAdd m.suppressed 1, alertsLost := satAdd m.alertsLost 1 }

/-- An alert frame goes out on the CAN bus. -/
def sendAlert (s : State) (r : LogRec) : State :=
  let r := { r with suppressed := s.mgmt.suppressed }
  (s.onMgmt fun m =>
    { m with suppressed := 0,
             lastSent := ((r.code, r.unit), s.thr.us.toNat) :: m.lastSent.filter fun e => e.1 != (r.code, r.unit) }).send
    (.can (alertId s.fabric.devAddr r) r.bytes)

/-- CAN frames can be sent: CAN_ENABLE is 1 and the controller is not bus-off (R114, R119). -/
def canUp (s : State) : Bool := s.mgmt.canEnable && s.mgmt.canSt != .busOff

/-- The alert of a log record: sent, queued while the bus is not usable, suppressed when the same code from the same
unit was sent less than 10 ms ago, or lost when the queue is full (R113, R114). -/
def alert (s : State) (r : LogRec) : State :=
  if !s.mgmt.alertMask.getLsbD (r.code.toNat / 256) then s
  else if s.mgmt.lastSent.any fun e => e.1 == (r.code, r.unit) && decide (s.thr.us.toNat < e.2 + 10000) then
    suppressAlert s
  else if canUp s then sendAlert s r
  else if s.mgmt.alertQueue.length < 32 then s.onMgmt fun m => { m with alertQueue := m.alertQueue ++ [r] }
  else suppressAlert s

/-- A condition is reported by path L: a record is appended to the dictionary log, the alert is sent or queued and
FOY_ATTN.DEVICE of wing 0 is set (R113, R122, R177, R591, R592). -/
def logCond (s : State) (code : Cond) (wing unit : Byte) (detail : W32) : State :=
  let r : LogRec :=
    { code := code, wing := wing, unit := unit, suppressed := s.mgmt.suppressed,
      seq := BitVec.ofNat 8 (s.mgmt.logCount.toNat + 1), phase := s.phase.time, detail := detail }
  let s1 := s.onMgmt fun m => { m with log := (r :: m.log).take 256, logCount := satAdd m.logCount 1 }
  setAttn (alert s1 r) 0 5

/-- A condition with no wing, no unit and no detail (R592). -/
def logDev (s : State) (code : Cond) : State := logCond s code 0xFF 0xFF 0

/-- A wing number as the WING byte of a record. -/
def wingByte (w : WingId) : Byte := BitVec.ofNat 8 w.1

/-- A condition of ring page `w` or, for wing 0, of a BAR0 access: FOY_RING_ERR, FOY_ATTN.RING_ERR and the log
(R177, R182). -/
def ringCond (s : State) (w : WingId) (code : Cond) : State :=
  logCond (setAttn (s.onRing w fun r => { r with ringErr := code }) w 1) code (wingByte w) 0xFF 0

/-- A Hatch condition: ERR_CODE keeps the first since ERR was cleared (R181, R182). -/
def hatchCond (s : State) (w : WingId) (code : Cond) : State :=
  let s1 := s.onHatch w fun h => if h.err then h else { h with err := true, errCode := code }
  logCond (setAttn s1 w 2) code (wingByte w) 0xFF 0

/-- The wing's state changes: FOY_ATTN.STATE (R177). -/
def setWingSt (s : State) (w : WingId) (st : WingSt) : State :=
  setAttn (s.onWing w fun x => { x with st := st }) w 3

/-- A reserved write is counted (R7, R9). -/
def countReserved (s : State) (n : Nat) : State :=
  s.onSys fun y => { y with reservedWrites := satAdd y.reservedWrites n }

/-! ### Wings: reach and windows -/

/-- A wing 1-15 exists: states POPULATE to CLEARING (R39). -/
def WingSt.exists_ (st : WingSt) : Bool := st != .free && st != .house

/-- Windows in use of a wing as byte ranges (base, size), in window order (R53). -/
def Wing.windowList (x : Wing) : List (Nat × Nat) :=
  (List.finRange 8).filterMap fun i =>
    if i.1 < x.windowCount.toNat then
      let v := (x.windows.get i).toNat
      some ((v % 65536) * 2097152, (v / 65536) * 2097152)
    else none

/-- Usable top of the Larder (R22). -/
def usableTop (s : State) : Nat := if s.larder.fitted64 then 0xF80000000 else 0x7C0000000

/-- A wing offset through a list of windows, end to end. -/
def throughWindows : List (Nat × Nat) → Nat → Option Nat
  | [], _ => none
  | (b, n) :: ws, o => if o < n then some (b + o) else throughWindows ws (o - n)

/-- A device address in Larder lies in a window of some wing 1-15 that exists. -/
def inSomeWindow (s : State) (a : Nat) : Bool :=
  (List.finRange 16).any fun w =>
    (s.wing w).st.exists_ && (s.wing w).windowList.any fun p => decide (p.1 ≤ a ∧ a < p.1 + p.2)

/-- A Larder byte is in the reach of a wing (R24). -/
def larderReach (s : State) (w : WingId) (a : Nat) : Bool :=
  decide (a < usableTop s) &&
    (if w = 0 then !inSomeWindow s a else (s.wing w).windowList.any fun p => decide (p.1 ≤ a ∧ a < p.1 + p.2))

/-- A wing offset as a Larder device address, if in reach (R53, R155). -/
def wingAddr (s : State) (w : WingId) (o : Nat) : Option Nat :=
  if w = 0 then (if larderReach s 0 o then some o else none)
  else throughWindows (s.wing w).windowList o

/-- Every byte of `n` from wing offset `o` is in the wing's windows. -/
def wingRange (s : State) (w : WingId) (o n : Nat) : Bool :=
  if w = 0 then
    decide (o + n ≤ usableTop s) &&
      (List.finRange 16).all fun v => !(s.wing v).st.exists_ ||
        (s.wing v).windowList.all fun p => decide (o + n ≤ p.1 ∨ p.1 + p.2 ≤ o)
  else decide (o + n ≤ ((s.wing w).windowList.map (·.2)).foldl (· + ·) 0)

/-- Larder key slot of a wing (R55). -/
def larderSlot (w : WingId) : Fin 64 := ⟨16 + w.1, by omega⟩
/-- Cellar key slot of a wing (R55). -/
def cellarSlot (w : WingId) : Fin 64 := ⟨w.1, by omega⟩

/-- The key slot of a wing is filled. -/
def keyFilled (s : State) (k : Fin 64) : Bool := (s.thr.slots.get k).isSome

/-- The wing whose mask holds a Room; wing 0 when no other does (R37, R142). -/
def roomOwner (s : State) (r : RoomId) : WingId :=
  ((List.finRange 16).find? fun w => (s.wing w).st.exists_ && (s.wing w).roomMask.getLsbD r.1).getD 0

/-- Isolation and span flags of a wing (R53). -/
def Wing.isolated (x : Wing) : Bool := x.flags.getLsbD 0
def Wing.inSpan (x : Wing) : Bool := x.flags.getLsbD 1

/-- The condition with which the source refuses a packet of a wing toward another device; 0 when it goes out (R26, R51,
R450, R464). -/
def remoteRefused (s : State) (w : WingId) (dev : DevAddr) : Cond :=
  if !(s.wing w).inSpan then 0x0102
  else if !s.fabric.census.contains dev then 0x0B02
  else if (nextHop s dev).isNone then 0x0B08
  else if (s.wing w).isolated && (s.wing w).doorShare == 0 then 0x0102
  else 0

/-- A wing 1-15 is outside FREE. -/
def anyTenant (s : State) : Bool := (List.finRange 16).any fun w => (s.wing w).st.exists_

end Sys2Proof.Machine
end

