-- ==== Sys2Proof/Machine/Mem.lean ====
section
/-!
DEFINITION. Machine/Mem.lean: the Larder as its home agents hold it (R263-R268), the line operations of the 34 caches
(R275), and the accesses that a non-caching agent makes coherently in one step (R282).
-/
namespace Sys2Proof.Machine
open Sys2Proof

/-- Home agent of a line: A[9:8] XOR A[21:20] (R264). -/
def homeOf (line : Nat) : Fin 4 := ⟨((line / 4) % 4) ^^^ ((line / 16384) % 4), by
  have h1 : (line / 4) % 4 < 2 ^ 2 := Nat.mod_lt _ (by decide)
  have h2 : (line / 16384) % 4 < 2 ^ 2 := Nat.mod_lt _ (by decide)
  exact Nat.xor_lt_two_pow h1 h2⟩

/-- The home agent pair of a home agent (R19). -/
def pairOf (h : Fin 4) : Fin 2 := ⟨h.1 / 2, by omega⟩

/-- Directory set of a line: {A[18:10], A[7:6]} (R276). -/
def dirSet (line : Nat) : Nat := ((line / 16) % 512) * 4 + line % 4

/-- Set of a line in a cache: 32 sets of 64-byte lines (R275). -/
def cacheSet (line : Nat) : Nat := line % 32

/-! ### The Larder behind the home agents -/

/-- A byte of the Larder array; an unlisted byte reads a free value (R265). -/
def larderByte (l : Larder) (a : Nat) : Byte := (cellFind l.mem a).getD (Config.larderJunk l.junk a)

/-- The 64 bytes of a line in the Larder array. -/
def larderLine (l : Larder) (line : Nat) : List Byte := (List.range 64).map fun i => larderByte l (line * 64 + i)

/-- The line's copy in the far-atomic buffer (R284). -/
def farFind (h : Home) (line : Nat) : Option FarLine := h.far.find? fun f => f.line == line

/-- A line as its home holds it: the far-atomic buffer's copy, else the Larder's (R284). -/
def homeGet (s : State) (line : Nat) : List Byte × Bool :=
  match farFind (s.larder.homes.get (homeOf line)) line with
  | some f => (f.data, f.poison)
  | none => (larderLine s.larder line, s.larder.poison.contains line)

/-- Bytes stored over a run of addresses. -/
def cellsPut (m : List Host.Cell) (a : Nat) : List Byte → List Host.Cell
  | [] => m
  | b :: bs => cellsPut (cellPut m a b) (a + 1) bs

/-- A whole line stored in the Larder array with the given POISON (R267). -/
def larderStore (l : Larder) (line : Nat) (data : List Byte) (poison : Bool) : Larder :=
  { l with mem := cellsPut l.mem (line * 64) (data.take 64),
           poison := if poison then insertUp l.poison line
                     else l.poison.filter (· != line) }

/-- A whole line stored at its home: into the far-atomic buffer's copy when there is one (R284). -/
def homePut (s : State) (line : Nat) (data : List Byte) (poison : Bool) : State :=
  let h := homeOf line
  match farFind (s.larder.homes.get h) line with
  | some _ => s.onHome h fun x =>
      { x with far := x.far.map fun f => if f.line == line then { f with data := data, poison := poison } else f }
  | none => s.onLarder fun l => larderStore l line data poison

/-- Bytes of a line replaced where their byte enable is set. -/
def mergeLine (old new : List Byte) (be : BitVec 64) : List Byte :=
  (List.range 64).map fun i => if be.getLsbD i then new.getD i 0 else old.getD i 0

/-- A home-side write with byte enables: a full line stores fresh check bits, a partial one keeps POISON (R267). -/
def homeMerge (s : State) (line : Nat) (data : List Byte) (be : BitVec 64) : State :=
  if be = BitVec.allOnes 64 then homePut s line data false
  else
    let o := homeGet s line
    (homePut s line (mergeLine o.1 data be) o.2).onLarder fun l => { l with junk := l.junk + 1 }

/-- A line zeroed past XTS: it reads unpredictable values until it is written, with POISON clear (R43, R265, R266). -/
def larderZeroLine (l : Larder) (line : Nat) : Larder :=
  { l with mem := cellClear l.mem (line * 64) 64, poison := l.poison.filter (· != line), junk := l.junk + 1 }

/-! ### Cache lines -/

/-- A cache's copy of a line. -/
def cacheFind (c : Cache) (line : Nat) : Option CacheLine := c.lines.find? fun x => x.line == line

/-- The line removed from a cache. -/
def cacheRemove (c : Cache) (line : Nat) : Cache := { c with lines := c.lines.filter fun x => x.line != line }

/-- The line put in front, most recently used. -/
def cachePut (c : Cache) (x : CacheLine) : Cache := { c with lines := x :: c.lines.filter fun y => y.line != x.line }

/-- Lines of the line's set, most recently used first. -/
def cacheWays (c : Cache) (line : Nat) : List CacheLine := c.lines.filter fun x => cacheSet x.line == cacheSet line

/-! ### Directory -/

def dirFind (h : Home) (line : Nat) : Option DirEntry := h.dir.find? fun e => e.line == line

/-- An entry written, most recently used of its set. -/
def dirPut (h : Home) (e : DirEntry) : Home := { h with dir := e :: h.dir.filter fun x => x.line != e.line }

def dirDrop (h : Home) (line : Nat) : Home := { h with dir := h.dir.filter fun x => x.line != line }

/-- The caches that a directory entry names. -/
def DirSt.holders : DirSt → BitVec 34
  | .shared v => v
  | .owned c => 1 <<< c.1

/-- A transaction or message of the line is under way: another access to it waits (R276). -/
def lineBusy (s : State) (line : Nat) : Bool :=
  ((s.larder.homes.get (homeOf line)).trackers.any fun t => t.phase != .accepted &&
      (t.req.line == line || (match t.phase with | .evicting v _ => v == line | _ => false)))
    || s.larder.net.any fun m => m.line == line

/-- A cache's dirty copy of the line is written back at its home. -/
def pullDirty (s : State) (c : CoreId) (line : Nat) : State :=
  match cacheFind (s.larder.caches.get c) line with
  | some x => if x.st = .m then homePut s line x.data x.poison else s
  | none => s

/-- FWD_GETS to an owner, done whole: its dirty data reaches the home and it keeps S; an entry whose owner had dropped
the line is freed (R276, R277, R282). -/
def recallShared (s : State) (line : Nat) : State :=
  match dirFind (s.larder.homes.get (homeOf line)) line with
  | some ⟨_, .owned c⟩ =>
    let s1 := pullDirty s c line
    match cacheFind (s.larder.caches.get c) line with
    | some x =>
      (s1.onCache c fun k => { k with lines := k.lines.map fun y => if y.line == line then { x with st := .s } else y })
        |>.onHome (homeOf line) fun h => dirPut h ⟨line, .shared (1 <<< c.1)⟩
    | none => s1.onHome (homeOf line) fun h => dirDrop h line
  | _ => s

/-- Every cached copy of the line is recalled or invalidated and the entry freed (R282, R284). -/
def recallAll (s : State) (line : Nat) : State :=
  match dirFind (s.larder.homes.get (homeOf line)) line with
  | some e =>
    let hs := onesOf e.st.holders
    let s1 := hs.foldl (fun s c => pullDirty s c line) s
    (hs.foldl (fun s c => s.onCache c fun k => cacheRemove k line) s1).onHome (homeOf line) fun h => dirDrop h line
  | none => s

/-! ### One-step accesses of non-caching agents -/

/-- Lines touched by `n` bytes from an address. -/
def linesOf (a n : Nat) : List Nat :=
  if n = 0 then [] else (List.range ((a + n - 1) / 64 + 1 - a / 64)).map (· + a / 64)

/-- The lines of a range are free of transactions, so that the access can be made now. -/
def rangeFree (s : State) (a n : Nat) : Bool := (linesOf a n).all fun l => !lineBusy s l

/-- A coherent read of `n` bytes: the data, whether a line was poisoned, and the state after the snoops (R282). -/
def ncRead (s : State) (a n : Nat) : List Byte × Bool × State :=
  let s1 := (linesOf a n).foldl recallShared s
  let ls := (linesOf a n).map (homeGet s1)
  ((((ls.map (·.1)).flatten).drop (a % 64)).take n, ls.any (·.2), s1.onLarder fun l => { l with junk := l.junk + 1 })

/-- Byte enables for `n` bytes from byte `o` of a line. -/
def beOf (o n : Nat) : BitVec 64 := BitVec.ofNat 64 ((2 ^ n - 1) * 2 ^ o)

/-- One line's part of a coherent write. -/
def ncWriteLine (s : State) (a : Nat) (bs : List Byte) (line : Nat) : State :=
  let lo := max a (line * 64)
  let hi := min (a + bs.length) (line * 64 + 64)
  let part := List.replicate (lo - line * 64) (0 : Byte) ++ (bs.drop (lo - a)).take (hi - lo)
  homeMerge (recallAll s line) line part (beOf (lo - line * 64) (hi - lo))

/-- A coherent write: cached copies are recalled or invalidated, then the bytes are stored (R282). -/
def ncWrite (s : State) (a : Nat) (bs : List Byte) : State := (linesOf a bs.length).foldl (ncWriteLine · a bs ·) s

/-- Device addresses of `n` bytes from a wing offset, each through its own window (R26, R53). -/
def wingAddrs (s : State) (w : WingId) (o n : Nat) : List (Option Nat) :=
  (List.range n).map fun i => wingAddr s w (o + i)

/-- The byte runs of a wing-offset range in device addresses: (address, first byte, length), cut at 64-byte lines. -/
def wingRuns (s : State) (w : WingId) (o n : Nat) : List (Nat × Nat × Nat) :=
  (linesOf o n).filterMap fun l =>
    let lo := max o (l * 64)
    let hi := min (o + n) (l * 64 + 64)
    (wingAddr s w lo).map fun a => (a, lo - o, hi - lo)

/-- A coherent read through a wing's windows. -/
def wingRead (s : State) (w : WingId) (o n : Nat) : List Byte × Bool × State :=
  (wingRuns s w o n).foldl (fun (acc : List Byte × Bool × State) r =>
    let x := ncRead acc.2.2 r.1 r.2.2
    (acc.1 ++ x.1, acc.2.1 || x.2.1, x.2.2)) ([], false, s)

/-- A coherent write through a wing's windows. -/
def wingWrite (s : State) (w : WingId) (o : Nat) (bs : List Byte) : State :=
  (wingRuns s w o bs.length).foldl (fun s r => ncWrite s r.1 ((bs.drop r.2.1).take r.2.2)) s

/-- No transaction runs on a line of the wing-offset range. -/
def wingFree (s : State) (w : WingId) (o n : Nat) : Bool :=
  (wingRuns s w o n).all fun r => rangeFree s r.1 r.2.2

end Sys2Proof.Machine
end

