-- ==== Sys2Proof/Machine/Wings.lean ====
section
/-!
DEFINITION. Machine/Wings.lean: the lifecycle of the wings (R36-R54): shares and totals, freezing and thawing, the steps
of CLEARING, and creation.
-/
namespace Sys2Proof.Machine
open Sys2Proof

/-! ### Shares (R38, R46, R47) -/

/-- A sum over the wings that exist. -/
def sumWings (s : State) (f : Wing → Nat) : Nat :=
  ((List.finRange 16).map fun w => if (s.wing w).st.exists_ then f (s.wing w) else 0).foldl (· + ·) 0

/-- Block rows that an image reserves (R217). -/
def Image.rowsOf (i : Image) : Nat := (i.quarterPages.toNat + 1535) / 1536

/-- Rows that the images of a wing reserve: its QUOTA_USED (R47, R140); a live wing gets them back at ERASING (R220), those of a held
image return when it is EMPTY (R47). -/
def quotaUsed (s : State) (w : WingId) : Nat :=
  ((s.cellar.images.get w).toList.map fun i =>
    if i.st == .empty || (i.st == .erasing && !i.heldErase) then 0 else i.rowsOf).foldl (· + ·) 0

/-- Rows held by the images of FREE wings other than `w` (R47). -/
def heldRows (s : State) (w : WingId) : Nat :=
  ((List.finRange 16).map fun v =>
    if v ≠ w ∧ (s.wing v).st = .free then quotaUsed s v else 0).foldl (· + ·) 0

/-- Block rows of the part (R140). -/
def blockRows (s : State) : Nat := if s.sys.part064 then 682 else 1365

/-- QUOTA_FREE: rows in no quota and not held by images of a FREE wing (R54). -/
def quotaFree (s : State) : Nat := blockRows s - sumWings s (·.celQuota.toNat) - heldRows s 0

/-- Power a wing counts with: its ceiling when isolated, else its floor (R46). -/
def Wing.power (x : Wing) : Nat := if x.isolated then x.fuseCeil.toNat else x.fuseFloor.toNat

/-- The power total of R46, in 10 mW. -/
def powerTotal (s : State) : Nat := sumWings s Wing.power + s.wingTop.houseFloor.toNat

/-- The cap in force: the lower of DEVICE_CAP and the standing allotment (R201). -/
def capInForce (s : State) : Nat := min s.fuse.deviceCap.toNat s.fuse.allot.toNat

/-- Rooms that wing 0 holds: in no other wing's mask (R37). -/
def houseRooms (s : State) : W32 :=
  ~~~((List.finRange 16).foldl (fun m w => if (s.wing w).st.exists_ then m ||| (s.wing w).roomMask else m) (0 : W32))

/-! ### Freezing and thawing (R42) -/

/-- The three agents of a running Room stop together and keep their state. -/
def freezeRoom (r : Room) : Room := if r.st = .running then { r with st := .frozen, stBefore := .running } else r

def thawRoom (r : Room) : Room := if r.st = .frozen then { r with st := r.stBefore } else r

/-- Every Room of a mask changed. -/
def onMask (s : State) (m : W32) (f : Room → Room) : State := (onesOf m).foldl (fun s r => s.onRoom r f) s

/-- The list of an engine entry is of the wing. -/
def engineOf (p : Porch) (w : WingId) : EngineBy → Bool
  | .stream k => (p.streams.get k).owner == w
  | .parlour => p.parlour.owner == w

/-- The list of an engine entry has a command on the engine (R520). -/
def engineIssued (p : Porch) : EngineBy → Bool
  | .stream k => (p.streams.get k).issued
  | .parlour => p.parlour.issued

/-- Porch streams and the Parlour of a wing pause: the frame in progress is discarded, the list stops after its current
command (R39, R513). -/
def pausePorch (s : State) (w : WingId) : State :=
  s.onPorch fun p =>
    { p with
      streams := p.streams.map fun k =>
        if k.owner = w ∧ (k.st = .running ∨ k.st = .held) then
          { k with before := k.st, st := .paused, capture := none,
                   dropped := if k.capture.isSome then satAdd k.dropped 1 else k.dropped }
        else k,
      parlour := if p.parlour.owner = w ∧ (p.parlour.st = .running ∨ p.parlour.st = .waiting) then
        { p.parlour with before := p.parlour.st, st := .paused } else p.parlour,
      running := p.running.filter fun e => !engineOf p w e || engineIssued p e,
      queue := p.queue.filter fun e => !engineOf p w e }

/-- Lists of a wing's paused streams and Parlour that are ready to issue. -/
def readyLists (p : Porch) (w : WingId) : List EngineBy :=
  ((List.finRange 16).filterMap fun k =>
    let x := p.streams.get k
    if x.owner = w ∧ x.st = .paused ∧ x.before = .running ∧ x.listOn = true ∧ x.wait = .none ∧ x.issued = false then
      some (.stream k) else none)
  ++ (if p.parlour.owner = w ∧ p.parlour.st = .paused ∧ p.parlour.before = .running ∧ p.parlour.issued = false then
      [.parlour] else [])

/-- The thaw: capture resumes at the next frame start, a list at the command after the one it completed (R513). -/
def resumePorch (s : State) (w : WingId) : State :=
  s.onPorch fun p =>
    { p with
      streams := p.streams.map fun k => if k.owner = w ∧ k.st = .paused then { k with st := k.before } else k,
      parlour := if p.parlour.owner = w ∧ p.parlour.st = .paused then { p.parlour with st := p.parlour.before }
        else p.parlour,
      queue := p.queue ++ readyLists p w }

/-- A POPULATE or RUN wing starts FREEZING (R40, R42). -/
def startFreeze (s : State) (w : WingId) (by_ : FrozenBy) : State :=
  let x := s.wing w
  let s1 := setWingSt (s.onWing w fun x => { x with frozenBy := by_, recorded := x.st }) w .freezing
  pausePorch (onMask s1 x.roomMask freezeRoom) w

/-- Every Cellar stream of a wing that runs is paused (R39, R237). -/
def pauseStreams (s : State) (w : WingId) : State :=
  s.onCellar fun c => { c with streams := c.streams.map fun x =>
    if x.wing = w ∧ x.st = .running then { x with st := .paused } else x }

def resumeStreams (s : State) (w : WingId) : State :=
  s.onCellar fun c => { c with streams := c.streams.map fun x =>
    let r := (s.room x.room).st
    if x.wing = w ∧ x.st = .paused ∧ r ≠ .halted ∧ r ≠ .watched then { x with st := .running } else x }

/-- A line of a stopped Room that is not in flight: a store that has not gone out, or a load that waits at a full slot for
its fill write (R305). -/
def lineSettled (x : Room) (l : LineXfer) : Bool :=
  if l.store then !l.sent
  else l.answered && l.tagged && x.astream.strm.token && l.pieces.any fun p => p.slots.any fun k => x.full.contains k

/-- The agents of a FREEZING wing have stopped: no Larder line and no Cellar page of it is in flight (R42). -/
def wingStopped (s : State) (w : WingId) : Bool :=
  (onesOf (s.wing w).roomMask).all (fun r => (s.room r).astream.lines.all (lineSettled (s.room r))) &&
    s.cellar.streams.toList.all fun x => x.wing != w || x.st == .free || x.flight.isEmpty

/-- A level 2 alarm reaches a wing (R40, R81). -/
def alarmFreeze (s : State) (w : WingId) : State :=
  match (s.wing w).st with
  | .populate | .run => startFreeze s w .alarm
  | .freezing | .frozen =>
    s.onWing w fun x => if x.frozenBy = .host then { x with frozenBy := .alarm, recorded := .run } else x
  | _ => s

/-! ### CLEARING (R43) -/

/-- A cache discarded without writeback; the homes forget it (R281). -/
def discardCache (s : State) (c : CoreId) : State :=
  s.onLarder fun l =>
    { l with
      caches := vmod l.caches c fun k => { k with lines := [], heldSnoop := none },
      homes := l.homes.map fun h =>
        { h with dir := h.dir.filterMap fun e =>
            match e.st with
            | .owned o => if o = c then none else some e
            | .shared v =>
              let v' : BitVec 34 := v &&& ~~~((1 : BitVec 34) <<< c.1)
              if v' = 0 then none else some { e with st := .shared v' } } }

/-- The cache of a Room. -/
def roomCore (r : RoomId) : CoreId := ⟨r.1, by omega⟩

/-- A Cellar stream is freed; its local image has one stream less (R227). -/
def freeStream (s : State) (n : Fin 64) : State :=
  let x := s.cellar.streams.get n
  (if x.remote then s else s.onCellar fun c =>
    { c with images := vmod c.images x.wing fun v => vmod v x.image fun i => { i with streams := i.streams - 1 } })
    |>.onStream n fun _ => CelStream.init

/-- A Room is reset and its zeroing starts (R553, R43 step 3): streams of the Room unbound, cache discarded. -/
def resetRoom (s : State) (r : RoomId) : State :=
  let s1 := (List.finRange 64).foldl (fun s n =>
    if (s.cellar.streams.get n).st ≠ .free ∧ (s.cellar.streams.get n).room = r then freeStream s n else s) s
  (dropRoomReqs (discardCache s1 (roomCore r)) r).onRoom r fun x =>
    { Room.init with zeroing := true, st := .loading, pantryCe := x.pantryCe }

/-- Step 1: dispatch stops; undispatched and running jobs are abandoned and counted. -/
def abandonJobs (s : State) (w : WingId) : State :=
  let r := s.ring w
  let size := 2 ^ r.sqSize.toNat
  let waiting := if r.en then (r.sqTail.toNat + size - r.sqHead.toNat) % size else 0
  let held := if r.held.isSome then 1 else 0
  let running := (s.host.jobs.filter fun j => j.ring == w).length
  ((((s.onHost fun h => { h with jobs := h.jobs.filter fun j => j.ring != w }).onRing w fun r =>
      { r with en := false, active := false, held := none, inflight := 0, sqHead := r.sqTail,
               lostSignals := [] }).onHatch w fun h => { h with copy := none, imageJob := none }).onWing w fun x =>
    { x with abortedJobs := BitVec.ofNat 32 (waiting + held + running) })

/-- A Porch stream returns to FREE; DELIVERED and DROPPED stay until the next claim (R513). -/
def freePStream (k : PStream) : PStream := { PStream.init with delivered := k.delivered, dropped := k.dropped }

/-- The Parlour context becomes FREE; PORCH_PAR_RESULT keeps its value, as only a read clears RDY (R529, R537). -/
def freeParlour (p : Parlour) : Parlour := { Parlour.init with rdy := p.rdy, score := p.score, cls := p.cls }

/-- Porch resources of a wing are released; pages are then zeroed (R43 step 2, R511). -/
def releasePorch (s : State) (w : WingId) : State :=
  s.onPorch fun p =>
    let mine (k : Fin 16) : Bool := (p.streams.get k).st != .free && (p.streams.get k).owner == w
    let par := p.parlour.st != .free && p.parlour.owner == w
    { p with
      streams := Vector.ofFn fun k => if mine k then freePStream (p.streams.get k) else p.streams.get k,
      parlour := if par then freeParlour p.parlour else p.parlour,
      running := p.running.filter fun e => match e with | .stream k => !mine k | .parlour => !par,
      queue := p.queue.filter fun e => match e with | .stream k => !mine k | .parlour => !par,
      pages := p.pages.map fun g => if g.held ∧ g.wing = w then ⟨false, 0, true⟩ else g,
      csi := p.csi.map fun c => if c.wing = w then { c with held := false } else c,
      tdm := p.tdm.map fun c => if c.wing = w then { c with held := false } else c,
      sensors := p.sensors.map fun c => if c.wing = w then { c with held := false } else c }

/-- Step 2: every claim of the wing is released; its collectives abort first (R493, R495). -/
def releaseClaims (s : State) (w : WingId) : State :=
  let s0 := (List.finRange 8).foldl (fun s i =>
    let c := s.stair.ctxs.get i
    if c.st ≠ .free ∧ c.st ≠ .aborting ∧ c.wing = w then sendAborts s c 0x0101 else s) (releasePorch s w)
  let s2 := s0.onStair fun t =>
    { t with ctxs := t.ctxs.map fun c => if c.st ≠ .free ∧ c.wing = w then Ctx.free else c,
             grants := t.grants.filter fun g => g.wing != w }
  let s3 := s2.onPhase fun p =>
    { p with cmps := p.cmps.map fun c => if c.held ∧ c.wing = w then { Cmp.init with fires := c.fires } else c }
  let s4 := s3.onFabric fun f =>
    { f with doors := f.doors.map fun d =>
        { d with claims := d.claims.map fun c => if c.held ∧ c.wing = w then ⟨false, 0⟩ else c } }
  s4.onCellar fun c =>
    { c with
      streams := c.streams.map fun x => if x.st ≠ .free ∧ x.wing = w then CelStream.init else x,
      remote := c.remote.map fun x => if x.used ∧ x.wing = w then { x with used := false } else x,
      pageReqs := c.pageReqs.filter fun q => q.wing != w }

/-- Images of a wing become unreadable and their blocks are queued for erase (R43 step 4, R224, R240). -/
def eraseImages (s : State) (w : WingId) : State :=
  s.onCellar fun c =>
    { c with
      images := vmod c.images w fun v => v.map fun i =>
        if i.st = .empty then i
        else if (c.stk.toList.any fun k => k.blocks.any fun b => match b.2.owner with
            | some o => o.1 == w && (b.2.st == .isOpen || b.2.st == .mapped || b.2.st == .source)
            | none => false) || !i.pages.isEmpty then
          { i with st := .erasing, pages := [], verifyLeft := [], streams := 0, commitJob := none, snaps := 15,
                   heldErase := i.st != .erasing || i.heldErase }
        else Image.none,
      stk := c.stk.map fun k =>
        { k with
          snapPending := true,
          blocks := k.blocks.map fun b => match b.2.owner with
            | some o => if o.1 = w ∧ b.2.st ≠ .retired ∧ b.2.st ≠ .erased then
                (b.1, { b.2 with st := .toErase }) else b
            | none => b,
          progs := k.progs.filter fun g => g.image.1 != w,
          reads := k.reads.filter fun g => match g.kind with
            | .verify v _ _ => v != w
            | _ => true } }

/-- Step 4, once every Room of the mask has been reset and zeroed. -/
def clearingKeys (s : State) (w : WingId) : State :=
  let x := s.wing w
  if x.st = .clearing ∧ !x.keysGone ∧ (onesOf x.roomMask).all (fun r => !(s.room r).zeroing) then
    let s1 := s.onThr fun t => { t with slots := vset (vset t.slots (cellarSlot w) none) (larderSlot w) none }
    (eraseImages s1 w).onWing w fun x => { x with keysGone := true }
  else s

/-- Debug unlock of a wing ends at the start of its CLEARING (R78). -/
def relockDebug (t : Threshold) (w : WingId) : Threshold :=
  if t.debugWings.getLsbD w.1 then { t with debugWings := 0, debugScope := 0 } else t

/-- A wing enters CLEARING: steps 1 to 3 of R43 at once, step 4 when its Rooms are zeroed. -/
def startClearing (s : State) (w : WingId) : State :=
  let x := s.wing w
  let lines := (x.windowList.map (·.2)).foldl (· + ·) 0 / 64
  let s1 := setWingSt (s.onWing w fun x =>
    { x with destroyPending := false, clearLines := lines, clearAt := Vector.replicate 4 0, keysGone := false }) w .clearing
  let s2 := releaseClaims (abandonJobs (s1.onThr fun t => relockDebug t w) w) w
  clearingKeys ((onesOf x.roomMask).foldl resetRoom s2) w

/-- The share tables are rebuilt: every smooth weighted rotation starts again (R228, R269, R450). -/
def rebuildTables (s : State) : State :=
  let z : Vector Int 16 := Vector.replicate 16 0
  ((s.onCellar fun c => { c with stk := c.stk.map fun k => { k with rotRead := z, rotRemote := z, rotProg := z } }).onLarder
    fun l => { l with homes := l.homes.map fun h => { h with rot := z } }).onFabric fun f =>
      { f with doors := f.doors.map fun d => { d with rot := z } }

/-- Step 6: mask and shares return to wing 0 and the wing becomes FREE. ABORTED_JOBS stays until the next create. -/
def finishClearing (s : State) (w : WingId) : State :=
  let aborted := (s.wing w).abortedJobs
  let s1 := s.onWing w fun _ => { Wing.free with abortedJobs := aborted, st := .clearing }
  let s2 := rebuildTables (s1.onFuse fun f => { f with wings := vset f.wings w WingAccount.zero })
  (setWingSt s2 w .free).onRing w fun _ => Ring.init

/-! ### Creation (R44, R53) -/

/-- A wing-create record, by its fields. -/
structure CreateRec where
  wing : Nat
  flags : Nat
  span : Nat
  mask : W32
  cel : Nat
  door : Nat
  lar : Nat
  count : Nat
  floor : Nat
  ceil : Nat
  quota : Nat
  windows : Vector W32 8
  deriving DecidableEq, Repr

def parseCreate (v : List Byte) : CreateRec :=
  { wing := fieldAt v 0 1, flags := fieldAt v 1 1, span := fieldAt v 2 2, mask := BitVec.ofNat 32 (fieldAt v 4 4),
    cel := fieldAt v 8 1, door := fieldAt v 9 1, lar := fieldAt v 10 1, count := fieldAt v 11 1,
    floor := fieldAt v 12 2, ceil := fieldAt v 14 2, quota := fieldAt v 16 2,
    windows := Vector.ofFn fun i : Fin 8 => BitVec.ofNat 32 (fieldAt v (24 + 4 * i.1) 4) }

/-- A WINDOW field in range: SIZE 1-31,744 and BASE 0-31,743 (R53). -/
def windowOk (x : W32) : Bool := decide (1 ≤ x.toNat / 65536 ∧ x.toNat / 65536 ≤ 31744 ∧ x.toNat % 65536 ≤ 31743)

/-- Check 2 of R44: every field in range and every reserved byte and bit zero. -/
def createRange (s : State) (v : List Byte) (c : CreateRec) : Bool :=
  decide (1 ≤ c.wing ∧ c.wing ≤ 15 ∧ c.flags < 4 ∧ (c.flags / 2 = 0 → c.span = 0) ∧ c.cel ≤ 60 ∧ c.door ≤ 60 ∧
    1 ≤ c.lar ∧ c.lar ≤ 60 ∧ 1 ≤ c.count ∧ c.count ≤ 8 ∧ c.floor ≤ 4000 ∧ c.floor ≤ c.ceil ∧ c.ceil ≤ 4000 ∧
    (c.flags % 2 = 1 → c.floor = c.ceil) ∧ c.quota ≤ blockRows s) &&
  zeroAt v 18 6 && zeroAt v 56 8 &&
  (List.finRange 8).all fun i => if i.1 < c.count then windowOk (c.windows.get i) else c.windows.get i == 0

/-- The window as a range of bytes. -/
def windowRange (x : W32) : Nat × Nat := ((x.toNat % 65536) * 2097152, (x.toNat / 65536) * 2097152)

/-- Two ranges share a byte. -/
def overlap (p q : Nat × Nat) : Bool := decide (p.1 < q.1 + q.2 ∧ q.1 < p.1 + p.2)

/-- No two ranges of a list overlap. -/
def disjoint : List (Nat × Nat) → Bool
  | [] => true
  | p :: ps => ps.all (fun q => !overlap p q) && disjoint ps

def CreateRec.windowList (c : CreateRec) : List (Nat × Nat) := (c.windows.toList.take c.count).map windowRange

/-- Check 5 of R44. -/
def createWindows (s : State) (c : CreateRec) : Bool :=
  c.windowList.all (fun p => decide (p.1 + p.2 ≤ usableTop s)) && disjoint c.windowList &&
    (List.finRange 16).all fun w => !(s.wing w).st.exists_ ||
      (s.wing w).windowList.all fun q => c.windowList.all fun p => !overlap p q

/-- Check 4 of R44: no Room of another wing's mask and no quarantined Room. -/
def createRooms (s : State) (c : CreateRec) : Bool :=
  c.mask &&& ~~~(houseRooms s) == 0 && c.mask &&& s.wingTop.quarantined == 0

/-- Check 6 of R44: the totals of R46 with this wing added, held rows counted under R47. -/
def createTotals (s : State) (w : WingId) (c : CreateRec) : Bool :=
  decide (sumWings s (·.celShare.toNat) + c.cel ≤ 60 ∧ sumWings s (·.doorShare.toNat) + c.door ≤ 60 ∧
    sumWings s (·.larShare.toNat) + c.lar ≤ 60 ∧
    sumWings s (·.celQuota.toNat) + heldRows s w + c.quota ≤ blockRows s ∧ quotaUsed s w ≤ c.quota ∧
    powerTotal s + (if c.flags % 2 = 1 then c.ceil else c.floor) ≤ capInForce s)

/-- Checks 2 to 6 of R44 in order; 0 when all pass. -/
def createCheck (s : State) (v : List Byte) : Cond :=
  let c := parseCreate v
  if !createRange s v c then 0x0306
  else match idx 16 c.wing with
    | none => 0x0306
    | some w =>
      if (s.wing w).st ≠ .free then 0x0103
      else if !createRooms s c then 0x0104
      else if !createWindows s c then 0x0105
      else if !createTotals s w c then 0x0106
      else 0

/-- The wing that a record makes. -/
def createdWing (c : CreateRec) : Wing :=
  { Wing.free with
    st := .free, roomMask := c.mask, maskCreated := c.mask, flags := BitVec.ofNat 8 c.flags,
    spanId := BitVec.ofNat 16 c.span, celShare := BitVec.ofNat 8 c.cel, doorShare := BitVec.ofNat 8 c.door,
    larShare := BitVec.ofNat 8 c.lar, fuseFloor := BitVec.ofNat 16 c.floor, fuseCeil := BitVec.ofNat 16 c.ceil,
    celQuota := BitVec.ofNat 16 c.quota, windowCount := BitVec.ofNat 8 c.count, windows := c.windows }

/-- All resources of the wing are claimed in one step and it enters POPULATE (R40, R44); the counters of its instances
are cleared (R130) and its ring page returns to reset (R158). -/
def createWing (s : State) (v : List Byte) : State :=
  let c := parseCreate v
  match idx 16 c.wing with
  | none => s
  | some w =>
    let s1 := (s.onTop fun t => { t with createRecord := v }).onWing w fun _ => createdWing c
    let s2 := ((onMask s1 c.mask fun r => { r with pantryCe := 0 }).onFuse fun f =>
      { f with wings := vset f.wings w WingAccount.zero }).onRing w fun _ => Ring.init
    setWingSt (rebuildTables s2) w .populate

/-! ### Lifecycle commands -/

/-- Destroy of a wing that exists: CLEARING at once, or when the stopping completes (R40). -/
def destroyWing (s : State) (w : WingId) : State :=
  if (s.wing w).st = .freezing then s.onWing w fun x => { x with destroyPending := true } else startClearing s w

/-- A thaw takes a FROZEN wing to RUN or to its recorded state (R40, R42). Held phase matches are delivered by the
caller. -/
def thawWing (s : State) (w : WingId) : State :=
  let x := s.wing w
  let target := if x.frozenBy = .alarm then x.recorded else .run
  let s1 := setWingSt (s.onWing w fun x => { x with frozenBy := .none }) w target
  resumePorch (resumeStreams (onMask s1 x.roomMask thawRoom) w) w

/-- CLEARING_ZEROING_DONE: when every window line is zeroed and step 4 is done, the wing becomes FREE (R43). -/
def execClearingZeroingDone (w : WingId) (s : State) : Res :=
  let x := s.wing w
  if x.st = .clearing ∧ x.keysGone ∧ x.clearLines = 0 then .next (finishClearing s w) else .next s

/-- WING_FROZEN: a FREEZING wing whose agents have stopped becomes FROZEN, or CLEARING after a destroy (R40, R42). -/
def execWingFrozen (w : WingId) (s : State) : Res :=
  let x := s.wing w
  if x.st = .freezing ∧ wingStopped s w then
    if x.destroyPending then .next (startClearing s w) else .next (pauseStreams (setWingSt s w .frozen) w)
  else .next s

end Sys2Proof.Machine
end

