-- ==== Sys2Proof/Machine/Threshold.lean ====
section
/-!
DEFINITION. Machine/Threshold.lean: critical commands and their checks (R59-R70), key install and removal (R71, R72),
provisioning (R73), firmware (R75, R76), debug (R77, R78) and the alarm with its erase (R79-R85).
-/
namespace Sys2Proof.Machine
open Sys2Proof

/-! ### Alarm levels -/

/-- Level of an alarm source: LEVEL_MAP [2s+1:2s] (R91). -/
def alarmLevel (t : Threshold) (src : Nat) : Nat := (t.levelMap.toNat / 4 ^ src) % 4

/-- A source at level 2 or 3 is asserted (R73, R85). -/
def lockHeld (t : Threshold) : Bool :=
  (List.range 6).any fun i => t.asserted.getLsbD i && decide (2 ≤ alarmLevel t i)

/-- The Threshold is powered: POR is not asserted (R556). -/
def powered (s : State) : Bool := !s.sys.asserted.contains .por

/-! ### Pending answers that an erase discards -/

/-- An answer is queued for a request. -/
def queueAnswer (s : State) (r : Request) (abort : Cond) (value : List Byte) (block : Bool) : State :=
  s.onMgmt fun m => { m with answers := m.answers ++ [⟨r, abort, value, block, true⟩] }

/-- A refusal or an acknowledgement without value. -/
def answerCond (s : State) (r : Request) (c : Cond) : State := queueAnswer s r c [] false

/-- A refusal of a segment 0 that opens no transaction (R101). -/
def answerEarly (s : State) (r : Request) (c : Cond) : State :=
  s.onMgmt fun m => { m with answers := m.answers ++ [⟨r, c, [], false, false⟩] }

/-- A critical command being verified or persisted is discarded and answered with 0x0205 (R83 step 1, R81). -/
def dropCritical (s : State) : State :=
  match s.mgmt.norPending with
  | some p => if !p.critical then s
      else answerCond (s.onMgmt fun m => { m with norPending := none }) p.req 0x0205
  | none => s

/-! ### The two NOR copies (R97) -/

/-- The persistent copy that a start takes: of those with a correct CRC the one with the highest sequence number (R97). -/
def newestNor (m : Mgmt) : Option NorCopy :=
  match (m.nor.get 0).crcOk, (m.nor.get 1).crcOk with
  | true, true => some (if (m.nor.get 0).seq.toNat < (m.nor.get 1).seq.toNat then m.nor.get 1 else m.nor.get 0)
  | true, false => some (m.nor.get 0)
  | false, true => some (m.nor.get 1)
  | false, false => none

/-- Both copies are written, one after the other, with the newest content changed (R97). -/
def writeNor (s : State) (f : NorContent → NorContent) : State :=
  s.onMgmt fun m =>
    let base := (newestNor m).getD { NorCopy.blank with seq := 0 }
    { m with nor := Vector.ofFn fun i : Fin 2 =>
        { seq := base.seq + 1 + BitVec.ofNat 32 i.1, crcOk := true, content := f base.content } }

/-! ### Erase (R82, R83) -/

/-- Every cache is invalidated (R281). -/
def discardAllCaches (s : State) : State := (List.finRange 34).foldl discardCache s

/-- Steps 1, 3 and 5 of R83: slots zeroised, Larder and Cellar refused, wings into CLEARING, images marked. -/
def startErase (s : State) : State :=
  let s1 := dropCritical s
  let s2 := (s1.onThr fun t => { t with slots := Vector.replicate 64 none, debugWings := 0, debugScope := 0,
                                        st := .erasing, erase := some ⟨true, true, true, true⟩ }).onLarder fun l =>
    { l with refuseAll := true }
  let s3 := discardAllCaches s2
  let s4 := (List.finRange 16).foldl (fun s w =>
    match (s.wing w).st with
    | .populate | .run | .freezing | .frozen => startClearing s w
    | _ => s) s3
  (List.finRange 16).foldl eraseImages s4

/-- A level 3 event in UNPROVISIONED scrubs as in steps 6 and 7 (R82). -/
def startScrub (s : State) : State :=
  (s.onThr fun t => { t with erase := some ⟨false, false, true, true⟩ }).onLarder fun l => { l with refuseAll := true }

/-- An asserted source acts at its level (R81, R82). -/
def alarmEvent (s : State) (src : Nat) : State :=
  let lvl := alarmLevel s.thr src
  let det : W32 := BitVec.ofNat 32 src
  let s1 := logCond (s.onThr fun t => { t with events := t.events ||| (1 <<< src : Byte) }) 0x0210 0xFF 0xFF det
  if lvl < 2 then s1
  else
    let s2 := logCond s1 0x0211 0xFF 0xFF det
    match s.thr.st with
    | .normal | .locked =>
      let s3 := s2.onThr fun t =>
        { t with debugWings := 0, debugScope := 0,
                 lockSource := if t.st = .normal ∨ lvl = 3 then BitVec.ofNat 8 src else t.lockSource }
      if lvl = 3 then startErase s3
      else (List.finRange 16).foldl alarmFreeze (s3.onThr fun t => { t with st := .locked })
    | .unprovisioned => if lvl = 3 then startScrub s2 else s2
    | _ => s2

/-- A condition source asserts (R79). -/
def assertSource (s : State) (src : Fin 4) : State :=
  if !powered s || s.thr.asserted.getLsbD src.1 then s
  else alarmEvent (s.onThr fun t => { t with asserted := t.asserted ||| (1 <<< src.1 : Byte) }) src.1

/-- When every step of the erase is done the Threshold leaves ERASING and 0x0212 is logged (R83). -/
def finishErase (s : State) : State :=
  match s.thr.erase with
  | some e =>
    if e.epochLeft || e.keyFileLeft || e.scrubLeft || e.porchLeft then s
    else if s.thr.st = .erasing then
      logCond (s.onThr fun t => { t with erase := none, st := if t.fuses.eraseEpoch.1 = 32 then .retired else .unprovisioned })
        0x0212 0xFF 0xFF (BitVec.ofNat 32 s.thr.lockSource.toNat)
    else s.onThr fun t => { t with erase := none }
  | none => s

/-- SUPPLY_ALARM: source 0 asserts (R79). -/
def execSupplyAlarm (s : State) : Res := .next (assertSource s 0)
/-- CLOCK_ALARM: source 1 asserts (R79). -/
def execClockAlarm (s : State) : Res := .next (assertSource s 1)
/-- TEMP_ALARM: source 2 asserts (R79). -/
def execTempAlarm (s : State) : Res := .next (assertSource s 2)
/-- LID_ALARM: source 3 asserts (R79). -/
def execLidAlarm (s : State) : Res := .next (assertSource s 3)

/-- ALARM_SOURCE_CLEARED: a condition source deasserts (R79). -/
def execAlarmSourceCleared (src : Fin 4) (s : State) : Res :=
  .next (s.onThr fun t => { t with asserted := t.asserted &&& ~~~((1 : Byte) <<< src.1) })

/-- A TAP instruction is available (R77). -/
def tapAvailable (s : State) : TapInstr → Bool
  | .bypass | .idcode | .samplePreload => true
  | .extest | .clamp => !anyTenant s
  | .other => s.thr.debugScope.getLsbD 3 && s.thr.debugWings.getLsbD 0

/-- TAP_INSTRUCTION: an available instruction is selected; a gated one asserts the JTAG source for its event (R77). -/
def execTapInstruction (i : TapInstr) (s : State) : Res :=
  if !powered s then .next s
  else if tapAvailable s i then .next (s.onThr fun t => { t with tap := i })
  else .next (alarmEvent s 5)

/-- ERASE_EPOCH_PROGRAMMED: the next bit of ERASE_EPOCH is programmed (R83 step 2). -/
def execEraseEpochProgrammed (s : State) : Res :=
  match s.thr.erase with
  | some e =>
    if e.epochLeft then
      .next (finishErase (s.onThr fun t =>
        { t with erase := some { e with epochLeft := false },
                 fuses := { t.fuses with eraseEpoch := ⟨min (t.fuses.eraseEpoch.1 + 1) 32, by omega⟩ } }))
    else .next s
  | none => .next s

/-- A NOR copy with its key file and CA counters erased (R83 step 4). -/
def eraseKeyFile (c : NorCopy) : NorCopy :=
  { c with content := { c.content with slots := Vector.replicate 64 none, ca := Vector.replicate 16 CaKey.empty,
                                       sealedEpoch := none } }

/-- KEY_FILE_ERASED: both NOR copies of the key file and CA counters are erased (R83 step 4). -/
def execKeyFileErased (s : State) : Res :=
  match s.thr.erase with
  | some e =>
    if e.keyFileLeft ∧ !e.epochLeft then
      .next (finishErase ((s.onThr fun t =>
        { t with erase := some { e with keyFileLeft := false }, ca := Vector.replicate 16 CaKey.empty }).onMgmt fun m =>
          { m with nor := m.nor.map eraseKeyFile }))
    else .next s
  | none => .next s

/-- Slot 16 filled from the internal random source (R57). -/
def refillHouseKey (s : State) : State :=
  (s.onThr fun t => { t with slots := vset t.slots 16 (some (Config.random512 s.free)) }).draw

/-- ERASE_SCRUB_DONE: the Larder and every Pantry hold zeros and slot 16 is refilled (R83 step 6). The windows of the
CLEARING wings are zeroed with them. -/
def execEraseScrubDone (s : State) : Res :=
  match s.thr.erase with
  | some e =>
    if e.scrubLeft then
      let s1 := (s.onLarder fun l => { l with mem := [], poison := [], refuseAll := false, junk := l.junk + 1,
                                              homes := l.homes.map fun h => { h with far := [] } }).onWings fun v =>
        v.map fun x => if x.st = .clearing then { x with clearLines := 0 } else x
      let s2 : State := { s1 with rooms := s1.rooms.map fun r => { r with pantry := [], full := [] } }
      .next (finishErase ((refillHouseKey s2).onThr fun t => { t with erase := some { e with scrubLeft := false } }))
    else .next s
  | none => .next s

/-- PORCH_SRAM_ZEROED: Porch SRAM holds zeros (R83 step 7). -/
def execPorchSramZeroed (s : State) : Res :=
  match s.thr.erase with
  | some e =>
    if e.porchLeft then
      .next (finishErase ((s.onPorch fun p => { p with sram := [] }).onThr fun t =>
        { t with erase := some { e with porchLeft := false } }))
    else .next s
  | none => .next s

/-! ### Critical commands (R59-R69, R87, R88) -/

/-- The sender address that the transport supplies (R62). -/
def senderAddr : Requester → Nat
  | .can n => 0x1000 + n.toNat
  | .fabric d => 0x2000 + d.toNat
  | .mailbox _ _ => 0x3000

/-- The authenticated message (R88). -/
def authMessage (sender : Nat) (act : WingId) (keyId : Byte) (counter : W32) (obj : W16) (mem : Byte)
    (value : List Byte) : List Byte :=
  leBytes 2 sender ++ [wingByte act, keyId] ++ leBytes 4 counter.toNat ++ leBytes 2 obj.toNat ++ [mem, 0]
    ++ leBytes 4 value.length ++ value

/-- The entry is a per-wing object: its wing number (R127). -/
def wingOfObject (obj : W16) : Option Nat :=
  let o := obj.toNat
  if 0x2100 ≤ o ∧ o < 0x2200 ∧ o % 16 < 2 then some ((o - 0x2100) / 16)
  else if 0x3100 ≤ o ∧ o < 0x3200 ∧ o % 16 = 0 then some ((o - 0x3100) / 16)
  else if 0x4100 ≤ o ∧ o < 0x4200 ∧ o % 16 = 0 then some ((o - 0x4100) / 16)
  else none

/-- CMD_SCOPE bit of a critical command, and the wing it names (R59). -/
def commandScope (obj : W16) (mem : Byte) (value : List Byte) : Nat × Option Nat :=
  let v0 := fieldAt value 0 1
  let o := obj.toNat
  let m := mem.toNat
  if o = 0x2000 ∧ m = 3 then (0, some v0)
  else if o = 0x2000 ∧ m = 4 then (1, some v0)
  else if o = 0x9010 ∧ m = 1 then
    if (1 ≤ v0 ∧ v0 ≤ 15) ∨ (17 ≤ v0 ∧ v0 ≤ 31) then (2, some (v0 % 16)) else (3, none)
  else if o = 0x9010 ∧ m = 3 then (3, none)
  else if o / 256 = 0x41 ∧ m = 5 then (4, wingOfObject obj)
  else if o / 256 = 0x41 ∧ m = 6 then (5, wingOfObject obj)
  else if o = 0x9050 ∧ m = 1 then (6, none)
  else if (o = 0x3010 ∧ 1 ≤ m ∧ m ≤ 3) ∨ (o = 0x2000 ∧ m = 8) then (7, none)
  else if o = 0x9030 ∧ m = 1 then (8, none)
  else if o = 0x9040 ∧ m = 1 then (9, some ((fieldAt value 2 1) % 16))
  else (10, wingOfObject obj)

/-- A key install over the slot of the key that seals it, with the last counter (R68, R72). -/
def selfRotation (keyId : Fin 16) (counter : W32) (obj : W16) (mem : Byte) (value : List Byte) : Bool :=
  decide (obj = 0x9010 ∧ mem = 1 ∧ 1 ≤ keyId.1 ∧ fieldAt value 0 1 = 32 + keyId.1 ∧ counter = 0xFFFFFFFF)

/-- Check 6 of R64 (R59, R72). -/
def inScope (k : CaKey) (keyId : Fin 16) (counter : W32) (obj : W16) (mem : Byte) (value : List Byte) : Bool :=
  if selfRotation keyId counter obj mem value then
    BitVec.ofNat 16 (fieldAt value 2 2) &&& ~~~k.wingScope == 0 && BitVec.ofNat 16 (fieldAt value 4 2) &&& ~~~k.cmdScope == 0
  else
    let c := commandScope obj mem value
    k.cmdScope.getLsbD c.1 && match c.2 with
      | some w => if w < 16 then k.wingScope.getLsbD w else k.wingScope.getLsbD 0
      | none => k.wingScope.getLsbD 0

/-- A counted failure; the 16th within 60 s of the first of the last 16 asserts the AUTH source (R67). -/
def countFailure (s : State) : State :=
  let now := s.thr.us.toNat
  let l := (now :: s.thr.failTimes).take 16
  let s1 := s.onThr fun t => { t with failTimes := l }
  if l.length = 16 ∧ now ≤ (l.getD 15 0) + 60000000 then alarmEvent s1 4 else s1

/-- What the Threshold says of a critical command. -/
inductive ThrAns where
  | refused (s : State) (c : Cond)
  /-- passed, its counter consumed; whether the counter must be persisted first (R69) -/
  | passed (s : State) (key : Fin 16) (persist : Bool)

/-- Checks 1 to 6 of R64 in order; a command that passes consumes its counter (R65). -/
def thrCheck (s : State) (who : Requester) (act : WingId) (sl : Option Seal) (obj : W16) (mem : Byte)
    (value : List Byte) : ThrAns :=
  let reset := decide (obj = 0x9030 ∧ mem = 1)
  match s.thr.st with
  | .unprovisioned | .retired => .refused s 0x0220
  | .erasing => .refused s 0x0205
  | st =>
    if st = .locked ∧ !reset then .refused s 0x0205
    else match sl with
      | none => .refused s 0x0206
      | some x =>
        if x.ver ≠ 1 ∨ x.reserved ≠ 0 then .refused s 0x0206
        else match idx 16 x.keyId.toNat with
          | none => .refused s 0x0203
          | some k =>
            match s.thr.slots.get ⟨32 + k.1, by omega⟩ with
            | none => .refused s 0x0203
            | some key =>
              let ca := s.thr.ca.get k
              if Config.cmac key (authMessage (senderAddr who) act x.keyId x.counter obj mem value) ≠ x.tag then
                .refused (countFailure s) 0x0201
              else if !(selfRotation k x.counter obj mem value ||
                  (decide (ca.last.toNat < x.counter.toNat) && x.counter != 0xFFFFFFFF)) then
                .refused (countFailure s) 0x0202
              else if !inScope ca k x.counter obj mem value then .refused (countFailure s) 0x0204
              else .passed (s.onThr fun t => { t with ca := vmod t.ca k fun c => { c with last := x.counter } }) k
                (decide (ca.persisted.toNat + 256 ≤ x.counter.toNat))

/-! ### Key install and removal (R71, R72, R89) -/

/-- KIND that a slot takes: 1 XTS, 2 CA, 3 KWK; 0 none. -/
def slotKind (slot : Nat) : Nat :=
  if (1 ≤ slot ∧ slot ≤ 15) ∨ (17 ≤ slot ∧ slot ≤ 31) then 1 else if 32 ≤ slot ∧ slot ≤ 47 then 2
  else if slot = 48 then 3 else 0

/-- Halves of 256 bits. -/
def lowHalf (k : BitVec 512) : BitVec 256 := k.extractLsb' 0 256
def highHalf (k : BitVec 512) : BitVec 256 := k.extractLsb' 256 256

/-- The unwrapped key of a record, if its integrity check passes under the KWK. -/
def unwrapKey (s : State) (v : List Byte) : Option (BitVec 512) :=
  match s.thr.slots.get 48 with
  | some kwk => Config.kwUnwrap kwk (bytesAt v 8 72)
  | none => none

/-- Range of a key-install record (R89). -/
def keyRecordRange (v : List Byte) : Bool :=
  let slot := fieldAt v 0 1
  let kind := fieldAt v 1 1
  decide (slotKind slot ≠ 0 ∧ kind = slotKind slot) && zeroAt v 6 2 &&
    (if kind = 2 then (slot == 32 || (decide (fieldAt v 4 2 < 2048) && !(fieldAt v 4 2).testBit 3))
     else zeroAt v 2 4)

/-- The checks of R71 in the order of its table; 0 when all pass. -/
def keyInstallCheck (s : State) (v : List Byte) : Cond :=
  let slot := fieldAt v 0 1
  let w : WingId := ⟨slot % 16, by omega⟩
  if !keyRecordRange v then 0x0306
  else match unwrapKey s v with
    | none => 0x0208
    | some k =>
      if slotKind slot ≠ 1 ∧ highHalf k ≠ 0 then 0x0208
      else if slotKind slot = 1 ∧ lowHalf k = highHalf k then 0x0209
      else if slotKind slot = 1 ∧ (s.wing w).st ≠ .populate then 0x0101
      else if slotKind slot = 1 ∧ keyFilled s ⟨slot % 64, by omega⟩ then 0x0207
      else 0

/-- The slot is filled; a CA key starts with LAST and P zero and the record's scopes, CA0 with all (R60, R68, R72). -/
def installKey (t : Threshold) (v : List Byte) (k : BitVec 512) : Threshold :=
  let slot := fieldAt v 0 1
  let t1 := { t with slots := vset t.slots ⟨slot % 64, by omega⟩ (some k), keyInstallLast := v.take 8 }
  if slotKind slot = 2 then
    let i : Fin 16 := ⟨slot % 16, by omega⟩
    let key : CaKey := if i = 0 then ⟨0xFFFF, 0x07FF, 0, 0⟩
      else ⟨BitVec.ofNat 16 (fieldAt v 2 2), BitVec.ofNat 16 (fieldAt v 4 2), 0, 0⟩
    { t1 with ca := vset t1.ca i key }
  else t1

/-- A CA slot 33 to 47 emptied (R72). -/
def removeKey (t : Threshold) (slot : Nat) : Threshold :=
  { t with slots := vset t.slots ⟨slot % 64, by omega⟩ none, ca := vset t.ca ⟨slot % 16, by omega⟩ CaKey.empty,
           keyRemoveLast := BitVec.ofNat 8 slot }

/-! ### Provisioning and firmware (R73-R76) -/

/-- Bytes of the firmware image that runs. -/
def runningImage (s : State) : List Byte :=
  match s.sys.runningSlot with
  | some i => (s.sys.fwSlots.get i).image
  | none => []

/-- The checks of R73 in order: the state, the transport, the record; 0 when it is accepted. -/
def provisionCheck (s : State) (who : Requester) (v : List Byte) : Cond :=
  match s.thr.st with
  | .normal => 0x0208
  | .locked | .erasing => 0x0205
  | .retired => 0x0220
  | .unprovisioned =>
    match who with
    | .mailbox _ _ =>
      if fieldAt v 0 8 = s.thr.fuses.serial.toNat ∧ fieldAt v 8 1 = s.thr.fuses.eraseEpoch.1 ∧ zeroAt v 9 7
          ∧ Config.ownerSigOk (bytesAt (runningImage s) 128 96) (v.take 80) (bytesAt v 80 96)
          ∧ !lockHeld s.thr then 0
      else 0x0208
    | _ => 0x0220

/-- FW_SVN is programmed up to the running image's version once the state is NORMAL (R75, R572). -/
def programSvn (s : State) : State :=
  if s.thr.st = .normal then
    let v := min (fieldAt (runningImage s) 12 4) 32
    s.onThr fun t => { t with fuses := { t.fuses with fwSvn := ⟨max t.fuses.fwSvn.1 v % 33, by omega⟩ } }
  else s

/-- An accepted provisioning record fills CA0 and the KWK and the state becomes NORMAL (R73). -/
def provision (s : State) (v : List Byte) : State :=
  let ca0 := BitVec.ofNat 512 (fieldAt v 16 32)
  let kwk := BitVec.ofNat 512 (fieldAt v 48 32)
  programSvn (s.onThr fun t =>
    { t with slots := vset (vset t.slots 32 (some ca0)) 48 (some kwk), ca := vset t.ca 0 ⟨0xFFFF, 0x07FF, 0, 0⟩,
             st := .normal })

/-- A firmware image passes its signature and version checks (R76). -/
def imageAccepted (s : State) (v : List Byte) : Bool :=
  Config.imageSigOk s.thr.fuses.fwKeyHash v && decide (s.thr.fuses.fwSvn.1 ≤ fieldAt v 12 4)

/-- The slot that is not running (R76). -/
def otherSlot (s : State) : Fin 2 :=
  match s.sys.runningSlot with
  | some i => if i = 0 then 1 else 0
  | none => 0

/-! ### Debug and alarm reset (R78, R85) -/

/-- A debug unlock is refused for wing 0 while a wing 1-15 exists (R78). -/
def debugUnlockCheck (s : State) (v : Nat) : Cond :=
  if (v / 65536) % 16 = 0 ∧ anyTenant s then 0x020A else 0

/-- The wing and scope bits are added to the unlock state (R78, R91). -/
def debugUnlock (t : Threshold) (v : Nat) : Threshold :=
  { t with debugWings := t.debugWings ||| (1 <<< ((v / 65536) % 16) : W16),
           debugScope := t.debugScope ||| BitVec.ofNat 4 v, debugUnlockLast := BitVec.ofNat 32 v &&& 0xF000F }

/-- Debug scope bit `b` is granted for the wing that holds a Room (R77). -/
def debugAllows (s : State) (r : RoomId) (b : Nat) : Bool :=
  s.thr.debugScope.getLsbD b && s.thr.debugWings.getLsbD (roomOwner s r).1

/-- In LOCKED an alarm reset is accepted when no source at level 2 or 3 is asserted (R85). -/
def alarmResetCheck (s : State) : Cond := if s.thr.st = .locked ∧ lockHeld s.thr then 0x0205 else 0

/-- An accepted alarm reset: NORMAL, failure history cleared (R85). -/
def alarmReset (s : State) : State :=
  programSvn (s.onThr fun t =>
    { t with st := if t.st = .locked then .normal else t.st, failTimes := [], alarmResetLast := 1 })

/-- A level map write: no level 0 and none below the source's lowest (R79, R80). -/
def levelMapCheck (v : Nat) : Cond :=
  if (List.range 6).any fun i => (v / 4 ^ i) % 4 == 0 then 0x0307
  else if (v / 64) % 4 < 2 then 0x0306
  else 0

end Sys2Proof.Machine
end

