-- ==== Sys2Proof/Machine/Dictionary.lean ====
section
/-!
DEFINITION. Machine/Dictionary.lean: the Mladyx object dictionary: the objects and their entries with type, access,
visibility and persistence (R93-R96, R126-R145), what a read returns, and the range and own checks of a write.
-/
namespace Sys2Proof.Machine
open Sys2Proof

/-- Types of an entry (R94); a BLOCK carries its stated length, 0 for any up to 8 MiB. -/
inductive ETy where
  | bool | u8 | u16 | u32 | u64 | i32 | text | block (n : Nat)
  deriving DecidableEq, Repr

/-- Access classes of an entry (R6). -/
inductive Acc where
  | ro | rw | wo | w1c | rwa
  deriving DecidableEq, Repr

/-- Objects of the dictionary (R136). -/
inductive ObjId where
  | identity | can | transports | wings | wing0 (w : WingId) | wing1 (w : WingId)
  | phase | fuse | fan | fuseWing (w : WingId)
  | cellar | stack (i : StoreyId) | images (w : WingId)
  | larder | hallway | rooms | room (r : RoomId) | storey (i : StoreyId)
  | fabric | door (d : DoorId) | stair | porch | pstream (k : Fin 16)
  | threshold | keys | caLast | caScope | alarm | debug | firmware
  | diag | log | stalls | stallUnit (i : Fin 7) | domains
  deriving DecidableEq, Repr

/-- The object of a number (R136); the range 0xF000 holds none (R133). -/
def objectOf (obj : W16) : Option ObjId :=
  let o := obj.toNat
  let lo := o % 16
  let mid : WingId := ⟨(o / 16) % 16, by omega⟩
  if o = 0x1000 then some .identity else if o = 0x1010 then some .can else if o = 0x1020 then some .transports
  else if o = 0x2000 then some .wings
  else if o / 256 = 0x21 ∧ lo = 0 then some (.wing0 mid)
  else if o / 256 = 0x21 ∧ lo = 1 then some (.wing1 mid)
  else if o = 0x3000 then some .phase else if o = 0x3010 then some .fuse else if o = 0x3020 then some .fan
  else if o / 256 = 0x31 ∧ lo = 0 then some (.fuseWing mid)
  else if o = 0x4000 then some .cellar
  else if o / 4 = 0x4010 / 4 then some (.stack ⟨o % 4, by omega⟩)
  else if o / 256 = 0x41 ∧ lo = 0 then some (.images mid)
  else if o = 0x5000 then some .larder else if o = 0x5010 then some .hallway
  else if o = 0x6000 then some .rooms
  else if o / 32 = 0x6100 / 32 then some (.room ⟨o % 32, by omega⟩)
  else if o / 4 = 0x6200 / 4 then some (.storey ⟨o % 4, by omega⟩)
  else if o = 0x7000 then some .fabric
  else if 0x7010 ≤ o ∧ o < 0x7016 then (idx 6 (o - 0x7010)).map .door
  else if o = 0x7100 then some .stair
  else if o = 0x8000 then some .porch
  else if o / 16 = 0x810 then some (.pstream ⟨lo, by omega⟩)
  else if o = 0x9000 then some .threshold else if o = 0x9010 then some .keys
  else if o = 0x9020 then some .caLast else if o = 0x9021 then some .caScope
  else if o = 0x9030 then some .alarm else if o = 0x9040 then some .debug else if o = 0x9050 then some .firmware
  else if o = 0xA000 then some .diag else if o = 0xA010 then some .log else if o = 0xA110 then some .stalls
  else if 0xA111 ≤ o ∧ o ≤ 0xA117 then (idx 7 (o - 0xA111)).map .stallUnit
  else if o = 0xA200 then some .domains
  else none

/-- Highest member listed for an object (R93, R132). -/
def ObjId.top : ObjId → Nat
  | .identity => 7 | .can => 0x0B | .transports => 8 | .wings => 8 | .wing0 _ => 0x0B | .wing1 _ => 0x17
  | .phase => 7 | .fuse => 9 | .fan => 2 | .fuseWing _ => 3 | .cellar => 6 | .stack _ => 0x0B | .images _ => 6
  | .larder => 7 | .hallway => 4 | .rooms => 3 | .room _ => 9 | .storey _ => 4
  | .fabric => 8 | .door _ => 5 | .stair => 3 | .porch => 3 | .pstream _ => 4
  | .threshold => 5 | .keys => 3 | .caLast => 0x10 | .caScope => 0x10 | .alarm => 6 | .debug => 3 | .firmware => 3
  | .diag => 4 | .log => 3 | .stalls => 7 | .domains => 2
  | .stallUnit i => [0x20, 4, 2, 6, 0x10, 3, 0x10].getD i.1 0

/-- One entry: type, access, persistence. -/
structure Entry where
  ty : ETy
  acc : Acc
  pers : Bool := false
  deriving DecidableEq, Repr

/-- The entries of an object by member number (R54, R91, R124, R137-R145); member 00 is the highest member (R93). -/
def ObjId.entry (o : ObjId) (m : Nat) : Option Entry :=
  if m = 0 then some ⟨.u8, .ro, false⟩
  else match o with
  | .identity => [⟨.text, .ro, false⟩, ⟨.text, .ro, false⟩, ⟨.text, .ro, false⟩, ⟨.u8, .ro, false⟩, ⟨.u32, .ro, false⟩,
      ⟨.u16, .ro, false⟩, ⟨.u64, .ro, false⟩][m - 1]?
  | .can => [⟨.u8, .rw, true⟩, ⟨.u8, .rw, true⟩, ⟨.u8, .rw, true⟩, ⟨.u8, .rw, true⟩, ⟨.u16, .rw, true⟩, ⟨.u8, .ro, false⟩,
      ⟨.u8, .ro, false⟩, ⟨.u8, .ro, false⟩, ⟨.u32, .ro, false⟩, ⟨.u32, .ro, false⟩, ⟨.u32, .ro, false⟩][m - 1]?
  | .transports => [⟨.u16, .rwa, true⟩, ⟨.u16, .rwa, true⟩, ⟨.bool, .rwa, true⟩, ⟨.u16, .rw, true⟩, ⟨.u8, .ro, false⟩,
      ⟨.u32, .ro, false⟩, ⟨.u32, .ro, false⟩, ⟨.u32, .ro, false⟩][m - 1]?
  | .wings => [⟨.u8, .ro, false⟩, ⟨.u16, .ro, false⟩, ⟨.block 64, .rwa, false⟩, ⟨.u8, .rwa, false⟩, ⟨.u32, .ro, false⟩,
      ⟨.u32, .ro, false⟩, ⟨.u16, .ro, false⟩, ⟨.u16, .rwa, false⟩][m - 1]?
  | .wing0 _ => [⟨.u8, .ro, false⟩, ⟨.u8, .ro, false⟩, ⟨.u32, .ro, false⟩, ⟨.u32, .ro, false⟩, ⟨.u8, .ro, false⟩,
      ⟨.u16, .ro, false⟩, ⟨.u8, .wo, false⟩, ⟨.u32, .ro, false⟩, ⟨.u32, .ro, false⟩, ⟨.u32, .ro, false⟩,
      ⟨.u8, .ro, false⟩][m - 1]?
  | .wing1 _ =>
    if m ≤ 3 ∨ m = 7 then some ⟨.u8, .ro, false⟩ else if 4 ≤ m ∧ m ≤ 6 then some ⟨.u16, .ro, false⟩
    else if 0x10 ≤ m ∧ m ≤ 0x17 then some ⟨.u32, .ro, false⟩ else none
  | .phase => [⟨.u8, .ro, false⟩, ⟨.u32, .ro, false⟩, ⟨.u64, .ro, false⟩, ⟨.i32, .ro, false⟩, ⟨.u8, .ro, false⟩,
      ⟨.bool, .rw, true⟩, ⟨.u16, .rw, true⟩][m - 1]?
  | .fuse => [⟨.u16, .rwa, true⟩, ⟨.u16, .rwa, true⟩, ⟨.u16, .rwa, true⟩, ⟨.u32, .ro, false⟩, ⟨.u32, .ro, false⟩,
      ⟨.u32, .ro, false⟩, ⟨.u32, .ro, false⟩, ⟨.u16, .ro, false⟩, ⟨.u16, .ro, false⟩][m - 1]?
  | .fan => [⟨.u8, .rw, true⟩, ⟨.u16, .ro, false⟩][m - 1]?
  | .fuseWing _ => if m ≤ 3 then some ⟨.u32, .ro, false⟩ else none
  | .cellar => [⟨.u8, .ro, false⟩, ⟨.u16, .ro, false⟩, ⟨.u16, .ro, false⟩, ⟨.u32, .rw, true⟩, ⟨.u16, .rw, true⟩,
      ⟨.u8, .ro, false⟩][m - 1]?
  | .stack _ => [⟨.u8, .ro, false⟩, ⟨.u8, .ro, false⟩, ⟨.u16, .ro, false⟩, ⟨.u16, .ro, false⟩, ⟨.u16, .ro, false⟩,
      ⟨.u16, .ro, false⟩, ⟨.u16, .ro, false⟩, ⟨.u32, .ro, false⟩, ⟨.u64, .ro, false⟩, ⟨.u32, .ro, false⟩,
      ⟨.u16, .ro, false⟩][m - 1]?
  | .images _ => [⟨.u16, .ro, false⟩, ⟨.u8, .ro, false⟩, ⟨.u8, .rw, false⟩, ⟨.block 64, .ro, false⟩, ⟨.u8, .rwa, false⟩,
      ⟨.u8, .rwa, false⟩][m - 1]?
  | .larder => [⟨.u8, .ro, false⟩, ⟨.u64, .ro, false⟩, ⟨.u16, .ro, false⟩, ⟨.u32, .ro, false⟩, ⟨.u32, .ro, false⟩,
      ⟨.u64, .ro, false⟩, ⟨.bool, .rw, true⟩][m - 1]?
  | .hallway => [⟨.u8, .rw, false⟩, ⟨.u64, .ro, false⟩, ⟨.u64, .ro, false⟩, ⟨.u64, .ro, false⟩][m - 1]?
  | .rooms => [⟨.u8, .ro, false⟩, ⟨.u32, .rw, true⟩, ⟨.u32, .rw, true⟩][m - 1]?
  | .room _ => [⟨.u8, .ro, false⟩, ⟨.u8, .ro, false⟩, ⟨.u16, .ro, false⟩, ⟨.u8, .ro, false⟩, ⟨.u32, .ro, false⟩,
      ⟨.u64, .ro, false⟩, ⟨.u32, .ro, false⟩, ⟨.u8, .w1c, false⟩, ⟨.u32, .ro, false⟩][m - 1]?
  | .storey _ => [⟨.u8, .ro, false⟩, ⟨.u8, .rw, true⟩, ⟨.u32, .ro, false⟩, ⟨.u64, .ro, false⟩][m - 1]?
  | .fabric => [⟨.u16, .ro, false⟩, ⟨.u8, .ro, false⟩, ⟨.bool, .ro, false⟩, ⟨.u16, .ro, false⟩, ⟨.u16, .ro, false⟩,
      ⟨.block 512, .ro, false⟩, ⟨.u16, .ro, false⟩, ⟨.u16, .rw, true⟩][m - 1]?
  | .door _ => [⟨.u8, .ro, false⟩, ⟨.u8, .ro, false⟩, ⟨.u16, .ro, false⟩, ⟨.u64, .ro, false⟩, ⟨.u64, .ro, false⟩][m - 1]?
  | .stair => [⟨.u8, .ro, false⟩, ⟨.u32, .rw, true⟩, ⟨.u64, .ro, false⟩][m - 1]?
  | .porch => [⟨.u8, .ro, false⟩, ⟨.u8, .ro, false⟩, ⟨.u16, .ro, false⟩][m - 1]?
  | .pstream _ => [⟨.u8, .ro, false⟩, ⟨.u8, .ro, false⟩, ⟨.u64, .ro, false⟩, ⟨.u32, .ro, false⟩][m - 1]?
  | .threshold => [⟨.u8, .ro, false⟩, ⟨.block 176, .wo, false⟩, ⟨.u8, .ro, false⟩, ⟨.u64, .ro, false⟩,
      ⟨.block 48, .ro, false⟩][m - 1]?
  | .keys => [⟨.block 80, .rwa, true⟩, ⟨.u64, .ro, false⟩, ⟨.u8, .rwa, true⟩][m - 1]?
  | .caLast => if m ≤ 0x10 then some ⟨.u32, .ro, false⟩ else none
  | .caScope => if m ≤ 0x10 then some ⟨.u32, .ro, false⟩ else none
  | .alarm => [⟨.u8, .rwa, false⟩, ⟨.u16, .rwa, true⟩, ⟨.u8, .ro, false⟩, ⟨.u8, .ro, false⟩, ⟨.u8, .w1c, false⟩,
      ⟨.u8, .ro, false⟩][m - 1]?
  | .debug => [⟨.u32, .rwa, false⟩, ⟨.u32, .ro, false⟩, ⟨.u8, .wo, false⟩][m - 1]?
  | .firmware => [⟨.block 0, .rwa, false⟩, ⟨.u8, .ro, false⟩, ⟨.u32, .ro, false⟩][m - 1]?
  | .diag => [⟨.u32, .ro, false⟩, ⟨.u8, .ro, false⟩, ⟨.i32, .ro, false⟩, ⟨.u16, .ro, false⟩][m - 1]?
  | .log => [⟨.u32, .ro, false⟩, ⟨.u8, .rw, false⟩, ⟨.block 20, .ro, false⟩][m - 1]?
  | .stalls => if m ≤ 7 then some ⟨.u64, .ro, false⟩ else none
  | .stallUnit i => if m ≤ (ObjId.stallUnit i).top then some ⟨.u64, .ro, false⟩ else none
  | .domains => if m ≤ 2 then some ⟨.u32, .ro, false⟩ else none

/-- Wing that owns a W-class instance, if one does (R127). -/
def ObjId.owner (s : State) : ObjId → Option WingId
  | .wing0 w | .wing1 w | .fuseWing w | .images w => some w
  | .room r => (List.finRange 16).find? fun w => (s.wing w).st.exists_ && (s.wing w).maskCreated.getLsbD r.1
  | .pstream k => if (s.porch.streams.get k).st = .free then none else some (s.porch.streams.get k).owner
  | _ => none

/-- An entry is of class A: seen by every requester (R126, R136). -/
def ObjId.classA : ObjId → Nat → Bool
  | .wings, m => m == 1
  | .threshold, m => m == 1
  | .identity, _ | .phase, _ | .cellar, _ | .rooms, _ | .fabric, _ | .stair, _ | .caLast, _ => true
  | _, _ => false

/-- A requester acting for a wing sees a member (R126-R128). -/
def ObjId.sees (s : State) (o : ObjId) (act : WingId) (m : Nat) : Bool :=
  act == 0 || o.classA m || o.owner s == some act

/-- The requester sees at least one member of the object, so that the object exists for it (R95, R132). -/
def ObjId.seesAny (s : State) (o : ObjId) (act : WingId) : Bool :=
  o.sees s act 1

/-- Bytes of an integer type (R94); 0 for TEXT and BLOCK. -/
def ETy.width : ETy → Nat
  | .bool | .u8 => 1 | .u16 => 2 | .u32 | .i32 => 4 | .u64 => 8 | .text | .block _ => 0

/-- A value length fits the type or the entry's stated length (R94). -/
def ETy.lengthOk : ETy → Nat → Bool
  | .text, n => decide (n ≤ 64)
  | .block k, n => if k = 0 then decide (n ≤ 8388608) else n == k
  | t, n => n == t.width

/-! ### Reads -/

/-- Codes of the enumerated states (R39, R54, R82, R124, R138, R140, R142, R143, R144). -/
def WingSt.code : WingSt → Nat
  | .free => 0 | .populate => 1 | .run => 2 | .freezing => 3 | .frozen => 4 | .clearing => 5 | .house => 6
def FrozenBy.code : FrozenBy → Nat | .none => 0 | .host => 1 | .alarm => 2
def ThrSt.code : ThrSt → Nat | .unprovisioned => 0 | .normal => 1 | .locked => 2 | .erasing => 3 | .retired => 4
def CanSt.code : CanSt → Nat | .errorActive => 0 | .errorPassive => 1 | .busOff => 2
def phCode : PhSt → Nat | .unlocked => 0 | .acquiring => 1 | .locked => 2 | .holdover => 3 | .virtual => 4
def StackSt.code : StackSt → Nat | .normal => 0 | .degraded => 1 | .failed => 2
def RoomSt.code : RoomSt → Nat
  | .idle => 0 | .loading => 1 | .running => 2 | .frozen => 3 | .halted => 4 | .watched => 5 | .quarantined => 6
  | .debugHalt => 7
def BlockReason.code : BlockReason → Nat
  | .none => 0 | .pantryTag => 1 | .dataQueue => 2 | .handleQueue => 3 | .token => 4 | .waitph => 5 | .inflight => 6
  | .sync => 7
def DoorSt.code : DoorSt → Nat | .absent => 0 | .training => 1 | .up => 2 | .down => 3
def ImgSt.code : ImgSt → Nat
  | .empty => 0 | .loading => 1 | .loaded => 2 | .verifying => 3 | .committed => 4 | .erasing => 5
def PStreamSt.code : PStreamSt → Nat
  | .free => 0 | .claimed => 1 | .held => 2 | .running => 3 | .paused => 4 | .stopped => 5

/-- Text of an identity entry. -/
def textBytes (t : String) : List Byte := t.toList.map fun c => BitVec.ofNat 8 c.toNat

/-- Pool blocks of a stack not retired (R239). -/
def poolLive (s : State) (k : Stack) : Nat :=
  (if s.sys.part064 then 736 else 1472) - 8 - k.factoryBad.length
    - (k.blocks.filter fun b => b.2.st == .retired).length

/-- SPARES: pool blocks not retired minus the user blocks (R239). -/
def spares (s : State) (k : Stack) : Nat := poolLive s k - blockRows s

/-- Program/erase counts: highest, and mean over the pool blocks not retired (R140, R253). -/
def peMax (k : Stack) : Nat := (k.blocks.map fun b => b.2.pe.toNat).foldl max 0
def peMean (s : State) (k : Stack) : Nat :=
  if poolLive s k = 0 then 0
  else ((k.blocks.filter fun b => b.2.st != .retired).map fun b => b.2.pe.toNat).foldl (· + ·) 0 / poolLive s k

/-- HOTTEST_READS: the highest read counter among the MAPPED and SOURCE blocks (R140, R241). -/
def hottestReads (k : Stack) : Nat :=
  (k.blocks.map fun b => if b.2.st == .mapped || b.2.st == .source then b.2.reads.toNat else 0).foldl max 0

/-- The live BLOCK_REASON word of a Room: Newel [23:16], A-stream [15:8], X-stream [7:0] (R142). -/
def blockLive (r : Room) : Nat :=
  let n := match r.newel.wait with | .blocked w => w.code | _ => 0
  let f (t : Strm) : Nat := match t.wait with
    | .ready => 0 | .blocked w => w.code | .waitph _ => 5 | .rdv _ => 7
  n * 65536 + f r.astream.strm * 256 + f r.xstream

/-- BLOCK_REASON as read: latched in states 4 to 7, live in states 1 to 3 (R142). -/
def blockReason (r : Room) : Nat :=
  match r.st with
  | .halted | .watched | .quarantined | .debugHalt => r.blockLatched.toNat
  | .idle => 0
  | _ => blockLive r

/-- IMAGE_INFO of an image; 64 zero bytes when EMPTY (R219, R235). -/
def imageInfo (n : Nat) (i : Image) : List Byte :=
  if i.st = .empty then List.replicate 64 0
  else leBytes 1 i.st.code ++ leBytes 1 n ++ [0, 0] ++ leBytes 4 i.quarterPages.toNat ++ leBytes 4 i.pages.length ++
    leBytes 4 i.crc.toNat ++ leBytes 8 i.build.toNat ++ bytesAt (i.name ++ List.replicate 16 0) 0 16 ++
    leBytes 2 i.shardIndex.toNat ++ leBytes 2 i.shardCount.toNat ++ leBytes 2 i.streams.toNat ++
    leBytes 2 i.rowsOf ++ leBytes 4 i.verifyLeft.length ++ leBytes 2 i.lastCond.toNat ++ List.replicate 10 0

/-- The census bitmap (R143). -/
def censusBytes (l : List DevAddr) : List Byte :=
  (List.range 512).map fun i =>
    BitVec.ofNat 8 (((List.range 8).filter fun j => l.contains (BitVec.ofNat 12 (i * 8 + j))).foldl (fun a j => a + 2 ^ j) 0)

/-- A record of the log counted back from the newest; zeros if not yet written (R124). -/
def logRecord (m : Mgmt) : List Byte :=
  match m.log[m.logSelect.toNat]? with
  | some r => r.bytes
  | none => List.replicate 20 0

/-- The wing's instance reads its defaults while the wing is FREE, ABORTED_JOBS apart (R54). Value of 0x21w0/m. -/
def wing0Value (s : State) (w : WingId) (m : Nat) : Nat :=
  let x := s.wing w
  if w = 0 then
    match m with
    | 1 => 6
    | 3 => (houseRooms s &&& ~~~s.wingTop.quarantined).toNat
    | 4 => (houseRooms s).toNat
    | 0x0A => x.hatchDiscards.toNat
    | _ => 0
  else match m with
    | 1 => x.st.code
    | 2 => x.frozenBy.code
    | 3 => x.roomMask.toNat
    | 4 => x.maskCreated.toNat
    | 5 => x.flags.toNat
    | 6 => x.spanId.toNat
    | 8 => x.abortedJobs.toNat
    | 9 => if x.st = .clearing then (x.clearLines + 16383) / 16384 else 0
    | 0x0A => x.hatchDiscards.toNat
    | 0x0B => if x.st = .free then 0 else 2 * b2n (keyFilled s (larderSlot w)) + b2n (keyFilled s (cellarSlot w))
    | _ => 0

def wing1Value (s : State) (w : WingId) (m : Nat) : Nat :=
  let x := s.wing w
  if w = 0 then
    match m with
    | 1 => 64 - sumWings s (·.celShare.toNat)
    | 2 => 64 - sumWings s (·.doorShare.toNat)
    | 3 => 64 - sumWings s (·.larShare.toNat)
    | 4 | 5 => s.wingTop.houseFloor.toNat
    | 6 => quotaFree s
    | _ => 0
  else match m with
    | 1 => x.celShare.toNat | 2 => x.doorShare.toNat | 3 => x.larShare.toNat
    | 4 => x.fuseFloor.toNat | 5 => x.fuseCeil.toNat | 6 => x.celQuota.toNat | 7 => x.windowCount.toNat
    | _ => match idx 8 (m - 0x10) with
      | some i => (x.windows.get i).toNat
      | none => 0

/-- A sum of counters, saturating. -/
def sum64 {n : Nat} (v : Vector W64 n) : Nat := min ((v.toList.map (·.toNat)).foldl (· + ·) 0) (2 ^ 64 - 1)

/-- Value of an integer entry (R54, R91, R124, R137-R145). -/
def entryNat (s : State) (o : ObjId) (m : Nat) : Nat :=
  if m = 0 then o.top
  else match o, m with
  | .identity, 4 => 0xB0 | .identity, 5 => s.sys.fwVersion.toNat | .identity, 6 => 0x0100
  | .identity, 7 => (s.thr.us - s.sys.resetUs).toNat
  | .can, 1 => s.mgmt.rates.nomRate.toNat | .can, 2 => s.mgmt.rates.dataRate.toNat
  | .can, 3 => s.mgmt.rates.nomSp.toNat | .can, 4 => s.mgmt.rates.dataSp.toNat
  | .can, 5 => s.mgmt.alertMask.toNat | .can, 6 => s.mgmt.canSt.code | .can, 7 => s.mgmt.tec.toNat
  | .can, 8 => s.mgmt.recCount.toNat | .can, 9 => s.mgmt.framesIgnored.toNat
  | .can, 0x0A => s.mgmt.busOffCount.toNat | .can, 0x0B => s.mgmt.alertsLost.toNat
  | .transports, 1 => s.mgmt.canActMask.toNat | .transports, 2 => s.mgmt.fabActMask.toNat
  | .transports, 3 => b2n s.mgmt.canEnable | .transports, 4 => s.mgmt.segTimeout.toNat
  | .transports, 5 => min s.mgmt.txns.length 255 | .transports, 6 => s.mgmt.refusedCount.toNat
  | .transports, 7 => s.mgmt.timeouts.toNat | .transports, 8 => s.mgmt.mbxIgnored.toNat
  | .wings, 1 => 16
  | .wings, 2 => ((List.finRange 16).map fun w => if (s.wing w).st = .free then 0 else 2 ^ w.1).foldl (· + ·) 0
  | .wings, 4 => s.wingTop.destroyLast.toNat | .wings, 5 => s.wingTop.quarantined.toNat
  | .wings, 6 => (houseRooms s &&& ~~~s.wingTop.quarantined).toNat
  | .wings, 7 => quotaFree s | .wings, 8 => s.wingTop.houseFloor.toNat
  | .wing0 w, m => wing0Value s w m
  | .wing1 w, m => wing1Value s w m
  | .phase, 1 => phCode s.phase.st | .phase, 2 => s.phase.mainsMhz.toNat | .phase, 3 => s.phase.time.toNat
  | .phase, 4 => s.phase.alignErr.toNat
  | .phase, 5 => (s.phase.cmps.toList.filter fun c => !c.held).length
  | .phase, 6 => b2n s.phase.virtualOk | .phase, 7 => s.phase.holdoverMax.toNat
  | .fuse, 1 => s.fuse.deviceCap.toNat | .fuse, 2 => s.fuse.rampLimit.toNat | .fuse, 3 => s.fuse.socketBudget.toNat
  | .fuse, 4 => s.fuse.grant.toNat | .fuse, 5 => s.fuse.spentLast.toNat | .fuse, 6 => s.fuse.lentLast.toNat
  | .fuse, 7 => s.fuse.borrowedLast.toNat | .fuse, 8 => s.fuse.powerNow.toNat
  | .fuse, 9 => ((List.finRange 4).map fun i => (s.storey i).op.toNat * 16 ^ i.1).foldl (· + ·) 0
  | .fan, 1 => s.fuse.fanCeil.toNat | .fan, 2 => s.fuse.fanDuty.toNat
  | .fuseWing w, 1 => (s.fuse.wings.get w).grant.toNat | .fuseWing w, 2 => (s.fuse.wings.get w).spentLast.toNat
  | .fuseWing w, 3 => (s.fuse.wings.get w).capped.toNat
  | .cellar, 1 => 4 | .cellar, 2 => if s.sys.part064 then 64 else 128 | .cellar, 3 => blockRows s
  | .cellar, 4 => s.cellar.disturbLimit.toNat | .cellar, 5 => s.cellar.scrubDays.toNat | .cellar, 6 => 5
  | .stack i, 1 => (s.stack i).st.code | .stack i, 2 => (s.stack i).failedDie.toNat
  | .stack i, 3 => (s.stack i).factoryBad.length | .stack i, 4 => (s.stack i).grownBad.toNat
  | .stack i, 5 => spares s (s.stack i) | .stack i, 6 => peMax (s.stack i) | .stack i, 7 => peMean s (s.stack i)
  | .stack i, 8 => hottestReads (s.stack i) | .stack i, 9 => (s.stack i).retriedPages.toNat
  | .stack i, 0x0A => (s.stack i).relocations.toNat | .stack i, 0x0B => (s.stack i).tagsPeak.toNat
  | .images w, 1 => quotaUsed s w
  | .images w, 2 => ((s.cellar.images.get w).toList.filter fun i => i.st != .empty).length
  | .images w, 3 => (s.cellar.imageSelect.get w).toNat | .images w, 5 => (s.cellar.commitLast.get w).toNat
  | .images w, 6 => (s.cellar.eraseLast.get w).toNat
  | .larder, 1 => if s.larder.fitted64 then 64 else 32 | .larder, 2 => usableTop s | .larder, 3 => s.larder.rateMts.toNat
  | .larder, 4 => s.larder.ceCount.toNat | .larder, 5 => s.larder.ueCount.toNat
  | .larder, 6 => s.larder.lastUeAddr.toNat | .larder, 7 => b2n s.larder.patrolOn
  | .hallway, 1 => s.larder.atomicPolicy.toNat | .hallway, 2 => s.larder.dirEvictions.toNat
  | .hallway, 3 => s.larder.backInvals.toNat | .hallway, 4 => s.larder.farAtomics.toNat
  | .rooms, 1 => 32 | .rooms, 2 => s.sys.stallLimit.toNat | .rooms, 3 => s.sys.storeyLimit.toNat
  | .room r, 1 => (s.room r).st.code | .room r, 2 => (roomOwner s r).1 | .room r, 3 => (s.room r).lastCond.toNat
  | .room r, 4 => (s.room r).faultStream.toNat | .room r, 5 => (s.room r).faultAddr.toNat
  | .room r, 6 => (s.room r).faultCount.toNat | .room r, 7 => blockReason (s.room r)
  | .room r, 8 => if (s.room r).underrun = 0 then 0 else 1
  | .room r, 9 => (s.room r).pantryCe.toNat
  | .storey i, 1 => (s.storey i).op.toNat | .storey i, 2 => (s.storey i).opCeil.toNat
  | .storey i, 3 => (s.storey i).relocks.toNat | .storey i, 4 => (s.storey i).stretched.toNat
  | .fabric, 1 => s.fabric.devAddr.toNat | .fabric, 2 => b2n s.fabric.addrSource | .fabric, 3 => b2n s.fabric.isMaster
  | .fabric, 4 => s.fabric.masterAddr.toNat | .fabric, 5 => s.fabric.census.length | .fabric, 7 => s.fabric.torus.toNat
  | .fabric, 8 => s.fabric.reqTimeout.toNat
  | .door d, 1 => (s.door d).st.code | .door d, 2 => popCount (s.door d).laneMask
  | .door d, 3 => match (s.door d).neighbour with | some a => a.toNat | none => 0xFFFF
  | .door d, 4 => (s.door d).crcErrors.toNat | .door d, 5 => (s.door d).retries.toNat
  | .stair, 1 => (s.stair.ctxs.toList.filter fun c => c.st == .free).length
  | .stair, 2 => s.stair.collTimeout.toNat | .stair, 3 => s.stair.crcFails.toNat
  | .porch, 1 => (s.porch.streams.toList.filter fun k => k.st == .free).length
  | .porch, 2 => if s.porch.parlour.st = .free then 0xFF else s.porch.parlour.owner.1
  | .porch, 3 => s.sys.porchPower.toNat
  | .pstream k, 1 => if (s.porch.streams.get k).st = .free then 0xFF else (s.porch.streams.get k).owner.1
  | .pstream k, 2 => (s.porch.streams.get k).kind.toNat | .pstream k, 3 => (s.porch.streams.get k).delivered.toNat
  | .pstream k, 4 => (s.porch.streams.get k).dropped.toNat
  | .threshold, 1 => s.thr.st.code | .threshold, 3 => s.thr.fuses.eraseEpoch.1
  | .threshold, 4 => s.thr.fuses.serial.toNat
  | .keys, 2 => ((List.finRange 64).map fun k => if keyFilled s k then 2 ^ k.1 else 0).foldl (· + ·) 0
  | .keys, 3 => s.thr.keyRemoveLast.toNat
  | .caLast, m => match idx 16 (m - 1) with | some k => (s.thr.ca.get k).last.toNat | none => 0
  | .caScope, m => match idx 16 (m - 1) with
    | some k => (s.thr.ca.get k).wingScope.toNat * 65536 + (s.thr.ca.get k).cmdScope.toNat
    | none => 0
  | .alarm, 1 => s.thr.alarmResetLast.toNat | .alarm, 2 => s.thr.levelMap.toNat | .alarm, 3 => s.thr.asserted.toNat
  | .alarm, 4 => (s.thr.failTimes.filter fun t => decide (s.thr.us.toNat ≤ t + 60000000)).length
  | .alarm, 5 => s.thr.events.toNat | .alarm, 6 => s.thr.lockSource.toNat
  | .debug, 1 => s.thr.debugUnlockLast.toNat
  | .debug, 2 => s.thr.debugWings.toNat * 65536 + s.thr.debugScope.toNat
  | .firmware, 2 => match s.sys.runningSlot with | some i => i.1 | none => 0
  | .firmware, 3 => s.thr.fuses.fwSvn.1
  | .diag, 1 => s.sys.reservedWrites.toNat | .diag, 2 => s.sys.resetCause.toNat | .diag, 3 => s.fuse.junction.toNat
  | .diag, 4 => s.fuse.vddCoreMv.toNat
  | .log, 1 => s.mgmt.logCount.toNat | .log, 2 => s.mgmt.logSelect.toNat
  | .stalls, 1 => sum64 s.sys.stallRoom | .stalls, 2 => sum64 s.sys.stallStack | .stalls, 3 => sum64 s.sys.stallPair
  | .stalls, 4 => sum64 s.sys.stallDoor | .stalls, 5 => sum64 s.sys.stallRing | .stalls, 6 => sum64 s.sys.stallMladyx
  | .stalls, 7 => sum64 s.sys.stallHatch
  | .stallUnit i, m =>
    ((match i.1 with
      | 0 => s.sys.stallRoom.toList | 1 => s.sys.stallStack.toList | 2 => s.sys.stallPair.toList
      | 3 => s.sys.stallDoor.toList | 4 => s.sys.stallRing.toList | 5 => s.sys.stallMladyx.toList
      | _ => s.sys.stallHatch.toList).getD (m - 1) 0).toNat
  | .domains, 1 => s.sys.clkRunning.toNat | .domains, 2 => s.sys.resetHeld.toNat
  | _, _ => 0

/-- The value a read of an entry returns (R94, R98). -/
def entryBytes (s : State) (o : ObjId) (m : Nat) (e : Entry) : List Byte :=
  match e.ty with
  | .text => textBytes (match m with
      | 1 => "Hazeca" | 2 => "Yeric Floeg" | _ => if s.sys.part064 then "YF4-064" else "YF4-128")
  | .block _ =>
    match o, m with
    | .wings, 3 => s.wingTop.createRecord
    | .images w, 4 =>
      match idx 32 (s.cellar.imageSelect.get w).toNat with
      | some i => imageInfo i.1 ((s.cellar.images.get w).get i)
      | none => List.replicate 64 0
    | .fabric, 6 => censusBytes s.fabric.census
    | .threshold, 5 => leBytes 48 s.thr.fuses.fwKeyHash.toNat
    | .keys, 1 => s.thr.keyInstallLast
    | .log, 3 => logRecord s.mgmt
    | _, _ => []
  | t => leBytes t.width (entryNat s o m)

/-! ### Ranges of writable entries -/

/-- A value lies between two bounds. -/
def within (v lo hi : Nat) : Cond := if lo ≤ v ∧ v ≤ hi then 0 else 0x0306

/-- Check 11 of R101 for a write: range and reserved values; 0 when legal (R54, R91, R94, R124, R138-R145). -/
def rangeCheck (o : ObjId) (m : Nat) (v : List Byte) : Cond :=
  let n := leNat v
  match o, m with
  | .can, 1 | .can, 2 => if n ≤ 3 then 0 else 0x0307
  | .can, 3 | .can, 4 => within n 60 90
  | .transports, 1 | .transports, 2 => if n ≠ 0 then 0 else 0x0306
  | .transports, 3 | .phase, 6 | .larder, 7 => within n 0 1
  | .transports, 4 => within n 10 1000
  | .wings, 4 => within n 1 15
  | .wings, 8 => within n 100 1000
  | .wing0 _, 7 => if 1 ≤ n ∧ n ≤ 3 then 0 else 0x0307
  | .phase, 7 => within n 1 3000
  | .fuse, 1 => within n 800 4000
  | .fuse, 2 => within n 10 2000
  | .fuse, 3 => within n 100 3000
  | .fan, 1 => within n 10 100
  | .cellar, 4 => within n 100000000 1900000000
  | .cellar, 5 => within n 1 180
  | .images _, _ => within n 0 31
  | .hallway, 1 => if n ≤ 2 then 0 else 0x0307
  | .rooms, 2 | .rooms, 3 => within n 0x400 0x40000000
  | .storey _, 2 => within n 0 4
  | .fabric, 8 => within n 10 60000
  | .stair, 2 => within n 100 10000000
  | .keys, 3 => within n 33 47
  | .alarm, 1 => within n 1 1
  | .alarm, 2 => levelMapCheck n
  | .debug, 3 => within n 1 1
  | _, _ => 0

/-! ### Setting plain entries -/

/-- What a write puts in the reserved bits of an entry (R91, R124, R142): such bits are dropped and counted (R7). -/
def reservedPart (o : ObjId) (m n : Nat) : Nat :=
  match o, m with
  | .can, 5 => n % 2
  | .room _, 8 => n / 2
  | .alarm, 2 => n / 4096
  | .debug, 1 => bitsOf n 31 20 + bitsOf n 15 4
  | _, _ => 0

/-- A plain RW or RWA entry takes its value (R6, R131). Entries with an action of their own are left to their commands. -/
def setEntry (s : State) (o : ObjId) (m n : Nat) : State :=
  match o, m with
  | .can, 1 => s.onMgmt fun x => { x with rates := { x.rates with nomRate := BitVec.ofNat 8 n } }
  | .can, 2 => s.onMgmt fun x => { x with rates := { x.rates with dataRate := BitVec.ofNat 8 n } }
  | .can, 3 => s.onMgmt fun x => { x with rates := { x.rates with nomSp := BitVec.ofNat 8 n } }
  | .can, 4 => s.onMgmt fun x => { x with rates := { x.rates with dataSp := BitVec.ofNat 8 n } }
  | .can, 5 => s.onMgmt fun x => { x with alertMask := BitVec.ofNat 16 (n / 2 * 2) }
  | .transports, 1 => s.onMgmt fun x => { x with canActMask := BitVec.ofNat 16 n }
  | .transports, 2 => s.onMgmt fun x => { x with fabActMask := BitVec.ofNat 16 n }
  | .transports, 3 => s.onMgmt fun x => { x with canEnable := n == 1 }
  | .transports, 4 => s.onMgmt fun x => { x with segTimeout := BitVec.ofNat 16 n }
  | .wings, 8 => s.onTop fun x => { x with houseFloor := BitVec.ofNat 16 n }
  | .phase, 6 => s.onPhase fun x => { x with virtualOk := n == 1 }
  | .phase, 7 => s.onPhase fun x => { x with holdoverMax := BitVec.ofNat 16 n }
  | .fuse, 1 => s.onFuse fun x => { x with deviceCap := BitVec.ofNat 16 n }
  | .fuse, 2 => s.onFuse fun x => { x with rampLimit := BitVec.ofNat 16 n }
  | .fuse, 3 => s.onFuse fun x => { x with socketBudget := BitVec.ofNat 16 n }
  | .fan, 1 => s.onFuse fun x => { x with fanCeil := BitVec.ofNat 8 n }
  | .cellar, 4 => s.onCellar fun x => { x with disturbLimit := BitVec.ofNat 32 n }
  | .cellar, 5 => s.onCellar fun x => { x with scrubDays := BitVec.ofNat 16 n }
  | .images w, 3 => s.onCellar fun x => { x with imageSelect := vset x.imageSelect w (BitVec.ofNat 8 n) }
  | .larder, 7 => s.onLarder fun x => { x with patrolOn := n == 1 }
  | .hallway, 1 => s.onLarder fun x => { x with atomicPolicy := BitVec.ofNat 8 n }
  | .rooms, 2 => s.onSys fun x => { x with stallLimit := BitVec.ofNat 32 n }
  | .rooms, 3 => s.onSys fun x => { x with storeyLimit := BitVec.ofNat 32 n }
  | .room r, 8 => if n % 2 = 1 then s.onRoom r fun x => { x with underrun := 0 } else s
  | .storey i, 2 => s.onStorey i fun x => { x with opCeil := BitVec.ofNat 8 n }
  | .fabric, 8 => s.onFabric fun x => { x with reqTimeout := BitVec.ofNat 16 n }
  | .stair, 2 => s.onStair fun x => { x with collTimeout := BitVec.ofNat 32 n }
  | .alarm, 2 => s.onThr fun x => { x with levelMap := BitVec.ofNat 16 (n % 4096) }
  | .alarm, 5 => s.onThr fun x => { x with events := x.events &&& ~~~(BitVec.ofNat 8 n) }
  | .log, 2 => s.onMgmt fun x => { x with logSelect := BitVec.ofNat 8 n }
  | _, _ => s

end Sys2Proof.Machine
end

