-- ==== Sys2Proof/Machine/Phase.lean ====
section
/-!
DEFINITION. Machine/Phase.lean: phase time, the mains lock (R183-R189) and the phase comparators (R194-R198, R212, R213).
-/
namespace Sys2Proof.Machine
open Sys2Proof

/-- A phase-time target is reached: (t - T) mod 2^48 < 2^47 (R185). -/
def reached (t target : W48) : Bool := decide ((t - target).toNat < 2 ^ 47)

/-- MAINS_PH is not ignored: the master device, or a device outside any fabric (R187, R188). -/
def readsMains (s : State) : Bool := s.fabric.isMaster || decide (s.fabric.census.length ≤ 1)

/-- The device runs its own mains states: the master device, a device outside any fabric, or one that misses its beacons
(R188, R192). -/
def ownMains (s : State) : Bool :=
  readsMains s || decide (4 ≤ s.phase.missedBeacons)

/-- Phase time runs (R188, R192). -/
def phaseRuns (s : State) : Bool := s.phase.st != .unlocked && !s.phase.startPending

/-- A device that neither reads its mains nor has seen a beacon holds its phase time, UNLOCKED (R192). -/
def awaitBeacon (s : State) : State :=
  if readsMains s || s.phase.beaconSeen then s
  else s.onPhase fun p =>
    { p with st := .unlocked, mainsMhz := 0, startPending := false, hadValid := false, lastPeriod := none, run := [],
             goodEdges := 0, missingEdges := 0 }

/-- Stage PHASE ends when the phase base leaves UNLOCKED or the first beacon arrives (R577). -/
def phaseStageEnd (s : State) : State :=
  if s.sys.bootStage = 8 ∧ (s.phase.st ≠ .unlocked ∨ s.phase.beaconSeen) then s.onSys fun y => { y with bootStage := 9 }
  else s

/-! ### Comparators -/

/-- Accesses under a wing's Larder key are served: the key is present and no level 3 erase is under way (R83, R265). -/
def larderOpen (s : State) (w : WingId) : Bool := keyFilled s (larderSlot w) && !s.larder.refuseAll

/-- A write of the device's own to a wing offset: made at once, or kept until the line is free. -/
def postWrite (s : State) (w : WingId) (o : Nat) (bs : List Byte) : State :=
  if !larderOpen s w then s
  else if wingFree s w o bs.length ∧ s.larder.posted = [] then wingWrite s w o bs
  else match wingAddr s w o with
    | some a => s.onLarder fun l => { l with posted := l.posted ++ [(a, bs)] }
    | none => s

/-- The Newel phase interrupt of a Room with the comparator that raised it (R196). -/
def raisePhase (s : State) (r : RoomId) (n : Fin 64) : State :=
  s.onRoom r fun x => { x with newel := { x.newel with pendPhase := true, phaseSrc := BitVec.ofNat 32 n.1 } }

/-- The 16 bytes of a match record (R213). -/
def matchRecord (n : Fin 64) (time : W48) (late freeze : Bool) (missed : Byte) (fires : W32) : List Byte :=
  leBytes 6 time.toNat ++ [0, 0] ++ leBytes 2 n.1 ++ [BitVec.ofNat 8 (b2n late + 2 * b2n freeze), missed] ++
    leBytes 4 fires.toNat

/-- A match is delivered: record, interrupt and FIRES (R196, R198). -/
def deliverMatch (s : State) (n : Fin 64) (time : W48) (late freeze : Bool) : State :=
  let s1 := s.onCmp n fun c => { c with fires := c.fires + 1 }
  let c := s1.phase.cmps.get n
  let s2 := if c.record then
    postWrite s1 c.wing c.recAddr.toNat (matchRecord n time late freeze c.missed c.fires) else s1
  if c.event then raisePhase s2 c.room n else s2

/-- Targets of a periodic comparator that phase time `t` has reached, TIME included: at least 1. -/
def targetsPassed (t time : W48) (period : W32) : Nat := (t - time).toNat / period.toNat + 1

/-- The comparator rearms at the first target not yet reached, or disarms (R196). -/
def rearm (c : Cmp) (t : W48) (extra : Nat) : Cmp :=
  if c.period = 0 then { c with arm := false }
  else
    let k := targetsPassed t c.time c.period
    { c with time := c.time + BitVec.ofNat 48 (k * c.period.toNat), missed := satAdd c.missed (k - 1 + extra) }

/-- The owner wing is in a freeze (R198). -/
def wingFrozen (s : State) (w : WingId) : Bool := (s.wing w).st == .freezing || (s.wing w).st == .frozen

/-- An armed comparator whose target is reached matches (R196, R198). -/
def cmpMatch (s : State) (n : Fin 64) : State :=
  let c := s.phase.cmps.get n
  if !(c.held && c.arm && reached s.phase.time c.time) then s
  else if wingFrozen s c.wing then
    match c.latched with
    | none => s.onCmp n fun c => { rearm c s.phase.time 0 with fired := true, latched := some (c.time, c.late) }
    | some _ => s.onCmp n fun c => rearm c s.phase.time 1
  else
    let s1 := s.onCmp n fun c => { rearm c s.phase.time 0 with fired := true }
    deliverMatch s1 n c.time c.late false

/-- Matches latched in a freeze are delivered at the thaw of the wing (R42, R198). -/
def deliverLatched (s : State) (w : WingId) : State :=
  (List.finRange 64).foldl (fun s n =>
    let c := s.phase.cmps.get n
    match c.latched with
    | some (t, late) =>
      if c.held ∧ c.wing = w then deliverMatch (s.onCmp n fun c => { c with latched := none }) n t late true else s
    | none => s) s

/-- The beacon bytes (R214). -/
def beaconBytes (b : Beacon) : List Byte :=
  [1, BitVec.ofNat 8 (phCode b.state)] ++ leBytes 2 b.hops.toNat ++ leBytes 6 b.phase.toNat ++ [0, 0] ++
    leBytes 4 b.delayNs.toNat ++ leBytes 4 b.mhz.toNat ++ List.replicate 12 0

/-- At tick 0 of a cycle the master device sends a beacon on every UP Doorway, unless UNLOCKED (R190). -/
def beaconSend (s : State) : State :=
  if s.fabric.isMaster ∧ s.phase.st ≠ .unlocked ∧ s.phase.time.toNat % 65536 = 0 then
    let b : Beacon := ⟨s.phase.st, 0, s.phase.time, 0, s.phase.mainsMhz⟩
    (List.finRange 6).foldl (fun s d => if (s.door d).st = .up then postOn s d .beacon (beaconBytes b) else s) s
  else s

/-- Phase time moves by one tick: the cycle's holdover is counted, the beacon sent, comparators match in ascending
order (R12, R183, R184, R190, R196). -/
def tick (s : State) : State :=
  let s1 := s.onPhase fun p =>
    { p with time := p.time + 1,
             holdoverUsed := if p.st = .holdover ∧ (p.time + 1).toNat % 65536 = 0 then p.holdoverUsed + 1
                             else p.holdoverUsed }
  (List.finRange 64).foldl cmpMatch (beaconSend s1)

/-- PHASE_TICK: phase time advances by one tick while it runs (R183-R186). -/
def execPhaseTick (s : State) : Res := if phaseRuns s then .next (tick s) else .next s

/-! ### The mains lock (R187, R188) -/

/-- 45 to 65 Hz for a period in 10 ns cycles. -/
def hzOk (p : Nat) : Bool := decide (45 * p ≤ 100000000 ∧ 100000000 ≤ 65 * p)

/-- |a - b|. -/
def absGap (a b : Nat) : Nat := (a - b) + (b - a)

def sumOf (l : List Nat) : Nat := l.foldl (· + ·) 0

/-- MAINS_MHZ of a list of periods: the mean as a frequency in mHz (R189). -/
def mhzOf (l : List Nat) : W32 := BitVec.ofNat 32 (if sumOf l = 0 then 0 else 100000000000 * l.length / sumOf l)

/-- The phase base enters HOLDOVER with a condition; the history of edges starts afresh (R188). -/
def enterHoldover (s : State) (c : Cond) : State :=
  logDev (s.onPhase fun p =>
    { p with st := .holdover, hadValid := false, lastPeriod := none, run := [], goodEdges := 0, missingEdges := 0,
             holdoverUsed := 0, startPending := false }) c

/-- VIRTUAL entered: 50.000 Hz from the reference (R188, R189). -/
def enterVirtual (s : State) : State :=
  phaseStageEnd (logDev (s.onPhase fun p => { p with st := .virtual, mainsMhz := 50000, goodEdges := 0, missingEdges := 0 })
    0x0504)

/-- ACQUIRING entered on four valid periods; from UNLOCKED phase time waits for the next valid edge (R188). -/
def enterAcquiring (s : State) : State :=
  phaseStageEnd (s.onPhase fun p =>
    { p with st := .acquiring, periods := p.run.take 8, mainsMhz := mhzOf (p.run.take 8), goodEdges := 0,
             missingEdges := 0, startPending := p.st == .unlocked })

/-- The phase error of an edge: the tick at which it falls, -32,768 to +32,767 (R188). -/
def phaseError (t : W48) : Int :=
  let e : Nat := t.toNat % 65536
  if e < 32768 then e else (e : Int) - 65536

/-- An edge in ACQUIRING or LOCKED, `dt` cycles after the previous valid edge. The one that starts phase time has the error of
the tick that falls at it (R188). -/
def edgeTracking (s : State) (dt : Nat) : State :=
  let p := s.phase
  let n := p.periods.length
  let sum := sumOf p.periods
  if n ≠ 0 ∧ sum < 20 * absGap (dt * n) sum then s
  else if p.startPending then
    let ps := (dt :: p.periods).take 8
    let s1 := tick (s.onPhase fun p => { p with startPending := false, periods := ps, mainsMhz := mhzOf ps, missingEdges := 0 })
    let e := phaseError s1.phase.time
    s1.onPhase fun p => { p with goodEdges := if -1 ≤ e ∧ e ≤ 1 then p.goodEdges + 1 else 0 }
  else if !hzOk dt ∨ sum < 50 * absGap (dt * n) sum then enterHoldover s 0x0501
  else
    let e := phaseError p.time
    let good := if -1 ≤ e ∧ e ≤ 1 then p.goodEdges + 1 else 0
    let ps := (dt :: p.periods).take 8
    let s1 := s.onPhase fun p =>
      { p with periods := ps, mainsMhz := mhzOf ps, goodEdges := good, missingEdges := 0 }
    if p.st = .acquiring ∧ 16 ≤ good then logDev (s1.onPhase fun p => { p with st := .locked }) 0x050B else s1

/-- An edge in UNLOCKED, HOLDOVER or VIRTUAL. -/
def edgeSearching (s : State) (dt : Nat) : State :=
  let p := s.phase
  if !p.hadValid then s.onPhase fun p => { p with hadValid := true, quietDecisions := 0 }
  else
    let ok := match p.lastPeriod with
      | none => hzOk dt
      | some q => decide (20 * absGap dt q ≤ q)
    if !ok then
      s.onPhase fun p => { p with run := [] }
    else
      let run := if !hzOk dt then [] else match p.run with
        | [] => [dt]
        | q :: _ => if 200 * absGap dt q ≤ q then (dt :: p.run).take 8 else [dt]
      let s1 := s.onPhase fun p => { p with lastPeriod := some dt, run := run, quietDecisions := 0 }
      if 4 ≤ run.length ∧ p.st ≠ .unlocked then enterAcquiring s1 else s1

/-- MAINS_EDGE: a filtered edge, `dt` reference cycles after the previous valid edge (R187, R188). Ignored on a device
whose MAINS_PH is ignored. -/
def execMainsEdge (dt : Nat) (s : State) : Res :=
  if !readsMains s then .next s
  else match s.phase.st with
    | .acquiring | .locked => .next (edgeTracking s dt)
    | _ => .next (edgeSearching s dt)

/-- MAINS_EDGE_MISSING: an expected edge did not come; the second in a row enters HOLDOVER with 0x0501 (R188). -/
def execMainsEdgeMissing (s : State) : Res :=
  if readsMains s ∧ (s.phase.st = .locked ∨ s.phase.st = .acquiring) then
    if 1 ≤ s.phase.missingEdges then .next (enterHoldover s 0x0501)
    else .next (s.onPhase fun p => { p with missingEdges := p.missingEdges + 1, goodEdges := 0 })
  else .next s

/-- UNLOCKED_DECISION: ACQUIRING after four valid periods, or VIRTUAL after 100 ms without a valid edge (R188): at the
tenth decision of UNLOCKED, which starts the count at 1, or the eleventh after an edge, which may lie just before the first. A
device that waits for its first beacon takes no decision (R192). -/
def execUnlockedDecision (s : State) : Res :=
  if s.phase.st ≠ .unlocked ∨ !ownMains s then .next s
  else if 4 ≤ s.phase.run.length then .next (enterAcquiring s)
  else
    let q := s.phase.quietDecisions + 1
    let s1 := s.onPhase fun p => { p with quietDecisions := q }
    if s.phase.virtualOk ∧ 11 ≤ q then .next (enterVirtual s1) else .next s1

/-- HOLDOVER_EXPIRY: after HOLDOVER_MAX mains cycles, VIRTUAL or UNLOCKED as VIRTUAL_OK selects (R188). -/
def execHoldoverExpiry (s : State) : Res :=
  if s.phase.st = .holdover ∧ s.phase.holdoverMax.toNat ≤ s.phase.holdoverUsed then
    if s.phase.virtualOk then .next (enterVirtual s)
    else .next (logDev (s.onPhase fun p => { p with st := .unlocked, mainsMhz := 0, quietDecisions := 1 }) 0x0502)
  else .next s

/-! ### Comparator registers (R194-R197, R212) -/

/-- A PH_CMP_CTRL word (R212). -/
def cmpCtrlWord (room : RoomId) (clrLate clrFired event record arm : Bool) : Nat :=
  room.1 * 2 ^ 19 + 32 * b2n clrLate + 16 * b2n clrFired + 4 * b2n event + 2 * b2n record + b2n arm

/-- The BARs are decoded: READY, D0 (R151, R153). -/
def barUp (s : State) : Bool := s.host.ready && !s.host.cfg.d3hot && !s.sys.inReset

/-- An access that cannot be answered now waits, behind those that wait already (R157, R549). -/
def barWait (s : State) (c : BarAccess) : State := s.onHost fun h => { h with barBlocked := h.barBlocked ++ [c] }

/-- A BAR access of the host to a register of clock domain `dom`: it is performed, or it waits behind an access to a stopped
domain (R157, R549). -/
def barGo (s : State) (c : BarAccess) (dom : Nat) (r : Res) : Res :=
  if !barUp s then .next s
  else if !s.host.barBlocked.isEmpty || !domainUp s dom then .next (barWait s c)
  else r

/-- A wing may be named by a claim: wing 0, or a wing in states 1 to 4 (R194). -/
def wingClaims (s : State) (w : WingId) : Bool :=
  w == 0 || ((s.wing w).st.exists_ && (s.wing w).st != .clearing)

/-- PH_CMP_CLAIM: the lowest claim on a free comparator wins it for the named wing (R194). -/
def phCmpClaimOp (n : Fin 64) (w : WingId) (s : State) : Res :=
  if (s.phase.cmps.get n).held then .next (ringCond s 0 0x0503)
  else if !wingClaims s w then .next (ringCond (s.onCmp n fun c => { c with wing := w }) 0 0x0102)
  else .next (s.onCmp n fun _ => { Cmp.init with held := true, wing := w })

/-- PH_CMP_CLAIM as a BAR access of the host (R151, R157, R549). -/
def execPhCmpClaim (n : Fin 64) (w : WingId) (s : State) : Res :=
  barGo s (bar0 (0x110000 + 32 * n.1) (256 + w.1)) 1 (phCmpClaimOp n w s)

/-- PH_CMP_RELEASE: the owner frees its comparator (R194). -/
def phCmpReleaseOp (n : Fin 64) (w : WingId) (s : State) : Res :=
  let c := s.phase.cmps.get n
  if c.held ∧ c.wing = w then .next (s.onCmp n fun _ => { Cmp.init with wing := w })
  else .next (ringCond (if c.held then s else s.onCmp n fun c => { c with wing := w }) 0 0x0102)

/-- PH_CMP_RELEASE as a BAR access of the host (R151, R157, R549). -/
def execPhCmpRelease (n : Fin 64) (w : WingId) (s : State) : Res :=
  barGo s (bar0 (0x110000 + 32 * n.1) (512 + w.1)) 1 (phCmpReleaseOp n w s)

/-- The check of a write that leaves ARM = 1, or of REC while armed with RECORD (R195). -/
def cmpRefused (s : State) (w : WingId) (event record : Bool) (room : RoomId) (rec_ : Nat) : Bool :=
  (event && !(if w = 0 then (houseRooms s).getLsbD room.1 else (s.wing w).roomMask.getLsbD room.1)) ||
    (record && !wingRange s w rec_ 16)

/-- A CTRL write: W1C bits, then the fields; ARM 0 → 1 clears MISSED and sets LATE for a target already reached
(R195-R197, R212). -/
def cmpCtrl (s : State) (n : Fin 64) (room : RoomId) (clrLate clrFired event record arm : Bool) : State :=
  let c := s.phase.cmps.get n
  if !c.held then ringCond s 0 0x0503
  else if arm ∧ cmpRefused s c.wing event record room c.recAddr.toNat then ringCond s 0 0x0102
  else
    let newly := arm && !c.arm
    s.onCmp n fun c =>
      { c with room := room, event := event, record := record, arm := arm,
               late := if newly then reached s.phase.time c.time else c.late && !clrLate,
               fired := c.fired && !clrFired, missed := if newly then 0 else c.missed }

/-- PH_CMP_ARM: a CTRL write that leaves ARM 1 (R195, R196). -/
def phCmpArmOp (n : Fin 64) (room : RoomId) (clrLate clrFired event record : Bool) (s : State) : Res :=
  .next (cmpCtrl s n room clrLate clrFired event record true)

/-- PH_CMP_ARM as a BAR access of the host (R151, R157, R549). -/
def execPhCmpArm (n : Fin 64) (room : RoomId) (clrLate clrFired event record : Bool) (s : State) : Res :=
  barGo s (bar0 (0x110004 + 32 * n.1) (cmpCtrlWord room clrLate clrFired event record true)) 1
    (phCmpArmOp n room clrLate clrFired event record s)

/-- PH_CMP_DISARM: a CTRL write of ARM 0; a match already made stands (R197). -/
def phCmpDisarmOp (n : Fin 64) (room : RoomId) (clrLate clrFired event record : Bool) (s : State) : Res :=
  .next (cmpCtrl s n room clrLate clrFired event record false)

/-- PH_CMP_DISARM as a BAR access of the host (R151, R157, R549). -/
def execPhCmpDisarm (n : Fin 64) (room : RoomId) (clrLate clrFired event record : Bool) (s : State) : Res :=
  barGo s (bar0 (0x110004 + 32 * n.1) (cmpCtrlWord room clrLate clrFired event record false)) 1
    (phCmpDisarmOp n room clrLate clrFired event record s)

/-- PH_CMP_TIME_WRITE: TIME is taken; while armed a target already reached sets LATE, and MISSED is kept (R195). -/
def phCmpTimeWriteOp (n : Fin 64) (t : W48) (s : State) : Res :=
  let c := s.phase.cmps.get n
  if !c.held then .next (ringCond s 0 0x0503)
  else .next (s.onCmp n fun c =>
    { c with time := t, late := if c.arm then reached s.phase.time t else c.late })

/-- PH_CMP_TIME_WRITE as a BAR access of the host (R151, R157, R549). -/
def execPhCmpTimeWrite (n : Fin 64) (t : W48) (s : State) : Res :=
  barGo s (.write (0x110008 + 32 * n.1) (leBytes 8 t.toNat)) 1 (phCmpTimeWriteOp n t s)

/-- PH_CMP_REC_WRITE: REC is taken, refused with 0x0102 while armed with RECORD if it lies outside the owner's windows
(R195). -/
def phCmpRecWriteOp (n : Fin 64) (a : BitVec 36) (s : State) : Res :=
  let c := s.phase.cmps.get n
  let a' : BitVec 36 := a &&& 0xFFFFFFFF0
  if !c.held then .next (ringCond s 0 0x0503)
  else if c.arm ∧ c.record ∧ cmpRefused s c.wing false true c.room a'.toNat then .next (ringCond s 0 0x0102)
  else .next (s.onCmp n fun c => { c with recAddr := a' })

/-- PH_CMP_REC_WRITE as a BAR access of the host (R151, R157, R549). -/
def execPhCmpRecWrite (n : Fin 64) (a : BitVec 36) (s : State) : Res :=
  barGo s (.write (0x110010 + 32 * n.1) (leBytes 8 a.toNat)) 1 (phCmpRecWriteOp n a s)

/-- PH_NOW_LOW_READ: the low word is returned and the high word latched (R212). -/
def phNowLowReadOp (s : State) : Res :=
  .next ((s.onPhase fun p => { p with nowHigh := BitVec.ofNat 32 (p.time.toNat / 2 ^ 32) }).send
    (.barData (leBytes 4 s.phase.time.toNat)))

/-- PH_NOW_LOW_READ as a BAR access of the host (R151, R157, R549). -/
def execPhNowLowRead (s : State) : Res := barGo s (.read 0x110800 4) 1 (phNowLowReadOp s)

end Sys2Proof.Machine
end

