-- ==== Sys2Proof/Machine/Ends.lean ====
section
/-!
DEFINITION. Machine/Ends.lean: how jobs, Rooms, streams and collectives end: completion records (R166, R167, R180),
unbinding (R227), the end of a Room's program (R345, R366), halts (R179, R389), quarantine (R329) and aborts (R493).
-/
namespace Sys2Proof.Machine
open Sys2Proof

/-! ### Completion records -/

/-- What a completion record carries beside the job's own fields (R180). -/
structure JobEnd where
  cond : Cond
  result : Nat
  detail : W32
  unit : Byte
  deriving DecidableEq, Repr

/-- The descriptor's fields that a record repeats, with LATE and whether its host signals are lost (R152, R180). -/
structure JobTag where
  tag : W32
  typ : Byte
  irq : Bool
  late : Bool
  lost : Bool
  deriving DecidableEq, Repr

/-- The 32 bytes of a completion record (R180). -/
def recordBytes (t : JobTag) (e : JobEnd) (sqHead : Nat) (phase : W48) (pass : Bool) : List Byte :=
  leBytes 4 t.tag.toNat ++ leBytes 2 e.cond.toNat ++ leBytes 2 sqHead ++ leBytes 8 e.result ++
    leBytes 6 phase.toNat ++ leBytes 4 e.detail.toNat ++ [e.unit, t.typ, 0, 0, 0] ++
    [BitVec.ofNat 8 (128 * b2n pass + b2n t.late)]

/-- The mirror copy of a record: posted, held in D3hot, or lost with 0x040B while Bus Master Enable is 0 (R153, R167). -/
def mirrorRecord (s : State) (w : WingId) (addr : Nat) (bytes : List Byte) : State :=
  if !s.host.cfg.busMaster then setAttn (ringCond s w 0x040B) w 4
  else if s.host.cfg.d3hot then s.onHost fun h => { h with heldSignals := h.heldSignals ++ [(addr, bytes)] }
  else s.send (.hostWrite addr bytes)

/-- JOB_COMPLETION: the record goes into the next completion slot, then to the mirror, then the vector is signalled;
TAIL moves and PHASE flips at the wrap (R166, R167, R168). -/
def postRecord (s : State) (w : WingId) (t : JobTag) (e : JobEnd) : State :=
  let r := s.ring w
  let bytes := recordBytes t e r.sqHead.toNat s.phase.time r.phase
  let wrap := decide (r.cqTail.toNat + 1 = 2 ^ r.cqSize.toNat)
  let s1 := (postWrite s w (r.cqBase.toNat + 32 * r.cqTail.toNat) bytes).onRing w fun r =>
    { r with cqTail := if wrap then 0 else r.cqTail + 1, phase := if wrap then !r.phase else r.phase,
             inflight := r.inflight - 1, unreleased := r.unreleased + 1, jobsDone := satAdd r.jobsDone 1 }
  let s2 := if r.cqMirror ≠ 0 ∧ !t.lost then mirrorRecord s1 w (r.cqMirror.toNat + 32 * r.cqTail.toNat) bytes else s1
  if (t.irq ∨ e.cond ≠ 0) ∧ !t.lost then signalVector s2 ⟨w.1, by omega⟩ else s2

/-- RESULT of a record where the spec states none for a failed job: a free value. -/
def openResult (s : State) : Nat := (Config.free64 s.free).toNat

/-- A job of a ring completes (R161, R166). -/
def completeJob (s : State) (j : Job) (e : JobEnd) : State :=
  let lost := (s.ring j.ring).lostSignals.contains j.serial
  let s1 := (s.onHost fun h => { h with jobs := h.jobs.erase j }).onRing j.ring fun r =>
    { r with lostSignals := r.lostSignals.filter (· != j.serial) }
  let s1 := s1.onHatch j.ring fun h =>
    { h with imageJob := if h.imageJob = some j.serial then none else h.imageJob,
             copy := h.copy.filter fun c => c.serial != j.serial }
  postRecord s1 j.ring ⟨j.tag, j.typ, j.irq, j.late, lost⟩ e

/-- A job fails with a condition: UNIT and DETAIL as given, RESULT open. -/
def failJob (s : State) (j : Job) (cond : Cond) (unit : Byte) (detail : W32) : State :=
  (completeJob s j ⟨cond, openResult s, detail, unit⟩).draw

/-- The job with a ring and serial number. -/
def findJob (s : State) (w : WingId) (serial : Nat) : Option Job :=
  s.host.jobs.find? fun j => j.ring == w && j.serial == serial

/-! ### Collective aborts -/

/-- A member takes an abort into its own context: sending stops and the cause is kept (R493). -/
def takeAbort (s : State) (i : Fin 8) (cause : Cond) (detector : DevAddr) : State :=
  s.onCtx i fun c =>
    { c with st := .aborting, aborts := c.aborts ++ [(cause, detector)],
             cause := if c.st = .aborting ∧ c.cause.toNat ≤ cause.toNat then c.cause else cause,
             detector := if c.st = .aborting ∧ (c.cause.toNat < cause.toNat ∨
                 (c.cause = cause ∧ c.detector.toNat ≤ detector.toNat)) then c.detector else detector }

/-- A member aborts: COLL_ABORT to every other member, once, and the abort is taken here; while its wing is frozen nothing
is sent, and the abort waits for the thaw (R493, R495). -/
def abortCtx (s : State) (i : Fin 8) (cause : Cond) : State :=
  let c := s.stair.ctxs.get i
  if c.st = .free then s
  else if wingFrozen s c.wing then s.onCtx i fun c => { c with owed := c.owed ++ [cause] }
  else if c.st = .aborting then takeAbort s i cause s.fabric.devAddr
  else takeAbort (sendAborts s c cause) i cause s.fabric.devAddr

/-- The aborts that waited for the thaw of a wing are made (R42, R495). -/
def abortOwed (s : State) (w : WingId) : State :=
  (List.finRange 8).foldl (fun s i =>
    let c := s.stair.ctxs.get i
    if c.wing = w then c.owed.foldl (fun s e => abortCtx s i e) (s.onCtx i fun c => { c with owed := [] }) else s) s

/-- The Rooms of a handle-form context: its ROOM_MASK; none in the Larder form (R482, R498). -/
def Ctx.roomMask (c : Ctx) : W32 := if c.par.op.getLsbD 7 then BitVec.ofNat 32 c.par.dst else 0

/-- Handle-form contexts that name a Room of the mask abort (R598). -/
def abortForRooms (s : State) (m : W32) (cause : Cond) : State :=
  (List.finRange 8).foldl (fun s i =>
    let c := s.stair.ctxs.get i
    if c.st ≠ .free ∧ c.st ≠ .aborting ∧ c.roomMask &&& m ≠ 0 then abortCtx s i cause else s) s

/-! ### Handles and streams -/

/-- A handle enters a queue of a Room when the queue is not OFF and has a place; otherwise it stays out (R315, R317). -/
def putHandle (s : State) (r : RoomId) (q : Fin 32) (h : W32) : State :=
  s.onRoom r fun x =>
    { x with
      hqs := vmod x.hqs q fun k =>
        if k.kind ≠ .off ∧ k.handles.length < 32 then { k with handles := k.handles ++ [h] } else k,
      watchCount := 0 }

/-- A stream number is released: its bind slot empties and its image has one stream less (R227, R387). -/
def releaseStream (s : State) (n : Fin 64) : State :=
  let x := s.cellar.streams.get n
  let s1 := s.onRoom x.room fun r =>
    { r with astream := { r.astream with bind := r.astream.bind.map fun b => if b = some n then none else b } }
  (if x.remote then s1 else s1.onCellar fun c =>
    { c with images := vmod c.images x.wing fun v => vmod v x.image fun i => { i with streams := i.streams - 1 } })
    |>.onStream n fun _ => CelStream.init

/-- A queue number of a bind record as a handle queue. -/
def queueOf (b : Byte) : Fin 32 := ⟨b.toNat % 32, Nat.mod_lt _ (by decide)⟩

/-- The parameter of a PAGE_REQ that ends a remote stream (R231). -/
def pageReqUnbind : Nat := 1

/-- The data flit of a PAGE_REQ: image, page, stream, time-to-dry (R471). -/
def pageReqFlit (image : Fin 32) (page : Nat) (n : Fin 64) (ttd : Nat) : List Byte :=
  leBytes 4 image.1 ++ leBytes 4 page ++ leBytes 4 n.1 ++ leBytes 4 ttd ++ List.replicate 16 0

/-- A page request of a remote stream toward its source (R231). -/
def postPageReq (s : State) (n : Fin 64) (param page ttd : Nat) (tag : W16) : State :=
  let x := s.cellar.streams.get n
  postPacket s { wingPacket s .pageReq 3 x.wing x.source tag (pageReqFlit x.image page n ttd) with param := param }

/-- UNBIND: no further page is issued; handles of landed pages go back to FREE_Q; the number is released once no page
is in flight (R227). -/
def unbindStream (s : State) (n : Fin 64) : State :=
  let x := s.cellar.streams.get n
  if x.st = .free ∨ x.unbinding then s
  else
    let s1 := if x.remote then postPageReq s n pageReqUnbind 0 0 0 else s
    let s2 := x.landed.foldl (fun s p => putHandle s x.room (queueOf x.freeQ) p.handle) s1
    let s3 := s2.onStream n fun y => { y with unbinding := true, landed := [] }
    if x.flight.isEmpty then releaseStream s3 n else s3

/-- Every stream bound by a Room is unbound. -/
def unbindRoom (s : State) (r : RoomId) : State :=
  (List.finRange 64).foldl (fun s n =>
    let x := s.cellar.streams.get n
    if x.st ≠ .free ∧ x.room = r then unbindStream s n else s) s

/-- The Cellar streams of a Room pause (R327, R389). -/
def pauseRoomStreams (s : State) (r : RoomId) : State :=
  s.onCellar fun c => { c with streams := c.streams.map fun x =>
    if x.st = .running ∧ x.room = r then { x with st := .paused } else x }

/-! ### Rooms -/

/-- c0 of the current window: the first out of the window below (R335). -/
def Newel.c0 (n : Newel) : W32 := (n.outs.get (n.frm - 1).toFin).get 0

/-- The handles that a generator holds, in the order taken, with the queue each goes back to (R366, R380). -/
def Gen.heldHandles (g : Gen) : List (Fin 32 × W32) :=
  match g.hold with
  | .none => []
  | .handle h _ q => [(q, h)]
  | .chain _ _ hs => hs.map fun h => (g.chainOut, h)

/-- All handles held by the generators of both streams are pushed back and the generators unload (R366). -/
def returnHandles (s : State) (r : RoomId) : State :=
  let x := s.room r
  let hs := ((x.astream.strm.gens.toList ++ x.xstream.gens.toList).map Gen.heldHandles).flatten
  (hs.foldl (fun s p => putHandle s r p.1 p.2) s).onRoom r fun x =>
    { x with astream := { x.astream with strm := { x.astream.strm with gens := Vector.replicate 4 Gen.init } },
             xstream := { x.xstream with gens := Vector.replicate 4 Gen.init } }

/-- Agents of a Room stop for good in this run: streams end, operations in progress are abandoned, queue contents are
discarded (R311, R426). -/
def stopAgents (x : Room) : Room :=
  { x with
    queues := Vector.replicate 6 DataQ.init, watchCount := 0, xIssued := false,
    compute := { x.compute with hearth := [], scullery := [] },
    astream := { x.astream with strm := { x.astream.strm with running := false, wait := .ready }, lines := [], issued := 0 },
    xstream := { x.xstream with running := false, wait := .ready },
    newel := { x.newel with wait := .ended } }

/-- A Room becomes IDLE: streams unbound, handles returned, data queues discarded (R311, R327, R366). -/
def roomToIdle (s : State) (r : RoomId) : State :=
  (returnHandles (unbindRoom s r) r).onRoom r fun x => { stopAgents x with st := .idle }

/-- The run job that a Room serves and has not ended. -/
def runJobOf (s : State) (r : RoomId) : Option Job :=
  s.host.jobs.find? fun j => match j.kind with
    | .run _ left => left.getLsbD r.1
    | _ => false

/-- The RUN job of a faulted Room completes with the condition; its other Rooms stop and are left IDLE, but for those that the
same Storey watch has stopped; handle-form contexts that name any of them abort (R179, R328, R598). -/
def failRun (s : State) (r : RoomId) (cond : Cond) (unit : Byte) (detail : W32) : State :=
  match runJobOf s r with
  | some j =>
    match j.kind with
    | .run _ left =>
      let others := left &&& ~~~((1 : W32) <<< r.1)
      let s1 := failJob s j cond unit detail
      abortForRooms ((onesOf others).foldl (fun s q => if (s.room q).st = .watched then s else roomToIdle s q) s1) left cond
    | _ => s
  | none => abortForRooms s ((1 : W32) <<< r.1) cond

/-- The fault registers of a Room (R142): stream 1 Newel, 2 A-stream, 3 X-stream; address; count. -/
structure FaultAt where
  stream : Byte
  addr : W32
  count : W64
  deriving DecidableEq, Repr

/-- A Room stops in HALTED or WATCHED with a condition: agents stop, BLOCK_REASON is latched, fault registers are set,
its Cellar streams pause (R142, R327, R389). The job is left to the caller. -/
def stopRoom (s : State) (r : RoomId) (st : RoomSt) (cond : Cond) (f : FaultAt) : State :=
  pauseRoomStreams (s.onRoom r fun x =>
    { stopAgents x with st := st, lastCond := cond, faultStream := f.stream, faultAddr := f.addr,
                        faultCount := f.count, blockLatched := BitVec.ofNat 32 (blockLive x) }) r

/-- A Room halts with a condition and its RUN job completes with it, UNIT the Room and DETAIL FAULT_ADDR (R179, R389). -/
def haltRoom (s : State) (r : RoomId) (cond : Cond) (f : FaultAt) : State :=
  failRun (stopRoom s r .halted cond f) r cond (BitVec.ofNat 8 r.1) f.addr

/-- Fault registers for a stop that another unit causes: no agent is named (R142). -/
def FaultAt.none : FaultAt := ⟨0, 0, 0⟩

/-- Fault registers of a stream: the byte offset and count of its current command (R389). -/
def FaultAt.astream (x : Room) : FaultAt := ⟨2, BitVec.ofNat 32 x.astream.strm.pc, x.astream.strm.count⟩
def FaultAt.xstream (x : Room) : FaultAt := ⟨3, BitVec.ofNat 32 x.xstream.pc, x.xstream.count⟩

/-- One Room leaves its wing: steps 2 to 6 of R329. The fault registers, LAST_COND and the Larder stores already made
stay (R596). -/
def quarantineOne (s : State) (r : RoomId) : State :=
  let w := roomOwner s r
  let x := s.room r
  let s2 := unbindRoom s r
  let s3 := (dropRoomReqs (discardCache s2 (roomCore r)) r).onRoom r fun _ =>
    { Room.init with st := .quarantined, lastCond := 0x0820, faultStream := x.faultStream, faultAddr := x.faultAddr,
                     faultCount := x.faultCount, blockLatched := BitVec.ofNat 32 (blockLive x),
                     pantryCe := x.pantryCe, held := x.held }
  (s3.onTop fun t => { t with quarantined := t.quarantined ||| ((1 : W32) <<< r.1) }).onWing w fun y =>
    { y with roomMask := y.roomMask &&& ~~~((1 : W32) <<< r.1) }

/-- The other Room of an enabled lockstep pair (R324). -/
def lockstepMate (s : State) (r : RoomId) : Option RoomId :=
  if (s.storey (storeyOf r)).lockstep.getLsbD (r.1 % 8 / 2) then
    idx 32 (if r.1 % 2 = 0 then r.1 + 1 else r.1 - 1) else none

/-- A checker of an enabled lockstep pair: its outputs are compared and discarded (R324). -/
def isChecker (s : State) (r : RoomId) : Bool := (lockstepMate s r).isSome && decide (r.1 % 2 = 1)

/-- QUARANTINE of a Room, and with it of the other Room of its lockstep pair, whose outputs no longer agree: one record with
the reason, UNIT the primary, and the job fails (R324, R329, R595). -/
def quarantine (s : State) (r : RoomId) (detail : W32) : State :=
  let mate := lockstepMate s r
  let unit : RoomId := if isChecker s r then mate.getD r else r
  let s1 := logCond s 0x0820 (wingByte (roomOwner s r)) (BitVec.ofNat 8 unit.1) detail
  let s2 := failRun (quarantineOne s1 r) r 0x0820 (BitVec.ofNat 8 unit.1) (s.room unit).faultAddr
  match mate with
  | some m => quarantineOne s2 m
  | none => s2

/-- A Room's program has ended: it becomes IDLE; the job completes when its last Room ends, with c0 of the mask's lowest
Room (R179, R345). -/
def endRoom (s : State) (r : RoomId) : State :=
  let s1 := roomToIdle s r
  match runJobOf s r with
  | some j =>
    match j.kind with
    | .run mask left =>
      let left' := left &&& ~~~((1 : W32) <<< r.1)
      if left' = 0 then
        let c0 := match onesOf mask with
          | q :: _ => (s1.room q).newel.c0.toNat
          | [] => 0
        completeJob s1 j ⟨0, c0, 0, 0xFF⟩
      else s1.onHost fun h => { h with jobs := h.jobs.map fun k => if k = j then { j with kind := .run mask left' } else k }
    | _ => s1
  | none => s1

/-! ### Pantry slots -/

/-- 64 bytes of a slot (R296). -/
def slotRead (x : Room) (slot : Nat) : List Byte := zread x.pantry (64 * slot) 64

/-- A slot's tag set or cleared (R304). -/
def setTag (x : Room) (slot : Nat) (full : Bool) : Room :=
  { x with full := if full then insertUp x.full slot else x.full.filter (· != slot) }

/-- A slot's tag is full. -/
def tagFull (x : Room) (slot : Nat) : Bool := x.full.contains slot

/-- Bytes written in the Pantry; a write ends the stall watch's count (R326). -/
def pantryWrite (x : Room) (addr : Nat) (bs : List Byte) : Room :=
  { x with pantry := zwrite x.pantry addr bs, watchCount := 0 }

/-! ### Handles (R316, R332) -/

def handleRoom (h : W32) : Nat := h.toNat / 2 ^ 27
def handleStart (h : W32) : Nat := (h.toNat / 2 ^ 13) % 2 ^ 14
def handleSize (h : W32) : Nat := (h.toNat / 2 ^ 9) % 16
/-- Slots that a handle names. -/
def handleSlots (h : W32) : Nat := 2 ^ handleSize h

/-- The slots of a handle lie wholly in one Pantry range held by the task (R316). -/
def inTaskRange (x : Room) (task : BitVec 4) (start n : Nat) : Bool :=
  x.ranges.toList.any fun g => g.held && g.task == task && decide (g.base.toNat * 8 ≤ start ∧
    start + n ≤ (g.base.toNat + g.lenM1.toNat + 1) * 8)

/-- The check of R316 of a handle against a queue of a Room. -/
def handleOk (x : Room) (r : RoomId) (q : Fin 32) (h : W32) : Bool :=
  decide (handleRoom h = r.1 ∧ handleSize h ≤ 8 ∧ h.toNat / 256 % 2 = 0) &&
    inTaskRange x (x.hqs.get q).task (handleStart h) (handleSlots h)

end Sys2Proof.Machine
end

