-- ==== Sys2Proof/Machine/Cellar.lean ====
section
/-!
DEFINITION. Machine/Cellar.lean: Cellar slots, page reads with retry and reconstruction, Landing, programs, relocation,
scrub, erase, die loss and map snapshots (R216-R262).
-/
namespace Sys2Proof.Machine
open Sys2Proof

/-! ### Blocks -/

/-- Block positions of a stack (R217, R239). -/
def blockCount (s : State) : Nat := if s.sys.part064 then 736 else 1472

/-- The journal blocks: the first 8 positions that are not factory-bad (R239). -/
def journalBlocks (s : State) (k : Stack) : List Nat :=
  ((List.range (blockCount s)).filter fun b => !k.factoryBad.contains b).take 8

/-- A block by number; one not listed is fresh. -/
def Stack.block (k : Stack) (b : Nat) : Block := ((k.blocks.find? fun x => x.1 == b).map (·.2)).getD Block.fresh

/-- A block stored in the rising list of blocks. -/
def insertBlock (b : Nat) (x : Block) : List (Nat × Block) → List (Nat × Block)
  | [] => [(b, x)]
  | y :: ys => if b < y.1 then (b, x) :: y :: ys else if b = y.1 then (b, x) :: ys else y :: insertBlock b x ys

def Stack.setBlock (k : Stack) (b : Nat) (f : Block → Block) : Stack :=
  { k with blocks := insertBlock b (f (k.block b)) k.blocks }

/-- The pool: positions that are neither factory-bad nor journal blocks (R239). -/
def poolBlocks (s : State) (k : Stack) : List Nat :=
  let j := journalBlocks s k
  (List.range (blockCount s)).filter fun b => !k.factoryBad.contains b && !j.contains b

/-- ERASED blocks of the pool. -/
def erasedBlocks (s : State) (k : Stack) : List Nat := (poolBlocks s k).filter fun b => (k.block b).st == .erased

/-- The ERASED block with the lowest program/erase count, the lowest number on a tie (R253). -/
def leastWorn (s : State) (k : Stack) : Option Nat :=
  (erasedBlocks s k).foldl (fun o b => match o with
    | none => some b
    | some a => if (k.block b).pe.toNat < (k.block a).pe.toNat then some b else some a) none

/-- The ERASED block with the highest count (R253). -/
def mostWorn (s : State) (k : Stack) : Option Nat :=
  (erasedBlocks s k).foldl (fun o b => match o with
    | none => some b
    | some a => if (k.block a).pe.toNat < (k.block b).pe.toNat then some b else some a) none

/-- Some block of the stack waits for erase. -/
def someToErase (k : Stack) : Bool := k.blocks.any fun b => b.2.st == .toErase

/-- Quarter block index and page position of a data page (R216, R240). -/
def pageBlock (i : Image) (page : Nat) : Nat := page % i.quarterPages.toNat / 1536
def pagePos (i : Image) (page : Nat) : Nat := page % i.quarterPages.toNat % 1536
/-- Stack of a data page (R216). -/
def pageStack (i : Image) (page : Nat) : Nat := page / i.quarterPages.toNat

/-- The block in force for a quarter block: not the target of a relocation that has not ended (R246). -/
def mapOf (k : Stack) (i : StoreyId) (w : WingId) (img : Fin 32) (b : Nat) : Option Nat :=
  (k.blocks.find? fun x =>
    x.2.owner == some (w, img, i, b) && (x.2.st == .mapped || x.2.st == .source || x.2.st == .isOpen) &&
      !(match k.reloc with | some r => r.target == x.1 | none => false)).map (·.1)

/-- Data die of a page position (R599). -/
def dieOf (pos : Nat) : Fin 9 := ⟨pos % 8, by omega⟩

def State.image (s : State) (w : WingId) (img : Fin 32) : Image := (s.cellar.images.get w).get img
def State.onImage (s : State) (w : WingId) (img : Fin 32) (f : Image → Image) : State :=
  s.onCellar fun c => { c with images := vmod c.images w fun v => vmod v img f }

/-- A condition of class 06 is kept as LAST_COND of an image that is not EMPTY (R235). -/
def noteImageCond (s : State) (w : WingId) (img : Fin 32) (c : Cond) : State :=
  if c.toNat / 256 = 6 ∧ (s.image w img).st ≠ .empty then s.onImage w img fun g => { g with lastCond := c } else s

/-- Pages of a wing's images decrypt: the Cellar key is present and no level 3 erase is under way (R83, R218). -/
def xtsOpen (s : State) (w : WingId) : Bool := keyFilled s (cellarSlot w) && !s.larder.refuseAll

/-- Page reads of a wing's own images are issued: the wing is not FREEZING or FROZEN (R39). -/
def wingReads (s : State) (w : WingId) : Bool := (s.wing w).st != .freezing && (s.wing w).st != .frozen

/-- Powered time of a stack in µs: kept time and the Threshold's count (R248). -/
def poweredUs (s : State) (k : Stack) : Nat := k.powered + s.thr.us.toNat

/-- UNIT of a stack's conditions (R262). -/
def stackUnit (i : StoreyId) : Byte := BitVec.ofNat 8 i.1
/-- A stack condition with a block as DETAIL (R262). -/
def logBlock (s : State) (c : Cond) (i : StoreyId) (b : Nat) : State := logCond s c 0xFF (stackUnit i) (BitVec.ofNat 32 b)

/-! ### Relocation queue (R243, R244) -/

/-- Rank of a cause (R244). -/
def RelocCause.rank : RelocCause → Nat
  | .recovery => 0 | .reconstruction => 1 | .retry => 2 | .disturb => 3 | .wear => 4

/-- A MAPPED block becomes SOURCE and is queued once, under its most urgent cause; one of an ERASING image is not
(R243, R244, R245). -/
def queueReloc (s : State) (i : StoreyId) (b : Nat) (cause : RelocCause) : State :=
  let k := s.stack i
  let x := k.block b
  let live := x.st == .mapped || x.st == .source || (x.st == .isOpen && cause == .recovery)
  let erasing := match x.owner with
    | some o => (s.image o.1 o.2.1).st == .erasing
    | none => true
  let running := match k.reloc with | some r => r.source == b | none => false
  if !live || erasing || running then s
  else s.onStack i fun k =>
    let k1 := k.setBlock b fun x => { x with st := .source }
    match k.queue.find? fun q => q.1 == b with
    | some q => if cause.rank < q.2.rank then
        { k1 with queue := k.queue.map fun y => if y.1 == b then (b, cause) else y } else k1
    | none => { k1 with queue := k.queue ++ [(b, cause)] }

/-- Reads of a block are counted and its page seen; the checks of R242, R243 and R247 follow. -/
def countReads (s : State) (i : StoreyId) (b pos n : Nat) : State :=
  let s1 := s.onStack i fun k => k.setBlock b fun x =>
    { x with reads := satAdd x.reads n, seen := x.seen ||| ((1 : BitVec 1536) <<< pos) }
  let x := (s1.stack i).block b
  let s2 := if s1.cellar.disturbLimit.toNat ≤ x.reads.toNat ∧ x.st = .mapped then queueReloc s1 i b .disturb else s1
  let s3 := if 2000000000 ≤ x.reads.toNat ∧ ((s2.stack i).block b).st = .source ∧ !x.raised620 then
      logBlock (s2.onStack i fun k => k.setBlock b fun x => { x with raised620 := true }) 0x0620 i b
    else s2
  if x.readsKept.toNat + 16777216 < x.reads.toNat then s3.onStack i fun k => { k with snapPending := true } else s3

/-- A read operation is issued: counted, in flight on its block, with a read tag (R29, R241). -/
def issueRead (s : State) (i : StoreyId) (b pos : Nat) : State :=
  (countReads s i b pos 1).onStack i fun k =>
    let k1 := k.setBlock b fun x => { x with inflight := x.inflight + 1 }
    { k1 with tagsUsed := k.tagsUsed + 1,
              tagsPeak := if k.tagsPeak.toNat < k.tagsUsed + 1 then BitVec.ofNat 16 (k.tagsUsed + 1) else k.tagsPeak }

/-- A read has landed or ended: its tag is free (R29, R246). -/
def endRead (s : State) (i : StoreyId) (b : Nat) : State :=
  s.onStack i fun k =>
    let k1 := k.setBlock b fun x => { x with inflight := x.inflight - 1 }
    { k1 with tagsUsed := k.tagsUsed - 1 }

/-! ### Streams (R225-R230) -/

/-- Pages of a stream's pattern, and the page at a place of it (R226). -/
def CelStream.total (x : CelStream) : Nat := x.runs * x.runPages
def CelStream.pageAt (x : CelStream) (i : Nat) : Nat :=
  if x.runPages = 0 then 0 else x.startPage + i / x.runPages * x.runStride + i % x.runPages

/-- Time-to-dry in ns (R230). -/
def timeToDry (s : State) (n : Fin 64) : Nat :=
  let x := s.cellar.streams.get n
  let f := (((s.room x.room).hqs.get (queueOf x.fullQ)).handles).length
  if f = 0 then 0 else min (f * 256000 / x.rate) 0xFFFFF

/-- A stream faults: its Room halts with the condition (R226, R231, R233). -/
def faultStreamWith (s : State) (n : Fin 64) (cond : Cond) (unit : Byte) (detail : W32) : State :=
  let x := s.cellar.streams.get n
  let s0 := if x.remote then s else noteImageCond s x.wing x.image cond
  let s1 := s0.onStream n fun y => { y with st := .faulted, cond := cond }
  let s2 := stopRoom s1 x.room .halted cond FaultAt.none
  failRun s2 x.room cond unit detail

/-- A stream that is to issue a page: running, not unbinding, pages left, a handle in FREE_Q (R226). -/
def wantsPage (s : State) (n : Fin 64) : Bool :=
  let x := s.cellar.streams.get n
  x.st == .running && !x.unbinding && decide (x.issued.toNat < x.total) &&
    !(((s.room x.room).hqs.get (queueOf x.freeQ)).handles.isEmpty)

/-- The handle names one page inside one Pantry range of the binding task: the holder of FREE_Q (R226, R316). -/
def pageHandleOk (s : State) (n : Fin 64) (h : W32) : Bool :=
  let x := s.cellar.streams.get n
  handleOk (s.room x.room) x.room (queueOf x.freeQ) h && decide (handleSize h = 8)

/-- A handle that names no page faults its stream when it is drawn: it has left FREE_Q (R226). -/
def drawBadHandle (s : State) (n : Fin 64) : State :=
  let x := s.cellar.streams.get n
  faultStreamWith (s.onRoom x.room fun r =>
    { r with hqs := vmod r.hqs (queueOf x.freeQ) fun q => { q with handles := q.handles.drop 1 }, watchCount := 0 })
    n 0x060B (BitVec.ofNat 8 x.room.1) 0

/-- A handle is drawn from FREE_Q: it pops, and the page takes its place in flight (R226, R227). -/
def drawHandle (s : State) (n : Fin 64) (h : W32) (block : Option Nat) : State :=
  let x := s.cellar.streams.get n
  let last := decide (x.issued.toNat + 1 = x.total)
  (s.onRoom x.room fun r =>
    { r with hqs := vmod r.hqs (queueOf x.freeQ) fun q => { q with handles := q.handles.drop 1 }, watchCount := 0 })
    |>.onStream n fun y =>
      { y with issued := y.issued + 1, st := if last then .draining else y.st,
               flight := y.flight ++ [{ index := x.issued.toNat, page := x.pageAt x.issued.toNat, handle := h,
                                        block := block, step := 0, rebuilding := false }] }

/-- Handles of landed pages that are next in the pattern go to FULL_Q; the stream is FREE after its last page (R227). -/
def deliverLanded : Nat → State → Fin 64 → State
  | 0, s, _ => s
  | fuel + 1, s, n =>
    let x := s.cellar.streams.get n
    match x.landed.find? fun p => p.index == x.delivered.toNat with
    | none => s
    | some p =>
      if 32 ≤ (((s.room x.room).hqs.get (queueOf x.fullQ)).handles).length then s
      else
        let s1 := (putHandle s x.room (queueOf x.fullQ) p.handle).onStream n fun y =>
          { y with delivered := y.delivered + 1, landed := y.landed.erase p }
        if x.delivered.toNat + 1 = x.total then releaseStream s1 n else deliverLanded fuel s1 n

/-- PAGE_LANDED: the page is written into the handle's slots, whatever their tags, and every tag is set full; then Landing
releases what is in order (R226, R227). A page of an unbinding stream gives its handle back to FREE_Q. -/
def landPage (s : State) (n : Fin 64) (p : FlightPage) (data : List Byte) : State :=
  let x := s.cellar.streams.get n
  let st := handleStart p.handle
  let s1 := (s.onStream n fun y => { y with flight := y.flight.erase p }).onRoom x.room fun r =>
    (List.range 256).foldl (fun r i => setTag r (st + i) true) (pantryWrite r (64 * st) data)
  if x.unbinding then
    let s2 := putHandle s1 x.room (queueOf x.freeQ) p.handle
    if (s2.cellar.streams.get n).flight.isEmpty then releaseStream s2 n else s2
  else if x.st = .faulted then s1
  else deliverLanded 65536 (s1.onStream n fun y => { y with landed := y.landed ++ [p] }) n

/-- Plaintext of a data page (R218). -/
def Image.pageData (i : Image) (page : Nat) : List Byte :=
  ((i.pages.find? fun p => p.1 == page).map (·.2)).getD (List.replicate 16384 0)

/-- The page of a stream that a slot of stack `i` would issue: eligible, on this stack, held by a block. -/
def streamPage (s : State) (i : StoreyId) (n : Fin 64) : Option (Nat × Nat) :=
  let x := s.cellar.streams.get n
  let g := s.image x.wing x.image
  let page := x.pageAt x.issued.toNat
  if wantsPage s n ∧ !x.remote ∧ pageStack g page = i.1 ∧ xtsOpen s x.wing then
    (mapOf (s.stack i) i x.wing x.image (pageBlock g page)).map fun b => (b, pagePos g page)
  else none

/-- The read of a stream's next page: the handle is checked and drawn, the read issued (R226). -/
def issueStreamRead (s : State) (i : StoreyId) (n : Fin 64) (b pos : Nat) : State :=
  let x := s.cellar.streams.get n
  match ((s.room x.room).hqs.get (queueOf x.freeQ)).handles with
  | h :: _ => if pageHandleOk s n h then issueRead (drawHandle s n h (some b)) i b pos
      else drawBadHandle s n
  | [] => s

/-- The stream among a list with the smallest time-to-dry, the lowest number on a tie (R12, R229). -/
def smallestTtd (s : State) (ns : List (Fin 64)) : Option (Fin 64) :=
  ns.foldl (fun o n => match o with
    | none => some n
    | some m => if timeToDry s n < timeToDry s m then some n else some m) none

/-- Streams eligible on a stack of wings with a property. -/
def eligible (s : State) (i : StoreyId) (p : WingId → Bool) : List (Fin 64) :=
  (List.finRange 64).filter fun n => p (s.cellar.streams.get n).wing && (streamPage s i n).isSome

/-- The next stream of an isolated wing in ascending rotation after the last one served (R49, R229). -/
def nextInRotation (last : Fin 64) (ns : List (Fin 64)) : Option (Fin 64) :=
  match ns.find? fun n => decide (last.1 < n.1) with
  | some n => some n
  | none => ns.head?

/-- A stack operation of a slot: what to do to the state. -/
abbrev SlotOp := Option State

/-- Step 2 of R229. -/
def ownStreamOp (s : State) (i : StoreyId) (w : WingId) : SlotOp :=
  let ns := eligible s i (· == w)
  let pick := if (s.wing w).isolated then nextInRotation ((s.stack i).rotStream.get w) ns else smallestTtd s ns
  pick.bind fun n => (streamPage s i n).map fun bp =>
    (issueStreamRead s i n bp.1 bp.2).onStack i fun k => { k with rotStream := vset k.rotStream w n }

/-- A verify read of a wing's VERIFYING image on this stack that is not in flight (R223). -/
def verifyOp (s : State) (i : StoreyId) (w : WingId) : SlotOp :=
  let k := s.stack i
  let cand := (List.finRange 32).findSome? fun img =>
    let g := s.image w img
    if g.st = .verifying ∧ xtsOpen s w ∧ wingReads s w then
      (g.verifyLeft.find? fun p => pageStack g p == i.1 &&
        !(k.reads.any fun r => r.kind == .verify w img p)).map fun p => (img, p)
    else none
  cand.bind fun c =>
    let g := s.image w c.1
    (mapOf k i w c.1 (pageBlock g c.2)).map fun b =>
      (issueRead s i b (pagePos g c.2)).onStack i fun k =>
        { k with reads := k.reads ++ [⟨b, pagePos g c.2, .verify w c.1 c.2, 0, false⟩] }

/-- A remote-service request of a wing whose page lies on this stack: smallest time-to-dry, then lowest requester, then
lowest stream (R231). -/
def remoteOp (s : State) (i : StoreyId) (w : WingId) : SlotOp :=
  let k := s.stack i
  let cand := s.cellar.pageReqs.filter fun q =>
    q.wing == w && xtsOpen s w && wingReads s w && pageStack (s.image w q.image) q.page == i.1
  let less (a b : PageReqQ) : Bool :=
    decide (a.ttd < b.ttd ∨ (a.ttd = b.ttd ∧ (a.requester.toNat < b.requester.toNat ∨
      (a.requester = b.requester ∧ a.stream.1 < b.stream.1))))
  let pick := cand.foldl (fun o q => match o with
    | none => some q
    | some b => if less q b then some q else some b) none
  pick.bind fun q =>
    let g := s.image w q.image
    (mapOf k i w q.image (pageBlock g q.page)).map fun b =>
      let s1 := s.onCellar fun c => { c with pageReqs := c.pageReqs.erase q }
      (issueRead s1 i b (pagePos g q.page)).onStack i fun k =>
        { k with reads := k.reads ++ [⟨b, pagePos g q.page, .remote w q.requester q.image q.page q.tag, 0, false⟩] }

/-! ### Programs (R217, R221, R257) -/

/-- Relocation or erase work is queued on a stack (R245). -/
def upkeepQueued (k : Stack) : Bool := !k.queue.isEmpty || k.reloc.isSome || someToErase k

/-- A program by a wing is within the stack's limit of this pair of superframes (R228, R245). -/
def programAllowed (k : Stack) (w : WingId) : Bool :=
  decide (k.pairProgs < 7) && (w == 0 || !upkeepQueued k || decide (k.pairWingProgs < 3))

/-- A program begins: INTENT is journalled (R257). -/
def beginProgram (s : State) (i : StoreyId) (w : WingId) (g : ProgWork) : State :=
  s.onStack i fun k =>
    let k1 := k.setBlock g.block fun x => { x with intent := x.intent ||| ((1 : BitVec 1536) <<< g.pos) }
    { k1 with progs := k.progs ++ [g], pairProgs := k.pairProgs + 1,
              pairWingProgs := if w = 0 then k.pairWingProgs else k.pairWingProgs + 1 }

/-- A block is taken for a quarter block of a LOADING image: OPEN, named by the snapshot that opens it (R258). -/
def openBlock (s : State) (i : StoreyId) (b : Nat) (o : WingId × Fin 32 × Fin 4 × Nat) : State :=
  s.onStack i fun k =>
    let k1 := k.setBlock b fun x => { x with st := .isOpen, owner := some o, visited := poweredUs s k }
    { k1 with snapPending := true }

/-- The newest valid map copy of a stack (R257, R260). -/
def newestMap (k : Stack) : Option MapCopy :=
  match (k.maps.get 0).crcOk, (k.maps.get 1).crcOk with
  | true, true => some (if (k.maps.get 0).seq.toNat < (k.maps.get 1).seq.toNat then k.maps.get 1 else k.maps.get 0)
  | true, false => some (k.maps.get 0)
  | false, true => some (k.maps.get 1)
  | false, false => none

/-- The snapshot in force names the block for its owner. -/
def namedInMap (k : Stack) (b : Nat) : Bool :=
  match newestMap k with
  | some m => (m.blocks.find? fun x => x.1 == b).any fun x => x.2.owner == (k.block b).owner
  | none => false

/-- The IMAGE_LOAD job of a wing and a page of it that this stack could program now. -/
def loadPage (s : State) (i : StoreyId) (w : WingId) : Option (Job × Fin 32 × Nat × Nat × Nat) :=
  let k := s.stack i
  s.host.jobs.findSome? fun j => match j.kind with
    | .imageLoad img left src dest _ =>
      let g := s.image w img
      if j.ring = w ∧ !g.snaps.getLsbD i.1 then
        (left.find? fun p => pageStack g p == i.1 &&
          !(k.progs.any fun q => q.job == some (w, j.serial) && q.page == p)).map fun p => (j, img, p, src, dest)
      else none
    | _ => none

/-- An image byte offset as a wing offset of the load's source (R221). -/
def loadOffset (src dest page : Nat) : Nat := src + (16384 * (page + 1) - dest)

/-- A page program of a wing: into the block of its quarter block, or after opening one; without an ERASED block the load
waits, or completes with 0x0623 when no block waits for erase either (R217, R222, R252). -/
def programOp (s : State) (i : StoreyId) (w : WingId) : SlotOp :=
  let k := s.stack i
  if !programAllowed k w then none
  else (loadPage s i w).bind fun (j, img, page, src, dest) =>
    let g := s.image w img
    let o := (w, img, (i : Fin 4), pageBlock g page)
    if k.st = .failed then some (failJob (noteImageCond s w img 0x0631) j 0x0631 (stackUnit i) 0)
    else match mapOf k i w img (pageBlock g page) with
    | none =>
      match leastWorn s k with
      | some b => some (openBlock s i b o)
      | none => if someToErase k then none
          else some (failJob (logCond (noteImageCond s w img 0x0623) 0x0623 (wingByte w) (stackUnit i) 0) j 0x0623
            (stackUnit i) 0)
    | some b =>
      let off := loadOffset src dest page
      if (k.block b).st = .source ∨ !namedInMap k b ∨ !wingFree s w off 16384 ∨ !larderOpen s w
          ∨ !keyFilled s (cellarSlot w) then none
      else
        let rd := wingRead s w off 16384
        if rd.2.1 then some (failJob rd.2.2 j 0x0703 0xFF 0)
        else some (beginProgram rd.2.2 i w ⟨b, pagePos g page, some (w, j.serial), (w, img), page, rd.1⟩)

/-! ### Upkeep (R243, R245, R248) -/

/-- A program of the relocation that runs. -/
def relocProgram (s : State) (i : StoreyId) : SlotOp :=
  let k := s.stack i
  if k.st = .failed ∨ !programAllowed k 0 then none
  else k.reloc.bind fun r => match r.copied with
    | p :: ps => some ((beginProgram s i 0 ⟨r.target, p, none, (0, 0), 0, []⟩).onStack i fun k =>
        { k with reloc := some { r with copied := ps } })
    | [] => none

/-- A read of the relocation's source. -/
def relocRead (s : State) (i : StoreyId) : SlotOp :=
  let k := s.stack i
  if k.st = .failed then none
  else k.reloc.bind fun r => match r.left with
    | p :: ps => some ((issueRead s i r.source p).onStack i fun k =>
        { k with reloc := some { r with left := ps }, reads := k.reads ++ [⟨r.source, p, .reloc, 0, false⟩] })
    | [] => none

/-- Pages of a mapped block that no read has seen since its last visit (R248). -/
def unseenPage (x : Block) : Option Nat :=
  (List.range 1536).find? fun p => x.programmed.getLsbD p && !x.seen.getLsbD p

/-- 2^(T-55)/10 against hours: the largest whole P with P^10 × 2^(T-55) ≤ (24 × days)^10, and never below 24 (R248). -/
def scrubHours (days : Nat) (t : Int) : Nat :=
  let h := 24 * days
  if t ≤ 55 then h
  else
    let e := (t - 55).toNat
    let ok := (List.range (h + 1)).filter fun p => decide (p ^ 10 * 2 ^ e ≤ h ^ 10)
    max 24 (ok.foldl max 0)

/-- The effective period is computed from SCRUB_DAYS and the mean temperature, a free value (R248). -/
def setPeriod (s : State) (i : StoreyId) : State :=
  let t : Byte := (Config.free64 s.free).setWidth 8
  (s.onStack i fun k =>
    { k with tmean := t, periodH := BitVec.ofNat 16 (scrubHours s.cellar.scrubDays.toNat t.toInt) }).draw

/-- The scrub pass ends: PASSES rises and the period is computed anew (R248). -/
def endPass (s : State) (i : StoreyId) : State :=
  setPeriod (s.onStack i fun k =>
    { k with scrubActive := false, nextBlock := 0, passes := satAdd k.passes 1, lastPass := poweredUs s k }) i

/-- A block has gone longer than twice the period without a visit at a powered time (R249). -/
def overdue (k : Stack) (x : Block) (now : Nat) : Bool := decide (2 * k.periodH.toNat * 3600000000 < now - x.visited)

/-- One step of the scrub pass: a read of an unseen page of the block being visited, or the end of a visit; a block
that became overdue during the pass raises 0x0621 then (R248, R249). -/
def scrubOp (s : State) (i : StoreyId) : SlotOp :=
  let k := s.stack i
  if !k.scrubActive ∨ k.st = .failed then none
  else match k.blocks.find? fun b => decide (k.nextBlock.toNat ≤ b.1) && b.2.st == .mapped with
    | none => some (endPass s i)
    | some (b, x) =>
      match unseenPage x with
      | some p => some ((issueRead s i b p).onStack i fun k => { k with reads := k.reads ++ [⟨b, p, .scrub, 0, false⟩] })
      | none =>
        let s1 := s.onStack i fun k =>
          { (k.setBlock b fun x => { x with seen := 0, visited := poweredUs s k }) with nextBlock := BitVec.ofNat 16 (b + 1) }
        some (if overdue k x (poweredUs s k) ∧ !overdue k x k.passStart then logBlock s1 0x0621 i b else s1)

/-- Step 4 of R229: wing 0's upkeep, programs only in program slots. -/
def upkeepOp (s : State) (i : StoreyId) (program : Bool) : SlotOp :=
  let p := if program then relocProgram s i else none
  p.orElse fun _ => (relocRead s i).orElse fun _ => scrubOp s i

/-- Step 5 of R229: streams, then verify reads, of the other wings without timing isolation. -/
def borrowOp (s : State) (i : StoreyId) (w : WingId) : SlotOp :=
  let other (v : WingId) : Bool := v != w && !(s.wing v).isolated
  let a := (smallestTtd s (eligible s i other)).bind fun n =>
    (streamPage s i n).map fun bp => issueStreamRead s i n bp.1 bp.2
  a.orElse fun _ => (List.finRange 16).findSome? fun v => if other v then verifyOp s i v else none

/-- Blocks of a stack at or above DISTURB_LIMIT are queued (R243). -/
def queueHot (s : State) (i : StoreyId) : State :=
  (s.stack i).blocks.foldl (fun s b =>
    if b.2.st = .mapped ∧ s.cellar.disturbLimit.toNat ≤ b.2.reads.toNat then queueReloc s i b.1 .disturb else s) s

/-! ### The slot (R228, R229) -/

/-- Slot class by position: 7 mod 16 remote service, 15 mod 16 program, else read (R228). -/
inductive SlotClass where
  | read | remote | program
  deriving DecidableEq, Repr

def slotClass (j : Fin 64) : SlotClass :=
  if j.1 % 16 = 7 then .remote else if j.1 % 16 = 15 then .program else .read

/-- Share of a wing in every Cellar slot class (R228). -/
def celShares (s : State) : WingId → Nat :=
  withHouse fun w => if (s.wing w).st.exists_ then (s.wing w).celShare.toNat else 0

/-- The slot's owner by the rotation of its class. -/
def slotOwner (s : State) (i : StoreyId) : WingId × State :=
  let k := s.stack i
  match slotClass k.slot with
  | .read => let r := rotate k.rotRead (celShares s); (r.1, s.onStack i fun k => { k with rotRead := r.2 })
  | .remote => let r := rotate k.rotRemote (celShares s); (r.1, s.onStack i fun k => { k with rotRemote := r.2 })
  | .program => let r := rotate k.rotProg (celShares s); (r.1, s.onStack i fun k => { k with rotProg := r.2 })

/-- The candidates of a slot in the order of R229. -/
def slotOp (s : State) (i : StoreyId) (w : WingId) (c : SlotClass) : SlotOp :=
  let own := match c with
    | .remote => remoteOp s i w
    | .program => programOp s i w
    | .read => none
  own.orElse fun _ => (ownStreamOp s i w).orElse fun _ => (verifyOp s i w).orElse fun _ =>
    (if w = 0 then upkeepOp s i (c == .program) else none).orElse fun _ =>
      if (s.wing w).isolated then none else borrowOp s i w

/-- The slot and frame counters move on; a pair of superframes ends after 32 frames (R228). -/
def advanceSlot (k : Stack) : Stack :=
  let last := decide (k.slot.1 = 63)
  { k with slot := k.slot + 1, frame := if last then k.frame + 1 else k.frame,
           pairProgs := if last ∧ k.frame.1 = 31 then 0 else k.pairProgs,
           pairWingProgs := if last ∧ k.frame.1 = 31 then 0 else k.pairWingProgs }

/-- A remote stream of this device asks its source for its next page; stack `i` looks after streams with number `i`
modulo 4 (R231). -/
def remoteAsk (s : State) (i : StoreyId) : State :=
  match (List.finRange 64).find? fun n =>
      decide (n.1 % 4 = i.1) && (s.cellar.streams.get n).remote && wantsPage s n with
  | none => s
  | some n =>
    let x := s.cellar.streams.get n
    match ((s.room x.room).hqs.get (queueOf x.freeQ)).handles with
    | h :: _ =>
      if !pageHandleOk s n h then drawBadHandle s n
      else
        let ix := x.issued.toNat
        let ttd := timeToDry s n
        let r := newRequest (drawHandle s n h none) (.stream n ix) x.source .pageReq
        postPageReq r.2 n 0 (x.pageAt ix) ttd r.1
    | [] => s

/-- The Cellar clock runs and the stack has recovered (R539, R574). -/
def cellarRuns (s : State) (i : StoreyId) : Bool :=
  s.sys.clkRunning.getLsbD 6 && !s.sys.inReset && !(s.stack i).recovering

/-- The program that a slot of a class can issue without a read tag. -/
def slotProgram (s : State) (i : StoreyId) (w : WingId) (c : SlotClass) : SlotOp :=
  if c = .program then (programOp s i w).orElse fun _ => if w = 0 then relocProgram s i else none else none

/-- CELLAR_SLOT: one slot of a stack; with no free read tag only a program is issued, and a read that is held counts as a
stall (R29, R228, R229). -/
def execCellarSlot (i : StoreyId) (s : State) : Res :=
  if !cellarRuns s i then .next s
  else
    let c := slotClass (s.stack i).slot
    let r := slotOwner s i
    let s1 := r.2.onStack i advanceSlot
    match slotOp s1 i r.1 c with
    | some s2 =>
      if (s1.stack i).tagsUsed < 1024 then .next (remoteAsk s2 i)
      else match slotProgram s1 i r.1 c with
      | some s3 => .next (remoteAsk s3 i)
      | none => .next (s1.onSys fun y => { y with stallStack := vmod y.stallStack i fun n => satAdd n 1 })
    | none => .next (remoteAsk s1 i)

/-! ### Die loss (R254, R256) -/

/-- DIE_LOST: DEGRADED with the first lost die, FAILED with the second; recorded in the next snapshot. -/
def loseDie (s : State) (i : StoreyId) (d : Fin 9) : State :=
  let k := s.stack i
  if k.lostDies.contains d then s
  else if k.lostDies.isEmpty then
    logBlock (s.onStack i fun k => { k with lostDies := [d], st := .degraded, failedDie := BitVec.ofNat 8 d.1,
                                            snapPending := true }) 0x0630 i d.1
  else
    let s1 := s.onStack i fun k => { k with lostDies := k.lostDies ++ [d], st := .failed, snapPending := true }
    if k.st = .failed then s1 else logBlock s1 0x0631 i d.1

/-- DIE_COMMAND_TIMEOUT: a die that leaves three consecutive commands unanswered is lost (R254). -/
def execDieCommandTimeout (i : StoreyId) (d : Fin 9) (s : State) : Res :=
  if !cellarRuns s i then .next s
  else
    let m := (s.stack i).dieMisses.get d + 1
    let s1 := s.onStack i fun k => { k with dieMisses := vset k.dieMisses d m }
    .next (if 3 ≤ m then loseDie s1 i d else s1)

/-! ### Ends of page reads (R223, R227, R233, R250) -/

/-- A read in flight with where it stands. -/
structure ReadAt where
  block : Nat
  pos : Nat
  step : Nat
  rebuilding : Bool
  deriving DecidableEq, Repr

/-- The flight page of a stream read on this stack. -/
def flightPage (s : State) (i : StoreyId) (n : Fin 64) (ix : Nat) : Option FlightPage :=
  let x := s.cellar.streams.get n
  x.flight.find? fun p => p.index == ix && p.block.isSome && pageStack (s.image x.wing x.image) p.page == i.1

def findRead (s : State) (i : StoreyId) : ReadId → Option ReadAt
  | .stream n ix => (flightPage s i n ix).bind fun p => p.block.map fun b =>
      ⟨b, pagePos (s.image (s.cellar.streams.get n).wing (s.cellar.streams.get n).image) p.page, p.step, p.rebuilding⟩
  | .work b pos => ((s.stack i).reads.find? fun r => r.block == b && r.pos == pos).map fun r => ⟨b, pos, r.step, r.rebuilding⟩

/-- Step and reconstruction flag of a read set. -/
def setRead (s : State) (i : StoreyId) (step : Nat) (rebuilding : Bool) : ReadId → State
  | .stream n ix => s.onStream n fun y => { y with flight := y.flight.map fun p =>
      if p.index == ix then { p with step := step, rebuilding := rebuilding } else p }
  | .work b pos => s.onStack i fun k => { k with reads := k.reads.map fun r =>
      if r.block == b && r.pos == pos then { r with step := step, rebuilding := rebuilding } else r }

/-- Commit ends: the image's state and condition, and the job that waits (R223). -/
def endVerify (s : State) (w : WingId) (img : Fin 32) (st : ImgSt) (cond : Cond) (detail : W32) (unit : Byte) : State :=
  let g := s.image w img
  let s1 := s.onImage w img fun g =>
    { g with st := st, verifyLeft := [], commitJob := none, lastCond := if cond = 0 then g.lastCond else cond }
  let s2 := if cond = 0 then s1 else logCond s1 cond (wingByte w) unit detail
  match g.commitJob.bind (findJob s2 w) with
  | some j => if cond = 0 then completeJob s2 j ⟨0, 0, 0, 0xFF⟩ else failJob s2 j cond unit detail
  | none => s2

/-- Every map snapshot of the device is to be written, and the image's change waits for them (R259). -/
def wantSnapshots (s : State) (w : WingId) (img : Fin 32) : State :=
  (s.onImage w img fun g => { g with snaps := 15 }).onCellar fun c =>
    { c with stk := c.stk.map fun k => { k with snapPending := true } }

/-- CRC-32C over the plaintext data pages in ascending order (R223). -/
def imageCrc (g : Image) : W32 := crc32c ((g.pages.map (·.2)).flatten)

/-- VERIFY_DONE: a page has been read back; after the last one the CRC decides (R223). COMMITTED is in force once its
snapshots are (R259). -/
def verified (s : State) (w : WingId) (img : Fin 32) (page : Nat) : State :=
  let g := s.image w img
  if g.st ≠ .verifying then s
  else
    let left := g.verifyLeft.filter (· != page)
    let s1 := s.onImage w img fun g => { g with verifyLeft := left }
    if left ≠ [] then s1
    else if imageCrc g = g.crc then wantSnapshots s1 w img
    else endVerify s1 w img .loaded 0x0606 0 0xFF

/-- A page read for another device is sent: four packets of 4 KiB in page order (R231, R452). -/
def sendPage (s : State) (w : WingId) (dst : DevAddr) (tag : W16) (data : List Byte) : State :=
  (List.range 4).foldl (fun s q =>
    postPacket s { wingPacket s .pageData 1 w dst tag (bytesAt data (4096 * q) 4096) with param := q }) s

/-- A refusal answers a request of another device (R465). -/
def sendRefuse (s : State) (w : WingId) (dst : DevAddr) (tag : W16) (cond : Cond) : State :=
  postPacket s { wingPacket s .refuse 1 w dst tag (leBytes 2 tag.toNat ++ leBytes 2 cond.toNat ++ List.replicate 28 0)
                 with param := cond.toNat }

/-- A page that does not land leaves its stream, which is released when it is unbinding and this was its last page. -/
def dropPage (s : State) (n : Fin 64) (p : FlightPage) : State :=
  let s1 := s.onStream n fun y => { y with flight := y.flight.erase p }
  if (s.cellar.streams.get n).unbinding ∧ (s1.cellar.streams.get n).flight.isEmpty then releaseStream s1 n else s1

/-- A relocation with nothing left to read or program is ready for its snapshot (R243). -/
def relocReady (s : State) (i : StoreyId) : State :=
  let k := s.stack i
  match k.reloc with
  | some r =>
    if r.left.isEmpty ∧ r.copied.isEmpty ∧ (k.progs.all fun g => g.block != r.target) ∧
        (k.reads.all fun x => x.kind != .reloc) then
      s.onStack i fun k => { k with reloc := some { r with snapshot := true }, snapPending := true }
    else s
  | none => s

/-- A read that decoded lands with its data. -/
def readLanded (s : State) (i : StoreyId) (a : ReadAt) (id : ReadId) : State :=
  let s1 := endRead s i a.block
  match id with
  | .stream n ix =>
    match flightPage s i n ix with
    | some p =>
      let x := s.cellar.streams.get n
      if xtsOpen s x.wing then landPage s1 n p ((s.image x.wing x.image).pageData p.page) else dropPage s1 n p
    | none => s1
  | .work b pos =>
    match (s.stack i).reads.find? fun r => r.block == b && r.pos == pos with
    | none => s1
    | some r =>
      let s2 := s1.onStack i fun k => { k with reads := k.reads.erase r }
      match r.kind with
      | .verify w img page => if keyFilled s (cellarSlot w) then verified s2 w img page else s2
      | .reloc => s2.onStack i fun k =>
          { k with reloc := k.reloc.map fun m => if m.source = b then { m with copied := m.copied ++ [pos] } else m }
      | .scrub => s2
      | .remote w req img page tag => if xtsOpen s w then sendPage s2 w req tag ((s.image w img).pageData page) else s2

/-- PAGE_UNRECOVERABLE: the stream faults and its Room halts with 0x0607, UNIT the stack and DETAIL the page; an image
being verified returns to LOADED; a remote request is refused (R223, R233). A relocation goes on without the page; a stream
that is unbinding halts nothing (R227). -/
def readLost (s : State) (i : StoreyId) (a : ReadAt) (id : ReadId) : State :=
  let s1 := endRead s i a.block
  match id with
  | .stream n ix =>
    match flightPage s i n ix with
    | some p =>
      let x := s.cellar.streams.get n
      let s2 := logCond (s1.onImage x.wing x.image fun g => { g with lastCond := 0x0607 }) 0x0607 (wingByte x.wing)
        (stackUnit i) (BitVec.ofNat 32 p.page)
      if x.unbinding then dropPage s2 n p
      else faultStreamWith (dropPage s2 n p) n 0x0607 (stackUnit i) (BitVec.ofNat 32 p.page)
    | none => s1
  | .work b pos =>
    match (s.stack i).reads.find? fun r => r.block == b && r.pos == pos with
    | none => s1
    | some r =>
      let s2 := s1.onStack i fun k => { k with reads := k.reads.erase r }
      match r.kind with
      | .verify w img page =>
        if (s.image w img).st = .verifying then endVerify s2 w img .loaded 0x0607 (BitVec.ofNat 32 page) (stackUnit i)
        else s2
      | .remote w req _ _ tag => sendRefuse s2 w req tag 0x0607
      | .reloc => relocReady s2 i
      | .scrub => s2

/-- A page needs its stripe: possible while no die of it is lost but its own (R250, R255, R256). -/
def canRebuild (k : Stack) (die : Fin 9) : Bool := k.lostDies.all (· == die)

/-- Reconstruction starts: the seven companion pages of the stripe are read from the same block (R241, R250, R599). -/
def startRebuild (s : State) (i : StoreyId) (a : ReadAt) (id : ReadId) : State :=
  if canRebuild (s.stack i) (dieOf a.pos) then setRead (countReads s i a.block a.pos 7) i a.step true id
  else readLost s i a id

/-- PAGE_READ_DONE: every codeword decodes and the page lands, or the read climbs the ladder of five steps and goes to
reconstruction; a page of a lost die is reconstructed directly (R250, R251, R255). -/
def execPageReadDone (i : StoreyId) (id : ReadId) (ok : Bool) (s : State) : Res :=
  match findRead s i id with
  | none => .next s
  | some a =>
    let die := dieOf a.pos
    if a.rebuilding ∨ !cellarRuns s i then .next s
    else if (s.stack i).lostDies.contains die then .next (startRebuild s i a id)
    else
      let s1 := s.onStack i fun k => { k with dieMisses := vset k.dieMisses die 0 }
      if ok then .next (readLanded s1 i a id)
      else if a.step < 5 then
        let s2 := if a.step = 0 then s1.onStack i fun k => { k with retriedPages := satAdd k.retriedPages 1 } else s1
        let s3 := setRead (countReads s2 i a.block a.pos 1) i (a.step + 1) false id
        .next (if a.step + 1 = 2 then queueReloc s3 i a.block .retry else s3)
      else .next (startRebuild s1 i a id)

/-- RECONSTRUCTION_DONE: the page lands or is unrecoverable. On a die that is not lost the block is queued and marked
suspect, or retired after its relocation when it was suspect already; 64 distinct blocks of a die within 10 s lose the
die (R233, R250, R251, R254). -/
def execReconstructionDone (i : StoreyId) (id : ReadId) (ok : Bool) (s : State) : Res :=
  match findRead s i id with
  | none => .next s
  | some a =>
    if !a.rebuilding ∨ !cellarRuns s i then .next s
    else
      let die := dieOf a.pos
      let s1 := if ok then readLanded s i a id else readLost s i a id
      if (s.stack i).lostDies.contains die then .next s1
      else
        let s2 := queueReloc (s1.onStack i fun k => k.setBlock a.block fun x =>
          { x with suspect := true, retireAfter := x.retireAfter || x.suspect }) i a.block .reconstruction
        let now := s.thr.us.toNat
        let s3 := s2.onStack i fun k =>
          { k with rebuilds := (now, die, a.block) :: k.rebuilds.filter fun r => decide (now < r.1 + 10000000) }
        let blocks := ((s3.stack i).rebuilds.filter fun r => r.2.1 == die).map (·.2.2)
        .next (if 64 ≤ blocks.eraseDups.length then loseDie s3 i die else s3)

/-! ### Programs, relocations, erases, snapshots -/

/-- Pages of an image in rising page order. -/
def insertPage (p : Nat × List Byte) : List (Nat × List Byte) → List (Nat × List Byte)
  | [] => [p]
  | q :: qs => if p.1 < q.1 then p :: q :: qs else if p.1 = q.1 then p :: qs else q :: insertPage p qs

/-- The last missing page makes a LOADING image LOADED, and its blocks MAPPED (R220, R240). -/
def checkLoaded (s : State) (w : WingId) (img : Fin 32) : State :=
  let g := s.image w img
  if g.st = .loading ∧ g.pages.length = 4 * g.quarterPages.toNat then
    (wantSnapshots (s.onImage w img fun g => { g with st := .loaded }) w img).onCellar fun c =>
      { c with stk := c.stk.map fun k => { k with blocks := k.blocks.map fun b =>
          match b.2.owner with
          | some o => if o.1 = w ∧ o.2.1 = img ∧ b.2.st = .isOpen then (b.1, { b.2 with st := .mapped }) else b
          | none => b } }
  else s

/-- A page of a load is journalled as done (R221). -/
def loadPageDone (s : State) (g : ProgWork) (w : WingId) (serial : Nat) : State :=
  let s1 := checkLoaded (s.onImage w g.image.2 fun x => { x with pages := insertPage (g.page, g.data) x.pages }) w g.image.2
  match findJob s1 w serial with
  | some j =>
    match j.kind with
    | .imageLoad img left src dest done =>
      let left' := left.filter (· != g.page)
      s1.onHost fun h => { h with jobs := h.jobs.map fun k =>
        if k = j then { j with kind := .imageLoad img left' src dest (done + 16384) } else k }
    | _ => s1
  | none => s1

/-- A block is retired: 0x0624, and 0x0622 while SPARES is 8 or fewer (R252). -/
def retireBlock (s : State) (i : StoreyId) (b : Nat) : State :=
  let s1 := logBlock (s.onStack i fun k =>
    { (k.setBlock b fun x => { x with st := .retired, owner := none, erasing := false }) with
      grownBad := satAdd k.grownBad 1, snapPending := true }) 0x0624 i b
  if spares s1 (s1.stack i) ≤ 8 then logBlock s1 0x0622 i b else s1

/-- The relocation that runs stops: its target is to be erased and its source waits again (R252). -/
def restartReloc (s : State) (i : StoreyId) (r : Reloc) : State :=
  s.onStack i fun k =>
    { (k.setBlock r.target fun x => { x with st := .toErase, retireAfter := true, owner := none }) with
      reloc := none, queue := k.queue ++ [(r.source, .recovery)],
      reads := k.reads.filter fun x => x.kind != .reloc, progs := k.progs.filter fun g => g.block != r.target }

/-- DONE of a page program is journalled: the page is programmed and its INTENT is answered (R257). -/
def Block.pageDone (x : Block) (pos : Nat) : Block :=
  { x with programmed := x.programmed ||| ((1 : BitVec 1536) <<< pos),
           intent := x.intent &&& ~~~((1 : BitVec 1536) <<< pos) }

/-- PAGE_PROGRAM_DONE: a program ends. DONE is journalled; a failed page is not committed and its block is relocated
and then retired (R252, R257). -/
def execPageProgramDone (i : StoreyId) (b pos : Nat) (ok : Bool) (s : State) : Res :=
  match (s.stack i).progs.find? fun g => g.block == b && g.pos == pos with
  | none => .next s
  | some g =>
    let s1 := s.onStack i fun k =>
      { k with progs := k.progs.erase g, dieMisses := vset k.dieMisses (dieOf pos) 0 }
    match g.job with
    | some (w, serial) =>
      if ok then
        .next (loadPageDone (s1.onStack i fun k => k.setBlock b fun x => x.pageDone pos) g w serial)
      else .next (queueReloc (s1.onStack i fun k => k.setBlock b fun x => { x with retireAfter := true }) i b .recovery)
    | none =>
      match (s.stack i).reloc with
      | none => .next s1
      | some r =>
        if !ok then .next (restartReloc s1 i r)
        else
          let s2 := s1.onStack i fun k => k.setBlock b fun x => x.pageDone pos
          .next (relocReady s2 i)

/-- RATE_UPDATE: RATE moves an eighth of the way to the measured rate, rounded toward zero (R230). -/
def execRateUpdate (s : State) : Res :=
  if !s.sys.clkRunning.getLsbD 6 then .next s
  else .next (s.onCellar fun c => { c with streams := c.streams.map fun x =>
    if x.st = .free then x
    else { x with rate := ((x.rate : Int) + Int.tdiv (125 * (x.popped : Int) - (x.rate : Int)) 8).toNat, popped := 0 } })

/-- The next queued relocation in the order of R244. -/
def nextReloc (k : Stack) : Option (Nat × RelocCause) :=
  k.queue.foldl (fun o q => match o with
    | none => some q
    | some p =>
      let rp := (k.block p.1).reads.toNat
      let rq := (k.block q.1).reads.toNat
      if q.2.rank < p.2.rank ∨ (q.2.rank = p.2.rank ∧
          (if q.2 = .disturb ∧ rq ≠ rp then rp < rq else q.1 < p.1)) then some q else some p) none

/-- RELOCATION_START: the first queued block starts moving into an ERASED block; without one it waits, and 0x0623 is
raised once when none is to be erased either (R243, R244, R252, R253). -/
def execRelocationStart (i : StoreyId) (s : State) : Res :=
  let k := s.stack i
  if !cellarRuns s i ∨ k.st = .failed ∨ k.reloc.isSome then .next s
  else match nextReloc k with
    | none => .next s
    | some q =>
      match (if q.2 = .wear then mostWorn s k else leastWorn s k) with
      | none =>
        if someToErase k ∨ k.raised623 then .next s
        else .next (logBlock (s.onStack i fun k => { k with raised623 := true }) 0x0623 i q.1)
      | some t =>
        let x := k.block q.1
        let left := (List.range 1536).filter fun p => x.programmed.getLsbD p
        .next (s.onStack i fun k =>
          { (k.setBlock t fun y => { y with st := .isOpen, owner := x.owner, visited := x.visited }) with
            queue := k.queue.filter fun y => y.1 != q.1, raised623 := false,
            reloc := some { source := q.1, target := t, cause := q.2, left := left, copied := [],
                            snapshot := left.isEmpty },
            snapPending := k.snapPending || left.isEmpty })

/-- The relocation whose snapshot is in force ends: the new block is mapped and the source is to be erased, or is retired
at once when it is suspect twice or has failed (R243, R251, R252). -/
def finishReloc (s : State) (i : StoreyId) : State :=
  match (s.stack i).reloc with
  | none => s
  | some r =>
    if !r.snapshot then s
    else
      let x := (s.stack i).block r.source
      let loading : Bool := match x.owner with
        | some o => (s.image o.1 o.2.1).st == .loading
        | none => false
      let s1 := s.onStack i fun k =>
        { ((k.setBlock r.target fun y => { y with st := if loading then .isOpen else .mapped }).setBlock r.source fun y =>
            { y with st := .toErase, owner := none }) with
          reloc := none,
          relocations := if r.cause = .disturb then satAdd k.relocations 1 else k.relocations }
      if x.retireAfter then retireBlock s1 i r.source else s1

/-- Image changes that waited for the snapshots of all four stacks take effect (R259). -/
def snapshotsSeen (s : State) (i : StoreyId) : State :=
  let s1 := s.onCellar fun c => { c with images := c.images.map fun v => v.map fun g =>
    { g with snaps := g.snaps &&& ~~~((1 : BitVec 4) <<< i.1) } }
  (List.finRange 16).foldl (fun s w => (List.finRange 32).foldl (fun s img =>
    let g := s.image w img
    if g.st = .verifying ∧ g.verifyLeft = [] ∧ g.snaps = 0 then endVerify s w img .committed 0 0 0xFF else s) s) s1

/-- MAP_SNAPSHOT_DONE: the snapshot is written whole into copy A when its number is even and copy B when odd; counters are
persisted, the relocation it names ends, image changes are in force (R242, R243, R257, R259). -/
def execMapSnapshotDone (i : StoreyId) (s : State) : Res :=
  let k := s.stack i
  if !cellarRuns s i ∨ !k.snapPending then .next s
  else
    let seq : W32 := (match newestMap k with | some m => m.seq | none => 0) + 1
    let s1 := finishReloc s i
    let s2 := s1.onStack i fun k =>
      let bs := k.blocks.map fun b => (b.1, { b.2 with readsKept := b.2.reads })
      { k with snapPending := false, blocks := bs,
               maps := vset k.maps ⟨seq.toNat % 2, Nat.mod_lt _ (by decide)⟩
                 { seq := seq, crcOk := true, blocks := bs, powered := poweredUs s k, images := s1.cellar.images } }
    .next (snapshotsSeen s2 i)

/-- BLOCK_ERASE_START: a TO_ERASE block with no read in flight, whose image's entry into ERASING is in a snapshot, starts
its erase; ERASE_START is journalled (R246, R257, R259). -/
def execBlockEraseStart (i : StoreyId) (b : Nat) (s : State) : Res :=
  let x := (s.stack i).block b
  let seen : Bool := match x.owner with
    | some o => !(s.image o.1 o.2.1).snaps.getLsbD i.1
    | none => true
  if cellarRuns s i ∧ x.st = .toErase ∧ x.inflight = 0 ∧ !x.erasing ∧ seen then
    .next (s.onStack i fun k => k.setBlock b fun x => { x with erasing := true })
  else .next s

/-- Some block of a stack belongs to an image (R240). -/
def hasBlocks (s : State) (w : WingId) (img : Fin 32) : Bool :=
  s.cellar.stk.toList.any fun k => k.blocks.any fun b => match b.2.owner with
    | some o => o.1 == w && o.2.1 == img
    | none => false

/-- An ERASING image with no block left is EMPTY, which is then snapshotted (R220, R259). -/
def checkEmpty (s : State) (w : WingId) (img : Fin 32) : State :=
  if (s.image w img).st = .erasing ∧ !hasBlocks s w img then
    (s.onImage w img fun _ => Image.none).onCellar fun c =>
      { c with stk := c.stk.map fun k => { k with snapPending := true } }
  else s

/-- Wear levelling: a PE_MAX more than 1,000 above the least-worn MAPPED block queues that block; 9,000 raises 0x0625 once
(R253). -/
def wearCheck (s : State) (i : StoreyId) : State :=
  let k := s.stack i
  let s1 := if 9000 ≤ peMax k ∧ !k.raised625 then
      logCond (s.onStack i fun k => { k with raised625 := true }) 0x0625 0xFF (stackUnit i) 0 else s
  let least := k.blocks.foldl (fun (o : Option (Nat × Nat)) b =>
    if b.2.st ≠ .mapped then o
    else match o with
      | none => some (b.1, b.2.pe.toNat)
      | some a => if b.2.pe.toNat < a.2 then some (b.1, b.2.pe.toNat) else o) none
  match least with
  | some a => if a.2 + 1000 < peMax k then queueReloc s1 i a.1 .wear else s1
  | none => s1

/-- BLOCK_ERASE_DONE: the block's program/erase count rises and its read count returns to 0; it rejoins the pool, or is
retired when the erase failed, it was to be retired, or the count had reached 10,000 before this erase (R241, R252, R257). -/
def execBlockEraseDone (i : StoreyId) (b : Nat) (ok : Bool) (s : State) : Res :=
  let x := (s.stack i).block b
  if !cellarRuns s i ∨ !x.erasing then .next s
  else
    let pe := satAdd x.pe 1
    let s1 := s.onStack i fun k =>
      { (k.setBlock b fun _ => { Block.fresh with pe := pe }) with dieMisses := Vector.replicate 9 0 }
    let s2 := if !ok ∨ x.retireAfter ∨ 10000 ≤ x.pe.toNat then retireBlock s1 i b else s1
    let s3 := wearCheck s2 i
    .next (match x.owner with | some o => checkEmpty s3 o.1 o.2.1 | none => s3)

/-! ### Scrub (R248, R249, R261) -/

/-- A pass starts at the lowest MAPPED block; blocks not visited within twice the period raise 0x0621 (R248, R249). -/
def startPass (s : State) (i : StoreyId) : State :=
  let k := s.stack i
  let late := k.blocks.filter fun b => b.2.st == .mapped && overdue k b.2 (poweredUs s k)
  late.foldl (fun s b => logBlock s 0x0621 i b.1)
    (s.onStack i fun k => { k with scrubActive := true, nextBlock := 0, passStart := poweredUs s k })

/-- SCRUB_PASS_START: the timed pass, once the effective period has passed since the last one (R248). -/
def execScrubPassStart (i : StoreyId) (s : State) : Res :=
  let k := s.stack i
  if cellarRuns s i ∧ !k.scrubActive ∧ k.lastPass + k.periodH.toNat * 3600000000 ≤ poweredUs s k then .next (startPass s i)
  else .next s

/-- SCRUB_NOW: wing 0 starts a full pass, ignored while one runs (R261). -/
def scrubNowOp (i : StoreyId) (s : State) : Res :=
  if cellarRuns s i ∧ !(s.stack i).scrubActive then .next (startPass s i) else .next s

/-- SCRUB_NOW as a BAR access of the host (R151, R157, R549). -/
def execScrubNow (i : StoreyId) (s : State) : Res := barGo s (bar0 (0x121010 + 64 * i.1) 1) 6 (scrubNowOp i s)

/-! ### Image operations shared by jobs and the dictionary (R223, R224) -/

/-- The refusal of a commit, or 0 (R223). -/
def commitCheck (s : State) (w : WingId) (img : Fin 32) : Cond :=
  match (s.image w img).st with
  | .loaded => 0
  | .loading => 0x0605
  | _ => 0x0602

/-- A commit is accepted: the image is VERIFYING with every data page still to read (R223). -/
def startVerify (s : State) (w : WingId) (img : Fin 32) (job : Option Nat) : State :=
  s.onImage w img fun g =>
    { g with st := .verifying, verifyLeft := List.range (4 * g.quarterPages.toNat), commitJob := job, snaps := 0 }

/-- The refusal of an erase, or 0 (R224). -/
def eraseCheck (s : State) (w : WingId) (img : Fin 32) : Cond :=
  let g := s.image w img
  match g.st with
  | .verifying | .empty | .erasing => 0x0602
  | .committed =>
    if g.streams ≠ 0 ∨ s.cellar.remote.toList.any (fun c => c.used && c.wing == w && c.image == img) then 0x060A else 0
  | _ => 0

/-- An erase is accepted: the image is ERASING, its blocks leave the relocation queue for TO_ERASE; a load that
still runs on it ends with 0x0602 (R220, R222, R224, R244). -/
def startImageErase (s : State) (w : WingId) (img : Fin 32) : State :=
  let mine (b : Block) : Bool := match b.owner with
    | some o => o.1 == w && o.2.1 == img && b.st != .retired
    | none => false
  let loads := s.host.jobs.filter fun j => j.ring == w && (match j.kind with | .imageLoad i _ _ _ _ => i == img | _ => false)
  let s0 := loads.foldl (fun s j => failJob s j 0x0602 0xFF 0) s
  let s1 := s0.onCellar fun c =>
    { c with
      images := vmod c.images w fun v => vmod v img fun g =>
        { g with st := .erasing, pages := [], verifyLeft := [], snaps := 15,
                 heldErase := (s.wing w).st == .free },
      stk := c.stk.map fun k =>
        let gone (b : Nat) : Bool := mine (k.block b)
        { k with
          snapPending := true,
          queue := k.queue.filter fun q => !gone q.1,
          reloc := k.reloc.filter fun r => !gone r.source,
          reads := k.reads.filter fun r => !(r.kind == .reloc && gone r.block),
          progs := k.progs.filter fun g => !gone g.block,
          blocks := k.blocks.map fun b => if mine b.2 then (b.1, { b.2 with st := .toErase }) else b } }
  checkEmpty s1 w img

end Sys2Proof.Machine
end

