-- ==== Sys2Proof/Machine/DevMem.lean ====
section
/-!
DEFINITION. Machine/DevMem.lean: device addresses (R21-R28, R34, R35), who reaches which of them (R24, R25, R509), and
the plain accesses to Pantries, program memories, Porch SRAM and Foyer private.
-/
namespace Sys2Proof.Machine
open Sys2Proof

/-- What a device address names (R34). -/
inductive DevTarget where
  | larder (a : Nat)
  | pantry (room : RoomId) (off : Nat)
  | program (room : RoomId) (off : Nat)
  | porch (off : Nat)
  | foyer (off : Nat)
  | regs (off : Nat)
  | remote (dev : DevAddr) (off : Nat)
  deriving DecidableEq, Repr

/-- The whole access lies in one region of a base and a size. -/
def inRegion (a n base size : Nat) : Bool := decide (base ≤ a ∧ a + n ≤ base + size)

/-- A stretch of a program-memory block that is not reserved (R35). -/
def programMapped (off n : Nat) : Bool :=
  inRegion off n 0 0x8000 || inRegion off n 0x8000 0x8000 || inRegion off n 0x10000 0x4000
    || inRegion off n 0x18000 0x8000

/-- The region that holds every byte of an access, if one does (R23, R34). -/
def devDecode (s : State) (a n : Nat) : Option DevTarget :=
  if inRegion a n 0 (usableTop s) then some (.larder a)
  else if inRegion a n 0x4000000000 0x2000000 then
    let o := a - 0x4000000000
    if o / 0x100000 = (o + n - 1) / 0x100000 then some (.pantry ⟨(o / 0x100000) % 32, by omega⟩ (o % 0x100000)) else none
  else if inRegion a n 0x4004000000 0x400000 then
    let o := a - 0x4004000000
    if programMapped (o % 0x20000) n then some (.program ⟨(o / 0x20000) % 32, by omega⟩ (o % 0x20000)) else none
  else if inRegion a n 0x4008000000 0x400000 then some (.porch (a - 0x4008000000))
  else if inRegion a n 0x400C000000 0x1000000 then some (.foyer (a - 0x400C000000))
  else if inRegion a n 0x8000000000 0x1000000 then some (.regs (a - 0x8000000000))
  else if inRegion a n 0x800000000000 0x800000000000 then
    if a % 2 ^ 35 + n ≤ 2 ^ 35 then some (.remote (BitVec.ofNat 12 (a / 2 ^ 35)) (a % 2 ^ 35)) else none
  else none

/-! ### Porch SRAM (R508-R511) -/

/-- A page that a wing holds. -/
def holdsPage (s : State) (w : WingId) (p : Nat) : Bool :=
  match idx 64 p with
  | some i => (s.porch.pages.get i).held && !(s.porch.pages.get i).zeroing && decide ((s.porch.pages.get i).wing = w)
  | none => false

/-- Every page that a range of Porch SRAM touches is held by the wing. -/
def holdsPages (s : State) (w : WingId) (off n : Nat) : Bool :=
  (List.range ((off + n - 1) / 65536 + 1 - off / 65536)).all fun i => holdsPage s w (off / 65536 + i)

/-- A mapped stretch of page 0 (R508, R510, R532). -/
def pageZeroMapped (off n : Nat) : Bool :=
  if off < 0x4000 then
    inRegion (off % 0x400) n 0 0x44 || inRegion (off % 0x400) n 0x80 8
  else decide (off + n ≤ 0x5000) || inRegion off n 0x7FF0 4

/-- The condition that refuses an access of a wing to Porch SRAM; 0 when it is performed (R23, R508, R509). -/
def porchRefuse (s : State) (w : WingId) (off n : Nat) : Cond :=
  if off < 65536 ∧ (!pageZeroMapped off n) = true then 0x0701
  else if w = 0 then 0
  else if off < 0x4000 then (if off / 0x400 = w.1 then 0 else 0x0102)
  else if off < 0x5000 then
    let k := s.porch.streams.get ⟨((off - 0x4000) / 0x100) % 16, by omega⟩
    if k.st ≠ .free ∧ k.owner = w ∧ off / 0x100 = (off + n - 1) / 0x100 then 0 else 0x0102
  else if off < 65536 then (if s.porch.parlour.st ≠ .free ∧ s.porch.parlour.owner = w then 0 else 0x0102)
  else if off / 65536 < 4 then 0x0102
  else if holdsPages s w off n then 0 else 0x0102

/-- PORCH_PAR_RESULT (R537). -/
def parResult (p : Parlour) : Nat := b2n p.rdy * 2 ^ 31 + p.score.toNat * 65536 + p.cls.toNat

/-- The status block of a stream (R532). -/
def statusBlock (k : PStream) : List Byte :=
  let st : Byte := match k.st with | .free => 0 | .claimed => 1 | .held => 2 | .running => 3 | .paused => 4 | .stopped => 5
  let owner : Byte := if k.st = .free then 0xFF else wingByte k.owner
  [st, owner] ++ leBytes 2 k.lastCond.toNat ++ leBytes 4 k.frames.toNat ++ leBytes 6 k.framePhase.toNat ++ [0, 0]
    ++ leBytes 8 k.samples.toNat ++ List.replicate 8 0 ++ leBytes 2 k.resHead.toNat ++ [0, 0]
    ++ leBytes 2 (k.resTail.toNat % 32768 + b2n k.resPhase * 32768) ++ [0, 0]
    ++ leBytes 4 (k.gen.toNat * 2 ^ 24 + b2n k.ready * 2 ^ 23 + k.cls.toNat) ++ leBytes 4 k.score.toNat
    ++ List.replicate 16 0 ++ (k.record ++ List.replicate 64 0).take 64 ++ List.replicate 128 0

/-- The 136 bytes of a mailbox that are mapped, gaps as zeros (R510). -/
def mailboxBytes (m : PMailbox) : List Byte :=
  (m.request ++ List.replicate 64 0).take 64 ++ List.replicate 64 0
    ++ leBytes 4 (m.gen.toNat * 2 ^ 24 + b2n m.ready * 2 ^ 23 + b2n m.busy * 2 ^ 22 + m.cond.toNat) ++ leBytes 4 m.value.toNat

/-- Bytes of Porch SRAM as an access reads them. -/
def porchRead (s : State) (off n : Nat) : List Byte :=
  if off < 0x4000 then bytesAt (mailboxBytes (s.porch.mailboxes.get ⟨(off / 0x400) % 16, by omega⟩)) (off % 0x400) n
  else if off < 0x5000 then bytesAt (statusBlock (s.porch.streams.get ⟨((off - 0x4000) / 0x100) % 16, by omega⟩)) (off % 0x100) n
  else if off < 65536 then bytesAt (leBytes 4 (parResult s.porch.parlour)) (off - 0x7FF0) n
  else zread s.porch.sram off n

/-- The effect of a read of Porch SRAM: the alias clears RDY (R529, R537). -/
def porchReadEffect (s : State) (off : Nat) : State :=
  if 0x7FF0 ≤ off ∧ off < 0x7FF4 then s.onPorch fun p => { p with parlour := { p.parlour with rdy := false } } else s

/-- A GO write of a mailbox: BUSY, READY 0; without effect while BUSY (R510). -/
def mailboxGo (s : State) (w : WingId) : State :=
  if (s.porch.mailboxes.get w).busy then s
  else s.onPorch fun p =>
    { p with mailboxes := vmod p.mailboxes w fun m => { m with busy := true, ready := false },
             arrivals := p.arrivals ++ [w] }

/-- RES_HEAD of a stream is written: the slots before it are released, of those that hold a record (R522, R532). -/
def writeResHead (x : PStream) (v : W16) : PStream :=
  let n := 2 ^ (fieldAt x.record 48 1)
  { x with resHead := v, unreleased := x.unreleased - (v.toNat % n + n - x.resHead.toNat % n) % n }

/-- A write of Porch SRAM: request bytes and GO of a mailbox, RES_HEAD of a status block, or memory. -/
def porchWrite (s : State) (off : Nat) (bs : List Byte) : State :=
  if off < 0x4000 then
    let w : WingId := ⟨(off / 0x400) % 16, by omega⟩
    let o := off % 0x400
    let s1 := s.onPorch fun p => { p with mailboxes := vmod p.mailboxes w fun m =>
      { m with request := (putAt ((m.request ++ List.replicate 64 0).take 64) o bs).take 64 } }
    let s1 := if o < 64 then s1 else s
    if o ≤ 0x40 ∧ 0x40 < o + bs.length ∧ (bs.getD (0x40 - o) 0).getLsbD 0 then mailboxGo s1 w else s1
  else if off < 0x5000 then
    let k : Fin 16 := ⟨((off - 0x4000) / 0x100) % 16, by omega⟩
    let o := off % 0x100
    if o ≤ 0x20 ∧ 0x20 < o + bs.length then
      s.onPStream k fun k =>
        writeResHead k (BitVec.ofNat 16 (leNat (bytesAt (putAt (List.replicate 0x20 0 ++ leBytes 2 k.resHead.toNat) o bs) 0x20 2)))
    else s
  else if off < 65536 then s
  else s.onPorch fun p => { p with sram := zwrite p.sram off bs }

/-! ### Program memories (R35) -/

/-- Bytes of a Room's program memories. -/
def programRead (x : Room) (off n : Nat) : List Byte :=
  if off < 0x8000 then zread x.newel.imem off n
  else if off < 0x10000 then zread x.newel.dmem (off - 0x8000) n
  else if off < 0x18000 then zread x.astream.strm.mem (off - 0x10000) n
  else zread x.xstream.mem (off - 0x18000) n

/-- Bytes stored in a Room's program memories. -/
def programWrite (x : Room) (off : Nat) (bs : List Byte) : Room :=
  if off < 0x8000 then { x with newel := { x.newel with imem := zwrite x.newel.imem off bs } }
  else if off < 0x10000 then { x with newel := { x.newel with dmem := zwrite x.newel.dmem (off - 0x8000) bs } }
  else if off < 0x18000 then
    { x with astream := { x.astream with strm := { x.astream.strm with mem := zwrite x.astream.strm.mem (off - 0x10000) bs } } }
  else { x with xstream := { x.xstream with mem := zwrite x.xstream.mem (off - 0x18000) bs } }

/-! ### Reach (R24, R25) -/

/-- The wing whose key a Larder line is stored under: that of its window, else wing 0 (R265). -/
def lineWing (s : State) (a : Nat) : WingId :=
  ((List.finRange 16).find? fun w => (s.wing w).st.exists_ &&
    (s.wing w).windowList.any fun p => decide (p.1 ≤ a ∧ a < p.1 + p.2)).getD 0

/-- The condition that refuses a wing's access to a region that is on this device; 0 when it is performed. `foyerNewel`
marks the Foyer's Newel, which reaches more (R24, R25); `store` a write (R35). -/
def localRefuse (s : State) (w : WingId) (foyerNewel store : Bool) (t : DevTarget) (n : Nat) : Cond :=
  match t with
  | .larder a =>
    if !foyerNewel && !(larderReach s w a && larderReach s w (a + n - 1)) then 0x0102
    else if !larderOpen s (lineWing s a) then 0x0203 else 0
  | .pantry r _ => if foyerNewel || decide (roomOwner s r = w) then 0 else 0x0102
  | .program r _ =>
    if !foyerNewel && !decide (roomOwner s r = w) then 0x0102
    else if store && (s.room r).st == .running then 0x0A07 else 0
  | .porch off => porchRefuse s w off n
  | .foyer _ => if w = 0 then 0 else 0x0102
  | .regs _ => if foyerNewel then 0 else 0x0701
  | .remote _ _ => 0

/-- A target that is memory and not Larder: it is read or written at once and uncached. -/
def plainRead (s : State) (t : DevTarget) (n : Nat) : List Byte × State :=
  match t with
  | .pantry r o => (zread (s.room r).pantry o n, s)
  | .program r o => (programRead (s.room r) o n, s)
  | .porch o => (porchRead s o n, porchReadEffect s o)
  | .foyer o => (zread s.sys.foyerPriv o n, s)
  | _ => (List.replicate n 0, s)

/-- The bytes stored into such a target. -/
def plainWrite (s : State) (t : DevTarget) (bs : List Byte) : State :=
  match t with
  | .pantry r o => s.onRoom r fun x => pantryWrite x o bs
  | .program r o => s.onRoom r fun x => programWrite x o bs
  | .porch o => porchWrite s o bs
  | .foyer o => s.onSys fun y => { y with foyerPriv := zwrite y.foyerPriv o bs }
  | _ => s

end Sys2Proof.Machine
end

