-- ==== Sys2Proof/Machine/NewelCore.lean ====
section
/-!
DEFINITION. Machine/NewelCore.lean: the Newels' registers and windows (R335, R336, R360), fetch (R352), traps (R347-R350)
and the operations of atomics and loads (R284, R341).
-/
namespace Sys2Proof.Machine
open Sys2Proof

/-! ### Cores -/

/-- The Room of a core: cores 0-31 are the Rooms' Newels. -/
def coreRoom (c : CoreId) : Option RoomId := idx 32 c.1

/-- The Newel of a core. -/
def coreNewel (s : State) (c : CoreId) : Newel :=
  match coreRoom c with
  | some r => (s.room r).newel
  | none => if c.1 = 32 then s.porchNewel else s.foyerNewel

/-- The Newel of a core changed. -/
def onCore (s : State) (c : CoreId) (f : Newel → Newel) : State :=
  match coreRoom c with
  | some r => s.onRoom r fun x => { x with newel := f x.newel }
  | none => if c.1 = 32 then { s with porchNewel := f s.porchNewel } else { s with foyerNewel := f s.foyerNewel }

/-- The wing that a core acts for: the Room's wing, or wing 0. -/
def coreWing (s : State) (c : CoreId) : WingId :=
  match coreRoom c with
  | some r => roomOwner s r
  | none => 0

/-- The agents of a Room may act: RUNNING, and its Storey's clock runs (R303, R549). -/
def roomGoes (s : State) (r : RoomId) : Bool :=
  (s.room r).st == .running && !(s.room r).held && !(s.room r).zeroing && domainUp s (storeyDomain r)

/-- A core may issue instructions. -/
def coreGoes (s : State) (c : CoreId) : Bool :=
  match coreRoom c with
  | some r => roomGoes s r
  | none => domainUp s (if c.1 = 32 then 4 else 1)

/-! ### Registers (R335) -/

/-- What a register number names. -/
inductive RegName where
  /-- z0: reads zero, ignores writes -/
  | zero
  | global (i : Fin 8)
  | out (win : Fin 16) (i : Fin 6)
  | loc (win : Fin 16) (i : Fin 10)
  | shadow (i : Fin 8)
  /-- 30 and 31 -/
  | reserved
  deriving DecidableEq, Repr

/-- The shadow bank stands in place of v0-v7 in the trapped window (R335). -/
def shadowOn (n : Newel) : Bool := n.tm && n.frm == n.tpsr.setWidth 4

/-- The register that a number names in the current window. -/
def regName (n : Newel) (k : BitVec 5) : RegName :=
  if k.toNat = 0 then .zero
  else if h : k.toNat < 8 then .global ⟨k.toNat, h⟩
  else if h : k.toNat < 14 then .out n.frm.toFin ⟨k.toNat - 8, by omega⟩
  else if h : k.toNat < 22 then
    if shadowOn n then .shadow ⟨k.toNat - 14, by omega⟩ else .loc n.frm.toFin ⟨k.toNat - 14, by omega⟩
  else if h : k.toNat < 24 then .loc n.frm.toFin ⟨k.toNat - 14, by omega⟩
  else if h : k.toNat < 30 then .out (n.frm - 1).toFin ⟨k.toNat - 24, by omega⟩
  else .reserved

/-- A named register's value. -/
def nameGet (n : Newel) : RegName → W32
  | .zero => 0
  | .global i => n.globals.get i
  | .out w i => (n.outs.get w).get i
  | .loc w i => (n.locals.get w).get i
  | .shadow i => n.shadow.get i
  | .reserved => 0

/-- A named register written. -/
def nameSet (n : Newel) (r : RegName) (v : W32) : Newel :=
  match r with
  | .zero => n
  | .global i => { n with globals := vset n.globals i v }
  | .out w i => { n with outs := vmod n.outs w fun o => vset o i v }
  | .loc w i => { n with locals := vmod n.locals w fun o => vset o i v }
  | .shadow i => { n with shadow := vset n.shadow i v }
  | .reserved => n

def regGet (n : Newel) (k : BitVec 5) : W32 := nameGet n (regName n k)
def regSet (n : Newel) (k : BitVec 5) (v : W32) : Newel := nameSet n (regName n k) v

/-- NWL_PSR (R360). -/
def psrWord (n : Newel) : W32 :=
  BitVec.ofNat 32 (b2n n.tm * 32768 + b2n n.ie * 16384 + n.res.toNat * 16 + n.frm.toNat)

/-! ### Fetch (R352) -/

/-- The instruction word at an address of a core's instruction space; `none` outside it (R347, R505, R588). -/
def instrWord (s : State) (c : CoreId) (pc : W32) : Option W32 :=
  let a := pc.toNat
  let n := coreNewel s c
  let inSpace := if c.1 < 32 then a < 0x8000 else if c.1 = 32 then a < 0x10000 else a < 0x40000
  if inSpace then some (BitVec.ofNat 32 (zword n.imem a 4))
  else if c.1 = 33 ∧ 0x80000 ≤ a ∧ a < 0x90000 then
    some (BitVec.ofNat 32 (leNat ((List.range 4).map fun i => Config.bootRom (a - 0x80000 + i))))
  else none

/-- The fetch buffer with the current word and the two after it; words that it holds already stay as they were
fetched. -/
def filledBuf (s : State) (c : CoreId) : List W32 :=
  let n := coreNewel s c
  n.fetchBuf ++ ((((List.range 3).drop n.fetchBuf.length).map fun i => instrWord s c (n.pc + BitVec.ofNat 32 (4 * i))).takeWhile
    Option.isSome).filterMap id

/-- An address that a jump may name: aligned and inside the core's instruction space (R347). -/
def jumpOk (s : State) (c : CoreId) (a : W32) : Bool := decide (a.toNat % 4 = 0) && (instrWord s c a).isSome

/-- The instruction retires and execution goes on with the next. -/
def retire (n : Newel) : Newel :=
  { n with pc := n.pc + 4, retired := n.retired + 1, wait := .ready, fetchBuf := n.fetchBuf.drop 1, skipBreak := false }

/-- The instruction retires and execution goes on at a target: the fetch buffer refills. -/
def retireTo (n : Newel) (a : W32) : Newel :=
  { n with pc := a, retired := n.retired + 1, wait := .ready, fetchBuf := [], skipBreak := false }

/-! ### Traps (R347-R350) -/

/-- The condition of an unhandled trap (R347). -/
def unhandled (cause : Byte) (tcond : Cond) : Cond :=
  match cause.toNat with
  | 1 => 0x0901 | 2 => 0x0907 | 3 => 0x0903 | 4 => tcond | 5 => 0x0703 | 6 => 0x0906 | 7 => 0x0908 | 8 => 0x0908
  | 9 => 0x0909 | _ => 0x090A

/-- A Newel stops for good in this run: a Room halts with the condition, the Porch's or Foyer's Newel stops. -/
def coreHalt (s : State) (c : CoreId) (cond : Cond) : State :=
  match coreRoom c with
  | some r => haltRoom s r cond ⟨1, (s.room r).newel.tpc, (s.room r).newel.retired⟩
  | none => onCore s c fun n => { n with wait := .ended }

/-- A double fault: 0x0905 is logged with the PC, and the Room is quarantined (R349). -/
def doubleFault (s : State) (c : CoreId) : State :=
  match coreRoom c with
  | some r =>
    let n := (s.room r).newel
    let s1 := s.onRoom r fun x => { x with faultStream := 1, faultAddr := n.tpc, faultCount := n.retired }
    quarantine (logCond s1 0x0905 (wingByte (roomOwner s r)) (BitVec.ofNat 8 r.1) n.pc) r (BitVec.ofNat 32 (4 * 65536))
  | none => onCore s c fun n => { n with wait := .ended }

/-- The registers of the last trap (R348, R350). -/
def setCause (n : Newel) (cause : Byte) (tval : W32) (tcond : Cond) (tpc : W32) : Newel :=
  { n with tpc := tpc, cause := cause, tval := tval, tcond := tcond }

/-- Trap entry (R348). -/
def trapEntry (n : Newel) (cause : Byte) (tval : W32) (tcond : Cond) (tpc : W32) : Newel :=
  { setCause n cause tval tcond tpc with
    tpsr := psrWord n, tm := true, ie := false, pc := n.tbr + BitVec.ofNat 32 (cause.toNat * 16), fetchBuf := [],
    wait := .ready, skipBreak := false }

/-- A synchronous trap is taken: entry when its cause is handled, else the Room halts; inside a handler a double window
fault or a double fault (R347-R349). -/
def takeTrap (s : State) (c : CoreId) (cause : Byte) (tval : W32) (tcond : Cond) (tpc : W32) : State :=
  let n := coreNewel s c
  if n.tm then
    let s1 := onCore s c fun n => setCause n cause tval tcond tpc
    if cause = 7 ∨ cause = 8 then coreHalt s1 c 0x0904 else doubleFault s1 c
  else if n.trapen.getLsbD cause.toNat then onCore s c fun n => trapEntry n cause tval tcond tpc
  else coreHalt (onCore s c fun n => setCause n cause tval tcond tpc) c (unhandled cause tcond)

/-- A trap of the instruction at the current pc. -/
def trapHere (s : State) (c : CoreId) (cause : Byte) (tval : W32) (tcond : Cond) : State :=
  takeTrap s c cause tval tcond (coreNewel s c).pc

/-! ### Loads and atomics -/

/-- Bytes that a load form reads. -/
def formBytes : LoadForm → Nat
  | .word => 4 | .half => 2 | .halfU => 2 | .byte => 1 | .byteU => 1

/-- The register value of a load (R341). -/
def formValue (f : LoadForm) (bs : List Byte) : W32 :=
  match f with
  | .word => BitVec.ofNat 32 (leNat bs)
  | .half => (BitVec.ofNat 16 (leNat bs)).signExtend 32
  | .halfU => (BitVec.ofNat 16 (leNat bs)).setWidth 32
  | .byte => (BitVec.ofNat 8 (leNat bs)).signExtend 32
  | .byteU => (BitVec.ofNat 8 (leNat bs)).setWidth 32

/-- The new word of an atomic; `none` writes nothing (R284, R359). -/
def atomNew (op : AtomOp) (old rs2 cmp : W32) : W32 :=
  match op with
  | .add => old + rs2
  | .swap => rs2
  | .cas => if old = cmp then rs2 else old
  | .minS => if old.toInt ≤ rs2.toInt then old else rs2
  | .maxS => if old.toInt ≤ rs2.toInt then rs2 else old
  | .minU => if old.toNat ≤ rs2.toNat then old else rs2
  | .maxU => if old.toNat ≤ rs2.toNat then rs2 else old

/-- Counter of the contention predictor for an address: A[13:6] XOR A[21:14] (R285). -/
def predIndex (a : Nat) : Fin 256 := ⟨((a / 64) % 256) ^^^ ((a / 16384) % 256), by
  have h1 : (a / 64) % 256 < 2 ^ 8 := Nat.mod_lt _ (by decide)
  have h2 : (a / 16384) % 256 < 2 ^ 8 := Nat.mod_lt _ (by decide)
  exact Nat.xor_lt_two_pow h1 h2⟩

/-- The counter moves up or down and saturates at 0 and 3 (R285). -/
def predMove (n : Newel) (a : Nat) (up : Bool) : Newel :=
  { n with predictor := vmod n.predictor (predIndex a) fun k =>
      if up then (if k = 3 then 3 else k + 1) else (if k = 0 then 0 else k - 1) }

/-- Bytes at an address with the bytes of buffered stores laid over them, oldest store first (R287). -/
def overStores (st : List StoreEntry) (a : Nat) (bs : List Byte) : List Byte :=
  st.foldl (fun bs e => (List.range bs.length).map fun i =>
    if e.addr.toNat ≤ a + i ∧ a + i < e.addr.toNat + e.bytes.length then e.bytes.getD (a + i - e.addr.toNat) 0
    else bs.getD i 0) bs

/-- The load of a waiting Newel ends with the bytes of its address (R287, R341). -/
def endLoad (s : State) (c : CoreId) (bs : List Byte) : State :=
  match (coreNewel s c).wait with
  | .load rd form a _ =>
    onCore s c fun n => retire (regSet n rd (formValue form (overStores n.stores a.toNat (bs.take (formBytes form)))))
  | _ => s

/-- A load or atomic of poisoned data, or one that is refused after it was issued: the waiting instruction traps
(R267, R340). -/
def endLoadTrap (s : State) (c : CoreId) (tcond : Cond) : State :=
  let vaddr : W32 := match (coreNewel s c).wait with
    | .load _ _ _ va => va
    | .nearAtom _ _ _ _ _ va => va
    | .farAtom _ _ va => va
    | _ => 0
  trapHere (onCore s c fun n => { n with wait := .ready }) c (if tcond = 0x0703 then 5 else 4) vaddr tcond

end Sys2Proof.Machine
end

