-- ==== Sys2Proof/Machine/Coherence.lean ====
section
/-!
DEFINITION. Machine/Coherence.lean: request slots of the Larder (R269, R270), the home agents' directory protocol
(R276-R280, R282-R284), the caches' side of it (R275, R277, R278), Larder reads with their errors (R267), the patrol and
the zeroing of windows (R268, R43), and the region table (R293).
-/
namespace Sys2Proof.Machine
open Sys2Proof

/-! ### Messages (R272, R273, R294) -/

/-- Message classes: 0 RSP, 1 DAT, 2 WB, 3 FWD. -/
def msgClass : MsgKind → Nat
  | .fwdGetS | .fwdGetX | .inv | .binv => 3
  | .ack | .wbPending | .cmp | .wbAck | .ncAck | .atomDone => 0
  | .dat | .datS | .datE | .datM | .datNc => 1
  | .wb => 2

/-- The message goes from a home to its peer. -/
def msgDown : MsgKind → Bool
  | .ack | .wbPending | .dat | .wb => false
  | _ => true

/-- Two messages travel on one channel from one stop to another, in the order sent (R272). -/
def sameChannel (a b : HMsg) : Bool :=
  msgClass a.kind == msgClass b.kind && msgDown a.kind == msgDown b.kind && homeOf a.line == homeOf b.line
    && decide (a.peer = b.peer)

/-- The oldest message of a kind for a line and peer is taken, unless an older message of its channel is still on its
way. -/
def takeMsg (s : State) (k : MsgKind) (p : Agent) (line : Nat) : Option (HMsg × State) :=
  match s.larder.net.find? fun m => decide (m.kind = k ∧ m.peer = p ∧ m.line = line) with
  | some m =>
    match s.larder.net.find? fun x => sameChannel x m with
    | some x => if x = m then some (m, s.onLarder fun l => { l with net := l.net.erase m }) else none
    | none => none
  | none => none

/-- A message without data. -/
def bareMsg (k : MsgKind) (line : Nat) (p : Agent) : HMsg :=
  { kind := k, line := line, peer := p, data := [], poison := false, dirty := false, old := 0, contended := false }

def sendMsg (s : State) (m : HMsg) : State := s.onLarder fun l => { l with net := l.net ++ [m] }

/-- The line at its home, sent as a DAT message of a kind; `sn` tells whether a FWD or INV was sent for it (R285). -/
def sendLine (s : State) (k : MsgKind) (line : Nat) (p : Agent) (sn : Bool) : State :=
  let d := homeGet s line
  (sendMsg s { bareMsg k line p with data := d.1, poison := d.2, contended := sn }).onLarder fun l => { l with junk := l.junk + 1 }

/-! ### The home agent (R276-R285) -/

/-- The cache of a coherent request. -/
def agentCache : Agent → Option CoreId
  | .cache c => some c
  | _ => none

/-- The bit of a request's own cache. -/
def selfBit (a : Agent) : BitVec 34 :=
  match a with
  | .cache c => 1 <<< c.1
  | _ => 0

/-- A tracker of a line changed; the tracker is named by its request. -/
def onTracker (s : State) (h : Fin 4) (q : HomeReq) (f : Tracker → Tracker) : State :=
  s.onHome h fun x => { x with trackers := x.trackers.map fun t => if t.req = q ∧ t.phase ≠ .accepted then f t else t }

/-- The request's last answer has left: its tracker is free (R270). -/
def dropTracker (s : State) (h : Fin 4) (q : HomeReq) : State :=
  s.onHome h fun x => { x with trackers := x.trackers.filter fun t => !(decide (t.req = q) && t.phase != .accepted) }

/-- The line displaced from a full far-atomic buffer is written to the Larder (R284). -/
def farSpill (s : State) (h : Fin 4) : State :=
  let f := (s.larder.homes.get h).far
  match f.drop 16 with
  | [] => s
  | o :: _ =>
    (s.onLarder fun l => larderStore l o.line o.data o.poison).onHome h fun x => { x with far := x.far.take 16 }

/-- Two requests come from one requester: of a remote device, whatever their tags. -/
def sameRequester (a b : Agent) : Bool :=
  match a, b with
  | .remote d _ w, .remote e _ v => d == e && w == v
  | _, _ => decide (a = b)

/-- A far atomic on the line, with the answer's old value, poison and CONTENDED (R284, R285). -/
def farAtomic (s : State) (h : Fin 4) (q : HomeReq) (op : AtomOp) (rs2 cmp : W32) (word : Fin 16) (snooped : Bool) :
    W32 × Bool × Bool × State :=
  let inBuf := farFind (s.larder.homes.get h) q.line
  let d := homeGet s q.line
  let old : W32 := BitVec.ofNat 32 (fieldAt d.1 (4 * word.1) 4)
  let data := putAt d.1 (4 * word.1) (leBytes 4 (atomNew op old rs2 cmp).toNat)
  let other : Bool := match inBuf with | some f => !sameRequester f.lastBy q.src | none => false
  let s1 := s.onHome h fun x =>
    { x with far := { line := q.line, data := data, poison := d.2, lastBy := q.src } ::
        x.far.filter fun f => f.line != q.line }
  let s2 := (farSpill s1 h).onLarder fun l => { l with farAtomics := satAdd l.farAtomics 1, junk := l.junk + 1 }
  (old, d.2, snooped || other, s2)

/-- Who holds the line once a coherent cache has been answered with S or X. -/
def dirGive (s : State) (h : Fin 4) (line : Nat) (st : DirSt) : State := s.onHome h fun x => dirPut x ⟨line, st⟩

/-- The home answers a request whose snoops and read are done (R276, R282, R284). -/
def homeComplete (s : State) (h : Fin 4) (t : Tracker) : State :=
  let q := t.req
  let s := dropTracker s h q
  match q.kind with
  | .getS =>
    match agentCache q.src, dirFind (s.larder.homes.get h) q.line with
    | some c, some ⟨_, .shared v⟩ => sendLine (dirGive s h q.line (.shared (v ||| 1 <<< c.1))) .datS q.line q.src t.snooped
    | some c, _ => sendLine (dirGive s h q.line (.owned c)) .datE q.line q.src t.snooped
    | none, _ => s
  | .getX =>
    match agentCache q.src with
    | some c => sendLine (dirGive s h q.line (.owned c)) .datM q.line q.src t.snooped
    | none => s
  | .upg =>
    match agentCache q.src, dirFind (s.larder.homes.get h) q.line with
    | some c, some ⟨_, .shared v⟩ =>
      if v.getLsbD c.1 then sendMsg (dirGive s h q.line (.owned c)) { bareMsg .cmp q.line q.src with contended := t.snooped }
      else sendLine (dirGive s h q.line (.owned c)) .datM q.line q.src t.snooped
    | some c, _ => sendLine (dirGive s h q.line (.owned c)) .datM q.line q.src t.snooped
    | none, _ => s
  | .ncRd => sendLine s .datNc q.line q.src t.snooped
  | .ncWr data be =>
    let s1 := match q.src with
      | .remote _ _ _ => s
      | _ => s.onHome h fun x => dirDrop x q.line
    sendMsg (homeMerge s1 q.line data be) (bareMsg .ncAck q.line q.src)
  | .atom op rs2 cmp word =>
    let s1 := match q.src with
      | .remote _ _ _ => s
      | _ => s.onHome h fun x => dirDrop x q.line
    let r := farAtomic s1 h q op rs2 cmp word t.snooped
    sendMsg r.2.2.2 { bareMsg .atomDone q.line q.src with old := r.1, poison := r.2.1, contended := r.2.2.1 }

/-- The answer needs no read of the Larder array: an upgrade of a sharer, a whole-line write, a line that a snoop brought
or that the far-atomic buffer holds. -/
def noRead (s : State) (h : Fin 4) (t : Tracker) : Bool :=
  t.gotData || (farFind (s.larder.homes.get h) t.req.line).isSome ||
    match t.req.kind with
    | .upg =>
      (match agentCache t.req.src, dirFind (s.larder.homes.get h) t.req.line with
       | some c, some ⟨_, .shared v⟩ => v.getLsbD c.1
       | _, _ => false)
    | .ncWr _ be => be == BitVec.allOnes 64
    | _ => false

/-- Snoops are done: the home answers, or reads the Larder first. -/
def homeProceed (s : State) (h : Fin 4) (t : Tracker) : State :=
  if noRead s h t then homeComplete s h t else onTracker s h t.req fun t => { t with phase := .reading }

/-- Snoops of a kind go to the caches of a vector. -/
def sendSnoops (s : State) (k : MsgKind) (line : Nat) (v : BitVec 34) : State :=
  (onesOf v).foldl (fun s c => sendMsg s (bareMsg k line (.cache c))) s

/-- Whether a request needs a directory entry: it comes from a cache that will hold the line. -/
def needsEntry : HomeKind → Bool
  | .getS | .getX | .upg => true
  | _ => false

/-- The request waits for the answers of these caches. -/
def awaitSnoops (s : State) (h : Fin 4) (q : HomeReq) (v : BitVec 34) : State :=
  onTracker s h q fun t =>
    { t with phase := .snooping v, snooped := decide ((v &&& ~~~(selfBit q.src)) ≠ 0) }

/-- The snoop of a request, by kind and directory entry: its message and the caches it goes to (R276, R282-R284). -/
def snoopFor (q : HomeReq) (e : Option DirEntry) : MsgKind × BitVec 34 :=
  match q.src, q.kind, e with
  | .remote _ _ _, _, _ => (.inv, 0)
  | _, _, none => (.inv, 0)
  | _, .getS, some ⟨_, .owned o⟩ => (.fwdGetS, (1 <<< o.1) &&& ~~~(selfBit q.src))
  | _, .ncRd, some ⟨_, .owned o⟩ => (.fwdGetS, 1 <<< o.1)
  | _, .getS, some ⟨_, .shared _⟩ => (.inv, 0)
  | _, .ncRd, some ⟨_, .shared _⟩ => (.inv, 0)
  | _, .getX, some ⟨_, .shared v⟩ => (.inv, v &&& ~~~(selfBit q.src))
  | _, .upg, some ⟨_, .shared v⟩ => (.inv, v &&& ~~~(selfBit q.src))
  | _, .getX, some ⟨_, .owned o⟩ => (.fwdGetX, (1 <<< o.1) &&& ~~~(selfBit q.src))
  | _, .upg, some ⟨_, .owned o⟩ => (.fwdGetX, (1 <<< o.1) &&& ~~~(selfBit q.src))
  | _, .atom .., some ⟨_, .shared v⟩ => (.inv, v)
  | _, .ncWr .., some ⟨_, .shared v⟩ => (.inv, v)
  | _, .atom .., some ⟨_, .owned o⟩ => (.fwdGetX, 1 <<< o.1)
  | _, .ncWr .., some ⟨_, .owned o⟩ => (.fwdGetX, 1 <<< o.1)

/-- The entry that a full set gives up: the least recently used one that is not busy (R280). -/
def dirVictim (s : State) (h : Fin 4) (line : Nat) : Option DirEntry :=
  ((s.larder.homes.get h).dir.filter fun e => dirSet e.line == dirSet line && !lineBusy s e.line).getLast?

/-- The set of the line has no free way. -/
def dirFull (s : State) (h : Fin 4) (line : Nat) : Bool :=
  decide (8 ≤ ((s.larder.homes.get h).dir.filter fun e => dirSet e.line == dirSet line).length)

/-- A request past its directory eviction starts: snoops, or on to the answer. -/
def homeStart (s : State) (h : Fin 4) (t : Tracker) : State :=
  let sn := snoopFor t.req (dirFind (s.larder.homes.get h) t.req.line)
  if sn.2 = 0 then homeProceed s h t else sendSnoops (awaitSnoops s h t.req sn.2) sn.1 t.req.line sn.2

/-- The tracker of a line whose transaction runs. -/
def runningTracker (s : State) (line : Nat) : Option Tracker :=
  (s.larder.homes.get (homeOf line)).trackers.find? fun t => t.req.line == line && t.phase != .accepted

/-- A home agent handles the oldest accepted request of a line when it is of the kind named and the line is free; a
directory way is made free first (R276, R280). -/
def handleReq (s : State) (line : Nat) (is : HomeKind → Bool) : State :=
  let h := homeOf line
  match (s.larder.homes.get h).trackers.find? fun t => t.req.line == line && t.phase == .accepted with
  | some t =>
    if !is t.req.kind || lineBusy s line then s
    else
      -- the first accepted tracker of the line starts
      let t' : Tracker := { t with phase := .reading }
      let s1 := s.onHome h fun x => { x with trackers := x.trackers.erase t ++ [t'] }
      if needsEntry t.req.kind && (dirFind (s.larder.homes.get h) line).isNone && dirFull s h line then
        match dirVictim s h line with
        | some v =>
          let n := popCount v.st.holders
          let s2 := s1.onLarder fun l =>
            { l with dirEvictions := satAdd l.dirEvictions 1, backInvals := satAdd l.backInvals n }
          if v.st.holders = 0 then homeStart (s2.onHome h fun x => dirDrop x v.line) h t'
          else
            let s3 := onTracker s2 h t.req fun t => { t with phase := .evicting v.line v.st.holders }
            sendSnoops s3 .binv v.line v.st.holders
        | none => s
      else homeStart s1 h t'
  | none => s

/-- The tracker that waits for a cache's answer about a line. -/
def awaiting (s : State) (line : Nat) (c : CoreId) : Option Tracker :=
  (s.larder.homes.get (homeOf line)).trackers.find? fun t =>
    match t.phase with
    | .snooping v => t.req.line == line && v.getLsbD c.1
    | .evicting l v => l == line && v.getLsbD c.1
    | _ => false

/-- One snoop answer is in: with data, `keeps` when its cache stays a sharer. The last one lets the request go on. -/
def snoopAnswer (s : State) (line : Nat) (c : CoreId) (got keeps : Bool) : State :=
  let h := homeOf line
  match awaiting s line c with
  | some t =>
    let bit : BitVec 34 := 1 <<< c.1
    match t.phase with
    | .snooping v =>
      let v' := v &&& ~~~bit
      let t' : Tracker := { t with phase := .snooping v', gotData := t.gotData || got, wbWait := false }
      let s1 := onTracker s h t.req fun _ => t'
      let s2 := match t.req.kind with
        | .getS => dirGive s1 h line (.shared (if keeps then bit else 0))
        | .ncRd => if keeps then dirGive s1 h line (.shared bit) else s1.onHome h fun x => dirDrop x line
        | _ => s1
      if v' = 0 then homeProceed s2 h t' else s2
    | .evicting l v =>
      let v' := v &&& ~~~bit
      let t' : Tracker := { t with phase := .evicting l v', wbWait := false }
      let s1 := onTracker s h t.req fun _ => t'
      if v' = 0 then homeStart (s1.onHome h fun x => dirDrop x l) h { t' with phase := .reading } else s1
    | _ => s
  | none => s

/-- The home uses a WB as the snoop data, or as the writeback that it is, and acknowledges it (R278). -/
def useWb (s : State) (line : Nat) (c : CoreId) (data : List Byte) (poison : Bool) : State :=
  let s1 := sendMsg (homePut s line data poison) (bareMsg .wbAck line (.cache c))
  match awaiting s line c with
  | some _ => snoopAnswer s1 line c true false
  | none => s1.onHome (homeOf line) fun x => dirDrop x line

/-! ### Request slots (R269, R270, R268) -/

/-- Slots per frame of a wing. -/
def larderShare (s : State) : WingId → Nat := withHouse fun w => (s.wing w).larShare.toNat

/-- The next line of a CLEARING wing's windows that a home agent has to zero: its offset in lines and its device line. -/
def nextZero (s : State) (w : WingId) (h : Fin 4) : Option (Nat × Nat) :=
  ((List.range 16).map fun i => (s.wing w).clearAt.get h + i).findSome? fun o =>
    match throughWindows (s.wing w).windowList (o * 64) with
    | some a => if homeOf (a / 64) = h then some (o, a / 64) else none
    | none => none

/-- The zeroing of step 5 of R43 has work for a home agent. -/
def zeroDue (s : State) (w : WingId) (h : Fin 4) : Bool :=
  (s.wing w).st == .clearing && (s.wing w).keysGone && (nextZero s w h).isSome

/-- One line of a CLEARING wing is zeroed past XTS (R43, R265). -/
def zeroOne (s : State) (w : WingId) (h : Fin 4) : State :=
  match nextZero s w h with
  | some (o, line) =>
    let s1 := recallAll s line
    let s2 := s1.onHome h fun x => { x with far := x.far.filter fun f => f.line != line }
    (s2.onLarder fun l => larderZeroLine l line).onWing w fun x =>
      { x with clearLines := x.clearLines - 1, clearAt := vset x.clearAt h (o + 1) }
  | none => s

/-- The oldest request waiting at the pair for this home and charged to a wing. -/
def waitingFor (s : State) (h : Fin 4) (w : WingId) : Option (WingId × HomeReq) :=
  (s.larder.waiting.get (pairOf h)).find? fun e => decide (e.1 = w) && decide (homeOf e.2.line = h)

/-- The request is accepted into a tracker. -/
def acceptReq (s : State) (h : Fin 4) (e : WingId × HomeReq) : State :=
  (s.onLarder fun l => { l with waiting := vmod l.waiting (pairOf h) fun q => q.erase e }).onHome h fun x =>
    { x with trackers := x.trackers ++
        [{ req := e.2, phase := .accepted, snooped := false, gotData := false, wbWait := false }] }

/-- The error handling of a line read: `errs` 1 is corrected and counted; more set POISON once, with 0x0702 (R267). -/
def readErrors (s : State) (line errs : Nat) : State :=
  if errs = 0 then s
  else if errs = 1 then s.onLarder fun l => { l with ceCount := satAdd l.ceCount 1 }
  else if s.larder.poison.contains line then s
  else
    let s1 := s.onLarder fun l =>
      { l with poison := insertUp l.poison line, ueCount := satAdd l.ueCount 1, lastUeAddr := BitVec.ofNat 64 (line * 64) }
    logCond s1 0x0702 (wingByte (lineWing s (line * 64))) 0xFF (BitVec.ofNat 32 line)

/-- Lines of a home agent's share that the patrol covers: the fitted capacity, ECC area included (R268). -/
def fittedLines (s : State) : Nat := if s.larder.fitted64 then 2 ^ 30 else 2 ^ 29

/-- One patrol read of a home agent's next line. -/
def patrolRead (s : State) (h : Fin 4) (errs : Nat) : State :=
  let line := (s.larder.homes.get h).patrol
  let next := ((List.range 16).map fun i => line + 1 + i).find? fun l => decide (homeOf l = h ∧ l < fittedLines s)
  let first := ((List.range 16).find? fun l => decide (homeOf l = h)).getD 0
  (readErrors s line errs).onHome h fun x => { x with patrol := next.getD first }

/-- What a request slot is used for. -/
inductive SlotUse where
  | none
  | request (e : WingId × HomeReq)
  | zero (w : WingId)
  | patrol
  deriving DecidableEq, Repr

/-- An isolated wing in states POPULATE to FROZEN takes and gives no slot (R49). -/
def larIsolated (s : State) (w : WingId) : Bool :=
  decide (w ≠ 0) && (s.wing w).isolated && (s.wing w).st.exists_ && (s.wing w).st != .clearing

/-- The oldest request waiting at the pair for this home whose wing takes other wings' slots (R49, R269). -/
def waitingOther (s : State) (h : Fin 4) : Option (WingId × HomeReq) :=
  (s.larder.waiting.get (pairOf h)).find? fun e => !larIsolated s e.1 && decide (homeOf e.2.line = h)

/-- Where a request enters the Hallway: a stop of Rooms, the Porch, the Foyer, or the Doorways (R19). -/
def stopKey : Agent → Nat
  | .cache c => if c.1 < 32 then c.1 / 4 else c.1
  | .astream r _ => r.1 / 4
  | .remote _ _ _ => 34

/-- Stops whose injection toward the pair of a home is held, with a request for this home: all 512 trackers are taken
(R29, R270). -/
def heldStops (s : State) (h : Fin 4) : Nat :=
  let held : Nat := ((List.finRange 4).map fun g =>
    if pairOf g = pairOf h then (s.larder.homes.get g).trackers.length else 0).foldl (· + ·) 0
  if held < 512 then 0
  else (List.range 35).countP fun k =>
    (s.larder.waiting.get (pairOf h)).any fun e => decide (homeOf e.2.line = h ∧ stopKey e.2.src = k)

/-- The candidate that uses the owner's slot (R269). -/
def slotUse (s : State) (h : Fin 4) (owner : WingId) (patrolDue : Bool) : SlotUse :=
  match waitingFor s h owner with
  | some e => .request e
  | none =>
    if zeroDue s owner h then .zero owner
    else if owner = 0 ∧ patrolDue = true ∧ s.larder.patrolOn = true then .patrol
    else if owner ≠ 0 ∧ (s.wing owner).isolated = true ∧ (s.wing owner).st.exists_ = true then .none
    else
      match waitingOther s h with
      | some e => .request e
      | none =>
        match (List.finRange 16).find? fun w => zeroDue s w h with
        | some w => .zero w
        | none => .none

/-- Posted writes of the device's own whose lines are free are made, oldest first. -/
def drainPosted (s : State) (h : Fin 4) : State :=
  match s.larder.posted with
  | (a, bs) :: rest =>
    if homeOf (a / 64) = h ∧ rangeFree s a bs.length then ncWrite (s.onLarder fun l => { l with posted := rest }) a bs
    else s
  | [] => s

/-- LARDER_REQUEST_SLOT: home agent `h` has a request slot; `patrolDue` says that the patrol has work, `errs` the errors
of a patrol read (R268-R270). A slot whose home has no free tracker accepts no request. -/
def execLarderRequestSlot (h : Fin 4) (patrolDue : Bool) (errs : Nat) (s : State) : Res :=
  if !domainUp s 5 then .next s
  else
    let r := rotate (s.larder.homes.get h).rot (larderShare s)
    let s := (drainPosted s h).onHome h fun x => { x with rot := r.2, slot := x.slot + 1 }
    let full : Bool := decide (256 ≤ (s.larder.homes.get h).trackers.length)
    match slotUse s h r.1 patrolDue with
    | .none => .next s
    | .patrol => .next (patrolRead s h errs)
    | .zero w => .next (zeroOne s w h)
    | .request e =>
      if full then
        .next (s.onSys fun y => { y with stallPair := vmod y.stallPair (pairOf h) fun k => satAdd k (heldStops s h) })
      else .next (acceptReq s h e)

/-! ### Rows of the home agent -/

/-- GETS at the home of a line (R276). -/
def execGets (line : Nat) (s : State) : Res := .next (handleReq s line fun k => k == .getS)
/-- GETX at the home of a line (R276). -/
def execGetx (line : Nat) (s : State) : Res := .next (handleReq s line fun k => k == .getX)
/-- UPG at the home of a line (R276). -/
def execUpg (line : Nat) (s : State) : Res := .next (handleReq s line fun k => k == .upg)
/-- ATOM: a far atomic at the home of a line (R284). -/
def execAtom (line : Nat) (s : State) : Res :=
  .next (handleReq s line fun k => match k with | .atom .. => true | _ => false)
/-- NC_RD at the home of a line (R282, R283). -/
def execNcRd (line : Nat) (s : State) : Res := .next (handleReq s line fun k => k == .ncRd)
/-- NC_WR at the home of a line (R282, R283). -/
def execNcWr (line : Nat) (s : State) : Res :=
  .next (handleReq s line fun k => match k with | .ncWr .. => true | _ => false)

/-- ACK: a snooped cache did not hold the line, or holds it no more (R276, R277). -/
def execAck (c : CoreId) (line : Nat) (s : State) : Res :=
  match takeMsg s .ack (.cache c) line with
  | some (_, s1) => .next (snoopAnswer s1 line c false false)
  | none => .next s

/-- WB_PENDING: the WB stands in for the snoop data, at once when it has arrived (R278). -/
def execWbPending (c : CoreId) (line : Nat) (s : State) : Res :=
  match takeMsg s .wbPending (.cache c) line with
  | some (_, s1) =>
    match (s1.larder.homes.get (homeOf line)).wbData.find? fun d => decide (d.1 = c ∧ d.2.1 = line) with
    | some d =>
      .next (useWb (s1.onHome (homeOf line) fun x => { x with wbData := x.wbData.erase d }) line c d.2.2.1 d.2.2.2)
    | none =>
      match awaiting s1 line c with
      | some t => .next (onTracker s1 (homeOf line) t.req fun t => { t with wbWait := true })
      | none => .next s1
  | none => .next s

/-- DAT: snoop data of an owner; dirty data is written back at the home. A cache that answered FWD_GETS keeps S (R276). -/
def execDat (c : CoreId) (line : Nat) (s : State) : Res :=
  match takeMsg s .dat (.cache c) line with
  | some (m, s1) =>
    let s2 := if m.dirty then homePut s1 line m.data m.poison else s1
    .next (snoopAnswer s2 line c true true)
  | none => .next s

/-- WB: an evicted M line reaches its home (R278). -/
def execWb (c : CoreId) (line : Nat) (s : State) : Res :=
  match takeMsg s .wb (.cache c) line with
  | some (m, s1) =>
    match awaiting s1 line c with
    | some t =>
      if t.wbWait then .next (useWb s1 line c m.data m.poison)
      else .next (s1.onHome (homeOf line) fun x => { x with wbData := x.wbData ++ [(c, line, m.data, m.poison)] })
    | none => .next (useWb s1 line c m.data m.poison)
  | none => .next s

/-- LARDER_ACCESS_DONE: the Larder read of a line's transaction completes with `errs` errors (R267). -/
def execLarderAccessDone (line errs : Nat) (s : State) : Res :=
  match runningTracker s line with
  | some t => if t.phase = .reading then .next (homeComplete (readErrors s line errs) (homeOf line) t) else .next s
  | none => .next s

/-- FAR_ATOMIC_IDLE: a buffered line is written to the Larder and leaves the buffer (R284). -/
def execFarAtomicIdle (line : Nat) (s : State) : Res :=
  match farFind (s.larder.homes.get (homeOf line)) line with
  | some f =>
    .next ((s.onHome (homeOf line) fun x => { x with far := x.far.filter fun f => f.line != line }).onLarder fun l =>
      larderStore l line f.data f.poison)
  | none => .next s

/-! ### The caches (R275, R277, R278) -/

/-- The answer that makes the cache's request good is already on its way (R277). -/
def answerComing (s : State) (c : CoreId) (line : Nat) : Bool :=
  s.larder.net.any fun m => decide (m.peer = .cache c ∧ m.line = line) &&
    (m.kind == .datS || m.kind == .datE || m.kind == .datM || m.kind == .cmp)

/-- A cache answers a snoop (R276-R278, R280). -/
def answerSnoop (s : State) (c : CoreId) (line : Nat) (k : MsgKind) : State :=
  let ca := s.larder.caches.get c
  let sentWb : Bool := match ca.wb with | some w => w.line == line | none => false
  match cacheFind ca line with
  | some x =>
    if k = .fwdGetS then
      if x.st = .s then sendMsg s (bareMsg .ack line (.cache c))
      else
        sendMsg (s.onCache c fun q =>
            { q with lines := q.lines.map fun y => if y.line == line then { y with st := .s } else y })
          { bareMsg .dat line (.cache c) with data := x.data, poison := x.poison, dirty := decide (x.st = .m) }
    else
      let s1 := s.onCache c fun q => cacheRemove q line
      if x.st = .m ∨ (x.st = .e ∧ k = .fwdGetX) then
        sendMsg s1 { bareMsg .dat line (.cache c) with data := x.data, poison := x.poison, dirty := decide (x.st = .m) }
      else sendMsg s1 (bareMsg .ack line (.cache c))
  | none => sendMsg s (bareMsg (if sentWb then .wbPending else .ack) line (.cache c))

/-- A snoop reaches a cache. FWD_GETS and FWD_GETX for a line whose answer is on its way are held (R277). -/
def snoopCache (s : State) (c : CoreId) (line : Nat) (k : MsgKind) (mayHold : Bool) : State :=
  match takeMsg s k (.cache c) line with
  | some (m, s1) =>
    if mayHold && (cacheFind (s1.larder.caches.get c) line).all (·.st == .s) && answerComing s1 c line then
      s1.onCache c fun q => { q with heldSnoop := some m }
    else answerSnoop s1 c line k
  | none => s

/-- FWD_GETS at a cache. -/
def execFwdGets (c : CoreId) (line : Nat) (s : State) : Res := .next (snoopCache s c line .fwdGetS true)
/-- FWD_GETX at a cache. -/
def execFwdGetx (c : CoreId) (line : Nat) (s : State) : Res := .next (snoopCache s c line .fwdGetX true)
/-- INV at a cache. -/
def execInv (c : CoreId) (line : Nat) (s : State) : Res := .next (snoopCache s c line .inv false)
/-- BINV at a cache. -/
def execBinv (c : CoreId) (line : Nat) (s : State) : Res := .next (snoopCache s c line .binv false)

/-- A request leaves a cache for its home, charged to the wing of the line's window (R269, R275). -/
def postReq (s : State) (q : HomeReq) : State :=
  s.onLarder fun l =>
    { l with waiting := vmod l.waiting (pairOf (homeOf q.line)) fun ws => ws ++ [(lineWing s (q.line * 64), q)] }

/-- A cache sends a request when none is outstanding, no WB of the line awaits WB_ACK, and a way of the set is free: the
least recently used line of a full set leaves first, an M line through the writeback slot (R275, R279). `none` while it
must wait. -/
def cacheRequest (s : State) (c : CoreId) (k : HomeKind) (line : Nat) : Option State :=
  let ca := s.larder.caches.get c
  let wbLine : Bool := match ca.wb with | some w => w.line == line | none => false
  if ca.req.isSome || wbLine then none
  else
    let s1 := postReq (s.onCache c fun q => { q with req := some { kind := k, line := line, src := .cache c } })
      { kind := k, line := line, src := .cache c }
    let ways := cacheWays ca line
    if !needsEntry k || k == .upg || (cacheFind ca line).isSome || decide (ways.length < 4) then some s1
    else
      match ways.getLast? with
      | some v =>
        if v.st ≠ .m then some (s1.onCache c fun q => cacheRemove q v.line)
        else if ca.wb.isSome then none
        else some (sendMsg (s1.onCache c fun q => { cacheRemove q v.line with wb := some v })
          { bareMsg .wb v.line (.cache c) with data := v.data, poison := v.poison, dirty := true })
      | none => some s1

/-- A word stored in a cached line. -/
def linePatch (x : CacheLine) (a : Nat) (bs : List Byte) : CacheLine :=
  { x with st := .m, data := putAt x.data (a % 64) bs }

/-- The line gained M: the waiting near atomic is performed, or the oldest buffered store of the line merged and
retired (R275, R284, R285). `snooped` tells whether gaining M sent a FWD or INV to another cache. -/
def performM (s : State) (c : CoreId) (line : Nat) (snooped : Bool) : State :=
  match cacheFind (s.larder.caches.get c) line with
  | none => s
  | some x =>
    match (coreNewel s c).wait with
    | .nearAtom rd op rs2 cmp a _ =>
      if a.toNat / 64 ≠ line then s
      else if x.poison then endLoadTrap s c 0x0703
      else
        let old : W32 := BitVec.ofNat 32 (fieldAt x.data (a.toNat % 64) 4)
        let s1 := s.onCache c fun q => cachePut q (linePatch x a.toNat (leBytes 4 (atomNew op old rs2 cmp).toNat))
        onCore s1 c fun n => retire (regSet (predMove n a.toNat snooped) rd old)
    | _ =>
      match (coreNewel s c).stores with
      | e :: rest =>
        if e.addr.toNat / 64 ≠ line then s
        else onCore (s.onCache c fun q => cachePut q (linePatch x e.addr.toNat e.bytes)) c fun n => { n with stores := rest }
      | [] => s

/-- The load that waits for a line is performed (R275). -/
def performLoad (s : State) (c : CoreId) (line : Nat) : State :=
  match (coreNewel s c).wait, cacheFind (s.larder.caches.get c) line with
  | .load _ _ a _, some x =>
    if a.toNat / 64 ≠ line then s
    else if x.poison then endLoadTrap s c 0x0703 else endLoad s c (x.data.drop (a.toNat % 64))
  | _, _ => s

/-- A snoop that was held is answered (R277). -/
def releaseHeld (s : State) (c : CoreId) : State :=
  match (s.larder.caches.get c).heldSnoop with
  | some m => answerSnoop (s.onCache c fun q => { q with heldSnoop := none }) c m.line m.kind
  | none => s

/-- An answer with a line reaches a cache: it installs the line and its access is performed (R275-R277). -/
def installLine (s : State) (c : CoreId) (line : Nat) (k : MsgKind) (st : Mesi) : State :=
  match takeMsg s k (.cache c) line with
  | some (m, s1) =>
    let s2 := s1.onCache c fun q =>
      { cachePut q { line := line, st := st, data := m.data, poison := m.poison } with req := none }
    releaseHeld (if st = .m then performM s2 c line m.contended else performLoad s2 c line) c
  | none => s

/-- DAT_S at a cache. -/
def execDatS (c : CoreId) (line : Nat) (s : State) : Res := .next (installLine s c line .datS .s)
/-- DAT_E at a cache. -/
def execDatE (c : CoreId) (line : Nat) (s : State) : Res := .next (installLine s c line .datE .e)
/-- DAT_M at a cache. -/
def execDatM (c : CoreId) (line : Nat) (s : State) : Res := .next (installLine s c line .datM .m)

/-- CMP: the upgrade is done and the line is held in M (R276). -/
def execCmp (c : CoreId) (line : Nat) (s : State) : Res :=
  match takeMsg s .cmp (.cache c) line with
  | some (m, s1) =>
    let s2 := s1.onCache c fun q =>
      { q with req := none, lines := q.lines.map fun y => if y.line == line then { y with st := .m } else y }
    .next (releaseHeld (performM s2 c line m.contended) c)
  | none => .next s

/-- WB_ACK: the writeback slot is free (R275). -/
def execWbAck (c : CoreId) (line : Nat) (s : State) : Res :=
  match takeMsg s .wbAck (.cache c) line with
  | some (_, s1) => .next (s1.onCache c fun q => { q with wb := none })
  | none => .next s

/-- A remote request is answered to its device by a response packet of the same wing and tag (R283, R465). -/
def remoteAnswer (s : State) (t : PktType) (dev : DevAddr) (tag : W16) (w : WingId) (poison : Bool) (data : List Byte) : State :=
  postPacket s { wingPacket s t 1 w dev tag data with poison := poison }

/-- A part of a line of an A-stream transfer is answered: part `id % 2` of line `id / 2` (R382, R383). -/
def answerLine (s : State) (r : RoomId) (id : Nat) (a : List Byte × Bool × Cond) : State :=
  s.onRoom r fun x => { x with astream := { x.astream with
    lines := x.astream.lines.map fun l =>
      if l.id = id / 2 then
        { l with parts := l.parts.zipIdx.map fun p => if p.2 = id % 2 then { p.1 with answer := some a } else p.1 }
      else l } }

/-- NC_ACK: a non-caching agent's write is stored (R282). -/
def execNcAck (p : Agent) (line : Nat) (s : State) : Res :=
  match takeMsg s .ncAck p line with
  | some (_, s1) =>
    match p with
    | .cache c =>
      .next (onCore (s1.onCache c fun q => { q with req := none }) c fun n => { n with stores := n.stores.drop 1 })
    | .astream r id => .next (answerLine s1 r id ([], false, 0))
    | .remote dev tag w => .next (remoteAnswer s1 .wrAck dev tag w false [])
  | none => .next s

/-- ATOM_DONE: the result of a far atomic; the predictor follows CONTENDED (R284, R285). -/
def execAtomDone (p : Agent) (line : Nat) (s : State) : Res :=
  match takeMsg s .atomDone p line with
  | some (m, s1) =>
    match p with
    | .cache c =>
      let s2 := s1.onCache c fun q => { q with req := none }
      match (coreNewel s2 c).wait with
      | .farAtom rd a _ =>
        if m.poison then .next (endLoadTrap s2 c 0x0703)
        else .next (onCore s2 c fun n => retire (regSet (predMove n a.toNat m.contended) rd m.old))
      | _ => .next s2
    | .remote dev tag w =>
      .next (remoteAnswer s1 .atomRsp dev tag w m.poison (leBytes 4 m.old.toNat ++ [if m.contended then 1 else 0]))
    | .astream _ _ => .next s1
  | none => .next s

/-- DAT_NC: the data of a non-caching read reaches its agent (R282, R283). -/
def execDatNc (p : Agent) (line : Nat) (s : State) : Res :=
  match takeMsg s .datNc p line with
  | some (m, s1) =>
    match p with
    | .cache c =>
      let s2 := s1.onCache c fun q => { q with req := none }
      match (coreNewel s2 c).wait with
      | .load _ _ a _ =>
        if m.poison then .next (endLoadTrap s2 c 0x0703) else .next (endLoad s2 c (m.data.drop (a.toNat % 64)))
      | _ => .next s2
    | .astream r id => .next (answerLine s1 r id (m.data, m.poison, 0))
    | .remote dev tag w => .next (remoteAnswer s1 .rdRsp dev tag w m.poison m.data)
  | none => .next s

/-! ### The region table (R293) -/

/-- An enabled entry's range lies below the usable top and is not inverted. -/
def regionOk (s : State) (r : Region) : Bool :=
  decide (r.base.toNat ≤ r.limit.toNat ∧ (r.limit.toNat + 1) * 2097152 ≤ usableTop s)

/-- The attribute of a Larder address is UC: that of the lowest enabled entry that holds it (R293). -/
def isUncached (s : State) (a : Nat) : Bool :=
  match lowest s.larder.regions fun _ r => r.en && decide (r.base.toNat * 2097152 ≤ a ∧ a < (r.limit.toNat + 1) * 2097152) with
  | some i => (s.larder.regions.get i).uncached
  | none => false

/-- One register of an entry written: 0 BASE, 1 LIMIT, 2 CTRL; any other offset is reserved (R6, R293). -/
def regionWith (r : Region) (reg : Fin 4) (v : W32) : Region :=
  match reg with
  | 0 => { r with base := v.setWidth 15 }
  | 1 => { r with limit := v.setWidth 15 }
  | 2 => { r with uncached := if (v.toNat / 2) % 4 < 2 then v.getLsbD 1 else r.uncached, en := v.getLsbD 0 }
  | 3 => r

/-- Reserved bits, and a reserved ATTR, that the write sets (R7, R9). -/
def regionReserved (reg : Fin 4) (v : W32) : Bool :=
  match reg with
  | 0 | 1 => decide (2 ^ 15 ≤ v.toNat)
  | 2 => decide (8 ≤ v.toNat) || decide (2 ≤ (v.toNat / 2) % 4)
  | 3 => decide (v ≠ 0)

/-- REGION_ENTRY_WRITE: a write that leaves an entry enabled is checked, and refused whole with 0x0704 (R293). -/
def regionEntryWriteOp (n : Fin 16) (reg : Fin 4) (v : W32) (s : State) : Res :=
  let r := regionWith (s.larder.regions.get n) reg v
  let s1 := if regionReserved reg v then countReserved s 1 else s
  if r.en && !regionOk s r then .next (ringCond s1 0 0x0704)
  else .next (s1.onLarder fun l => { l with regions := vset l.regions n r })

/-- REGION_ENTRY_WRITE as a BAR access of the host (R151, R157, R549). -/
def execRegionEntryWrite (n : Fin 16) (reg : Fin 4) (v : W32) (s : State) : Res :=
  barGo s (bar0 (0x130000 + 16 * n.1 + 4 * reg.1) v.toNat) 3 (regionEntryWriteOp n reg v s)

end Sys2Proof.Machine
end

