-- ==== Sys2Proof/Machine/FuseOps.lean ====
section
/-!
DEFINITION. Machine/FuseOps.lean: the Fusebox: metering and charging (R199, R200), budgets, reports and grants
(R201-R206), enforcement by stretching (R207), operating points (R209) and fans (R211).
-/
namespace Sys2Proof.Machine
open Sys2Proof

/-- A power in 10 mW over a half-cycle in whole mJ: P × T rounded down, T = 500 / MAINS_MHZ s, or 10 ms (R203). -/
def energyOf (s : State) (p : Nat) : Nat :=
  if s.phase.mainsMhz = 0 then p / 10 else p * 5000 / s.phase.mainsMhz.toNat

/-- Energy of the floors F (R202, R203). -/
def floorEnergy (s : State) : Nat := energyOf s (powerTotal s)

/-- Half-cycle index: 2 × cycle count + tick[15], modulo 2^33 (R184). -/
def halfIndex (t : W48) : Nat := t.toNat / 32768

/-! ### Demand, report and usable grant (R203-R206) -/

/-- d_w: demand of a non-isolated wing for the next half-cycle (R203). -/
def wingDemand (s : State) (w : WingId) : Nat :=
  let x := s.wing w
  let a := s.fuse.wings.get w
  let f := energyOf s x.fuseFloor.toNat
  let c := energyOf s x.fuseCeil.toNat
  let raw := if a.reachedLast then a.grant.toNat + energyOf s s.fuse.rampUsed.toNat else 9 * a.spentLast.toNat / 8
  max f (min raw c)

/-- A wing's demand above its floor. -/
def aboveFloor (s : State) (w : WingId) (d : Nat) : Nat := d - energyOf s (s.wing w).fuseFloor.toNat

/-- Wings that lend and borrow: existing and not isolated (R48). -/
def flexWings (s : State) : List WingId :=
  (List.finRange 16).filter fun w => (s.wing w).st.exists_ && !(s.wing w).isolated

/-- D of R203. -/
def demand (s : State) : Nat :=
  floorEnergy s + sumOf ((flexWings s).map fun w => aboveFloor s w (wingDemand s w))

/-- The fan need in %: clamp(20 + 4 × (Tj - 60), 20, 100), Tj in tenths of a degree (R211). -/
def fanNeed (tj : W32) : Nat :=
  let n : Int := 20 + 4 * (tj.toInt - 600) / 10
  (max 20 (min n 100)).toNat

/-- The report of a half-cycle (R203, R214). -/
def makeReport (s : State) : FuseReport :=
  let cap := energyOf s s.fuse.deviceCap.toNat
  let at_ := energyOf s s.fuse.allot.toNat
  let d := demand s
  { half := BitVec.ofNat 16 (halfIndex s.phase.time), spent := s.fuse.spentLast.toNat, floor := floorEnergy s,
    cap := cap, lend := at_ - d, borrow := min d cap - at_, fanNeed := BitVec.ofNat 8 (fanNeed s.fuse.junction),
    allot := s.fuse.allot }

/-- The 32 bytes of a report (R214). -/
def reportBytes (r : FuseReport) : List Byte :=
  [2, 0] ++ leBytes 2 r.half.toNat ++ leBytes 2 r.spent ++ leBytes 2 r.floor ++ leBytes 2 r.cap ++
    leBytes 2 r.lend ++ leBytes 2 r.borrow ++ [r.fanNeed, 0] ++ leBytes 4 r.allot.toNat ++ List.replicate 12 0

/-- The 16 bytes of a grant (R214). -/
def grantBytes (g : FuseGrant) : List Byte :=
  [3, 0] ++ leBytes 2 g.half.toNat ++ leBytes 2 g.borrow ++ [0, 0] ++ leBytes 4 g.allot.toNat ++ [g.fan, 0, 0, 0]

/-- The usable grant U of the half-cycle that starts (R205), or F alone while UNLOCKED (R210). -/
def usableGrant (s : State) : Nat :=
  let f := s.fuse
  if s.phase.st = .unlocked ∨ !f.armed then floorEnergy s
  else
    let u1 := energyOf s f.allot.toNat + f.borrowGranted - f.lend
    let u2 := u1 - f.excess
    let u3 := min u2 (f.spentLast.toNat + energyOf s f.rampLimit.toNat)
    let u4 := u3 - energyOf s (f.derateW * 100)
    max u4 (floorEnergy s)

/-- Shares of `rest` in proportion to weights, each capped at its weight, remaining units one each from the front
(R204, R206). -/
def proportion (rest : Nat) (weights : List Nat) : List Nat :=
  let q := sumOf weights
  if q ≤ rest then weights
  else
    let base := weights.map fun x => rest * x / q
    let left := rest - sumOf base
    (base.zip weights).zipIdx.map fun (x : (Nat × Nat) × Nat) =>
      let before := ((base.zip weights).take x.2 |>.filter fun y => decide (y.1 < y.2)).length
      if x.1.1 < x.1.2 ∧ before < left then x.1.1 + 1 else x.1.1

/-- What the house and the wings receive whatever they demand: floors, and ceilings of isolated wings (R206). -/
def fixedShares (s : State) : Nat :=
  energyOf s s.wingTop.houseFloor.toNat + sumOf ((List.finRange 16).map fun w =>
    if !(s.wing w).st.exists_ then 0
    else energyOf s (if (s.wing w).isolated then (s.wing w).fuseCeil else (s.wing w).fuseFloor).toNat)

/-- The split of U among the wings, by the demands of the report made for this half-cycle (R206). -/
def splitGrant (s : State) (u : Nat) : Vector Nat 16 :=
  let flex := flexWings s
  let shares := proportion (u - fixedShares s) (flex.map fun w => aboveFloor s w (s.fuse.wings.get w).demandNext)
  Vector.ofFn fun w =>
    let x := s.wing w
    if !x.st.exists_ then 0
    else if x.isolated then energyOf s x.fuseCeil.toNat
    else energyOf s x.fuseFloor.toNat + ((flex.zip shares).find? fun p => p.1 == w).elim 0 (·.2)

/-! ### Closing a half-cycle -/

/-- House spend above its floor is taken from energy no wing holds; the rest is charged to the non-isolated wings in
proportion to their grants (R200). Spends in mJ. -/
def chargedSpends (s : State) : Vector Nat 16 :=
  let f := s.fuse
  let own (w : WingId) : Nat := (f.wings.get w).spendUj / 1000
  let grants := sumOf ((List.finRange 16).map fun w => (f.wings.get w).grant.toNat)
  let hf := energyOf s s.wingTop.houseFloor.toNat
  let excess := f.houseUj / 1000 - hf - (f.grant.toNat - grants - hf)
  let flex := flexWings s
  let total := sumOf (flex.map fun w => (f.wings.get w).grant.toNat)
  Vector.ofFn fun w =>
    if flex.contains w ∧ total ≠ 0 then own w + excess * (f.wings.get w).grant.toNat / total else own w

/-- Accounts of the half-cycle that ends are closed (R200, R203, R205, R207). -/
def closeAccounts (s : State) : State :=
  let f := s.fuse
  let spends := chargedSpends s
  let total := (sumOf ((List.finRange 16).map fun w => (f.wings.get w).spendUj) + f.houseUj) / 1000
  let excess := total - f.grant.toNat
  let s1 := s.onFuse fun f =>
    { f with
      spentLast := BitVec.ofNat 32 total, lentLast := BitVec.ofNat 32 f.lendUsed,
      borrowedLast := BitVec.ofNat 32 f.borrowUsed, excess := excess, houseUj := 0,
      wings := Vector.ofFn fun w =>
        let a := f.wings.get w
        { a with spentLast := BitVec.ofNat 32 (spends.get w), spendUj := 0, reached := false, reachedLast := a.reached },
      storeyLastUj := f.storeyUj, storeyUj := Vector.replicate 4 0 }
  if f.armed ∧ f.grant.toNat * 102 / 100 + 1 < total then logDev s1 0x0507 else s1

/-- The new half-cycle starts: U is formed and split, the written limits come into force (R139, R205, R206). -/
def openAccounts (s : State) : State :=
  let s0 := s.onFuse fun f =>
    { f with rampUsed := f.rampLimit, fanCeilUsed := f.fanCeil }
  let u := usableGrant s0
  let g := splitGrant s0 u
  s0.onFuse fun f =>
    { f with
      grant := BitVec.ofNat 32 u, lendUsed := if f.armed ∧ s.phase.st ≠ .unlocked then f.lend else 0,
      borrowUsed := if f.armed ∧ s.phase.st ≠ .unlocked then f.borrowGranted else 0, borrowGranted := 0, grantSeen := false, steps := 0,
      wings := Vector.ofFn fun w => { f.wings.get w with grant := BitVec.ofNat 32 (g.get w) } }

/-! ### Operating points (R209, R541) -/

/-- Room clock in MHz and voltage in mV of an operating point (R541). -/
def opPoint : Nat → Nat × Nat
  | 0 => (400, 600) | 1 => (700, 650) | 2 => (1000, 700) | 3 => (1250, 750) | _ => (1500, 800)

/-- Rooms of a wing in a Storey. -/
def storeyRooms (m : W32) (i : StoreyId) : Nat :=
  ((List.range 8).filter fun k => m.getLsbD (8 * i.1 + k)).length

/-- The share of U of a Storey covers the estimated energy one point higher, compared before rounding (R209). The share
is over a common denominator, the product of the wings' Room counts. -/
def shareCovers (s : State) (i : StoreyId) : Bool :=
  let ws := (List.finRange 16).filter fun w => w ≠ 0 ∧ (s.wing w).st.exists_ ∧ (s.wing w).roomMask ≠ 0
  let den := (ws.map fun w => popCount (s.wing w).roomMask).foldl (· * ·) 1
  let num := sumOf (ws.map fun w =>
    (s.fuse.wings.get w).grant.toNat * storeyRooms (s.wing w).roomMask i * (den / popCount (s.wing w).roomMask))
  let o := opPoint (s.storey i).op.toNat
  let n := opPoint ((s.storey i).op.toNat + 1)
  decide (s.fuse.storeyLastUj.get i * (n.1 * n.2 * n.2) * den ≤ 1000 * num * (o.1 * o.2 * o.2))

/-- The point that the DVFS decision of R209 chooses for a Storey; UNLOCKED holds it at or below OP2 (R210). -/
def dvfsTarget (s : State) (i : StoreyId) : Nat :=
  let st := s.storey i
  let op := st.op.toNat
  let ceil := if s.phase.st = .unlocked ∨ !s.fuse.armed then min st.opCeil.toNat 2 else st.opCeil.toNat
  let sum := s.fuse.stretchSum.get i
  let n := 8 * s.fuse.steps
  if st.failsInRow ≠ 0 then st.target.toNat
  else if ceil < op then ceil
  else if st.railLow then op - 1
  else if s.phase.st = .unlocked ∨ !s.fuse.armed then op
  else if 4 * n < sum then op - 1
  else if sum ≤ n ∧ op < ceil ∧ shareCovers s i then op + 1
  else op

/-- A relock toward a point begins, unless one runs, the Storey's clock stands or relocks are given up (R542, R545). With no
board block only the frequency changes (R586). -/
def startRelock (s : State) (i : StoreyId) (target : Nat) : State :=
  let st := s.storey i
  if (st.op.toNat = target ∧ st.failsInRow = 0) ∨ st.step ≠ .idle ∨ st.stuck ∨ s.sys.domGate.getLsbD i.1 then s
  else
    let s1 := s.onStorey i fun x =>
      { x with target := BitVec.ofNat 4 target, railLow := false,
               step := if x.op.toNat < target ∧ s.sys.boardValid = true then .volt else .waitLock }
    if st.op.toNat < target ∧ s.sys.boardValid = true then s1.send (.pmbus i (opPoint target).2) else s1

/-! ### Fans (R211) -/

/-- The hottest sensor is read: no command carries its value, which is a free value (R145, R211). -/
def sampleJunction (s : State) : State :=
  (s.onFuse fun f => { f with junction := (Config.free64 s.free).setWidth 32 }).draw

/-- Fan duties, the thermal derate and the ceiling at a half-cycle boundary. -/
def fanUpdate (s0 : State) : State :=
  let s := sampleJunction s0
  let f := s.fuse
  let tj := f.junction.toInt
  let need := fanNeed f.junction
  let lifted := if 1050 ≤ tj then true else if tj ≤ 950 then false else f.ceilingLifted
  let ceil := if lifted then 100 else f.fanCeilUsed.toNat
  let derate := if f.fanCeilUsed.toNat < need ∧ 950 ≤ tj then f.derateW + 1 else if tj ≤ 900 then f.derateW - 1 else f.derateW
  let fan0 := min need ceil
  let fan1 := if s.fabric.isMaster then
      min ((f.reports.map fun r => r.report.fanNeed.toNat).foldl max need) ceil else fan0
  let s1 := s.onFuse fun f =>
    { f with derateW := derate, ceilingLifted := lifted, fanDuty := BitVec.ofNat 16 (fan1 * 256 + fan0) }
  let s2 := if f.derateW = 0 ∧ derate ≠ 0 then logDev s1 0x050A else s1
  if lifted ∧ !f.ceilingLifted then logDev s2 0x050A else s2

/-! ### The boundary -/

/-- The report of this half-cycle, if one was formed: its LEND binds; the master keeps its own, others send it (R203). While
UNLOCKED nothing is lent or borrowed (R210). -/
def sendReport (s : State) (r : FuseReport) : State :=
  if !s.fuse.armed ∨ s.phase.st = .unlocked then s.onFuse fun f => { f with lend := 0 }
  else
    let s1 := s.onFuse fun f => { f with lend := r.lend }
    if s.fabric.isMaster then s1.onFuse fun f => { f with reports := [⟨s1.fabric.devAddr, r⟩] }
    else postTo s1 s.fabric.masterAddr .fuse (reportBytes r)

/-- The demands of the report are kept for the split of the next grant (R203, R206). -/
def keepDemands (s : State) (d : WingId → Nat) : State :=
  s.onFuse fun f => { f with wings := Vector.ofFn fun w => { f.wings.get w with demandNext := d w } }

/-- Everything that a half-cycle boundary does (R203-R206, R209, R211, R578). The demands of the report are of the half-cycle
that closed, with its grants; the operating points follow its stretch levels and the grants of the one that begins. -/
def boundary (s : State) : State :=
  let s1 := closeAccounts s
  let s2 := if s.sys.bootStage = 9 then s1.onFuse fun f => { f with armed := true } else s1
  let ran := s2.sys.bootStage = 9 ∧ s2.fuse.grantSeen
  let s3 := openAccounts s2
  let s4 := if ran then s3.onSys fun y => { y with bootStage := 10 } else s3
  let sd := s4.onFuse fun f => { f with steps := s1.fuse.steps }
  let s5 := (List.finRange 4).foldl (fun s i => startRelock s i (dvfsTarget sd i)) s4
  let s6 := fanUpdate (s5.onFuse fun f => { f with stretchSum := Vector.replicate 4 0 })
  let r := { makeReport s2 with fanNeed := BitVec.ofNat 8 (fanNeed s6.fuse.junction) }
  keepDemands (sendReport s6 r) (wingDemand s2)

/-- HALF_CYCLE_BOUNDARY: at tick 0 or 32,768 accounts are closed and the new half-cycle starts (R184, R203). -/
def execHalfCycleBoundary (s : State) : Res :=
  if phaseRuns s ∧ s.phase.time.toNat % 32768 = 0 ∧ s.fuse.half ≠ some (halfIndex s.phase.time) then
    .next (boundary (s.onFuse fun f => { f with half := some (halfIndex s.phase.time) }))
  else .next s

/-- UNLOCKED_ACCOUNT_CLOSE: every 10 ms while UNLOCKED accounts are closed and the floors granted (R210). -/
def execUnlockedAccountClose (s : State) : Res :=
  if s.phase.st = .unlocked ∧ 6 ≤ s.sys.bootStage.toNat ∧ s.sys.bootStage.toNat ≤ 10 ∧ !s.sys.inReset then
    .next (boundary s)
  else .next s

/-! ### Loans at the master device (R201, R204) -/

/-- A report read from its bytes (R214). -/
def parseReport (b : List Byte) : FuseReport :=
  { half := BitVec.ofNat 16 (fieldAt b 2 2), spent := fieldAt b 4 2, floor := fieldAt b 6 2, cap := fieldAt b 8 2,
    lend := fieldAt b 10 2, borrow := fieldAt b 12 2, fanNeed := BitVec.ofNat 8 (fieldAt b 14 1),
    allot := BitVec.ofNat 32 (fieldAt b 16 4) }

/-- A grant read from its bytes (R214). -/
def parseGrant (b : List Byte) : FuseGrant :=
  { half := BitVec.ofNat 16 (fieldAt b 2 2), borrow := fieldAt b 4 2, allot := BitVec.ofNat 32 (fieldAt b 8 4),
    fan := BitVec.ofNat 8 (fieldAt b 12 1) }

/-- A FUSE packet of a KIND, taken from those received; a packet of no KIND of R214 is dropped with it. -/
def takeFuse (s : State) (kind : Byte) : Option (Packet × State) :=
  match takePacket s fun x => x.pkt.typ == .fuse && (x.pkt.data.headD 0 == kind) with
  | some (x, s1) => some (x.pkt, s1)
  | none => none

/-- DEVICE_CAP in 10 mW from the CAP energy of a report: the least power that gives it (R201, R203). -/
def capPower (s : State) (cap : Nat) : Nat :=
  if s.phase.mainsMhz = 0 then cap * 10 else (cap * s.phase.mainsMhz.toNat + 4999) / 5000

/-- The reports that the master divides by: a device of the census without one lends and borrows nothing (R204). -/
def allReports (s : State) : List ReportAt :=
  s.fuse.reports ++ (s.fabric.census.filter fun d => !(s.fuse.reports.any fun r => r.device == d)).map fun d =>
    ⟨d, { half := 0, spent := 0, floor := 0, cap := 0, lend := 0, borrow := 0, fanNeed := 0, allot := 0 }⟩

/-- Loans by device: the borrowers' shares of the lent energy, in address order (R204). -/
def loans (reports : List ReportAt) : List (DevAddr × Nat) :=
  let rs := reports.mergeSort fun a b => decide (a.device.toNat ≤ b.device.toNat)
  let l := sumOf (rs.map fun r => r.report.lend)
  (rs.map fun r => r.device).zip (proportion l (rs.map fun r => r.report.borrow))

/-- Standing allotment of a device with a DEVICE_CAP (R201). -/
def allotOf (s : State) (cap : Nat) : Nat :=
  let pool := (s.fuse.socketBudget.toNat - s.sys.applianceReserve.toNat) * 100
  let sum := sumOf (s.fuse.caps.map (·.2))
  if sum ≤ pool then cap else if sum = 0 then 0 else pool * cap / sum

/-- The master device recomputes the allotments; floors above an allotment raise 0x0509 (R201, R202). Its own applies at
once; the others' go with the next grant. -/
def recomputeAllot (s : State) : State :=
  if !s.fabric.isMaster then s
  else
    let caps := (s.fabric.devAddr, s.fuse.deviceCap.toNat) ::
      s.fuse.caps.filter fun c => c.1 != s.fabric.devAddr && s.fabric.census.contains c.1
    let s1 := s.onFuse fun f => { f with caps := caps }
    let s2 := s1.onFuse fun f => { f with allot := BitVec.ofNat 32 (allotOf s1 s1.fuse.deviceCap.toNat) }
    let above := decide (s2.fuse.socketBudget.toNat ≤ s2.sys.applianceReserve.toNat) ||
      decide (s2.fuse.allot.toNat < powerTotal s2) || s2.fuse.reports.any fun r =>
      decide (energyOf s2 (allotOf s2 ((caps.find? fun c => c.1 == r.device).elim 0 (·.2))) < r.report.floor)
    if above then logDev s2 0x0509 else s2

/-- FUSE_REPORT: the master device takes a report whose HALF is its own, before its deadline; a changed DEVICE_CAP
recomputes the allotments (R201, R204, R214). -/
def execFuseReport (s : State) : Res :=
  match takeFuse s 2 with
  | none => .next s
  | some (p, s1) =>
    let r := parseReport p.data
    if s1.fabric.isMaster ∧ s1.fuse.armed ∧ r.half = BitVec.ofNat 16 (halfIndex s1.phase.time)
        ∧ s1.phase.time.toNat % 32768 < 8192 then
      let cap := capPower s1 r.cap
      let s2 := s1.onFuse fun f => { f with reports := f.reports.filter (fun x => x.device != p.src) ++ [⟨p.src, r⟩] }
      if s2.fuse.caps.contains (p.src, cap) then .next s2
      else .next (recomputeAllot (s2.onFuse fun f =>
        { f with caps := f.caps.filter (fun c => c.1 != p.src) ++ [(p.src, cap)] }))
    else .next s1

/-- REPORT_DEADLINE: at tick 8,192 the master device divides the loans and sends the grants (R204). A CAP of a report
that changed the sum of the caps recomputes the allotments (R201). -/
def execReportDeadline (s : State) : Res :=
  if !s.fabric.isMaster ∨ !s.fuse.armed ∨ s.phase.time.toNat % 32768 ≠ 8192 then .next s
  else
    let ls := loans (allReports s)
    let fan := (s.fuse.reports.map fun r => r.report.fanNeed.toNat).foldl max (fanNeed s.fuse.junction)
    let half := BitVec.ofNat 16 (halfIndex s.phase.time + 1)
    let s1 := ls.foldl (fun s p =>
      if p.1 = s.fabric.devAddr then
        s.onFuse fun f => { f with borrowGranted := p.2, grantSeen := true, fanAppliance := BitVec.ofNat 8 fan }
      else postTo s p.1 .fuse (grantBytes ⟨half, p.2,
        BitVec.ofNat 32 (allotOf s ((s.fuse.caps.find? fun c => c.1 == p.1).elim 0 (·.2))), BitVec.ofNat 8 fan⟩)) s
    .next s1

/-- FUSE_GRANT: a device takes its grant for the next half-cycle, before tick 16,384 (R204, R214). -/
def execFuseGrant (s : State) : Res :=
  match takeFuse s 3 with
  | none => .next s
  | some (p, s1) =>
    let g := parseGrant p.data
    if !s1.fabric.isMaster ∧ s1.fuse.armed ∧ g.half = BitVec.ofNat 16 (halfIndex s1.phase.time + 1)
        ∧ s1.phase.time.toNat % 32768 < 16384 then
      .next (s1.onFuse fun f =>
        { f with borrowGranted := g.borrow, grantSeen := true, allot := g.allot, fanAppliance := g.fan })
    else .next s1

/-- GRANT_DEADLINE: no grant by tick 16,384 raises 0x0508 and takes no loan (R204). -/
def execGrantDeadline (s : State) : Res :=
  if s.fuse.armed ∧ !s.fuse.grantSeen ∧ s.phase.time.toNat % 32768 = 16384 then
    .next (logDev (s.onFuse fun f => { f with borrowGranted := 0 }) 0x0508)
  else .next s

/-! ### Metering and stretching (R199, R200, R207) -/

/-- PMBUS_TRANSACTION_DONE: a telemetry read of regulator `r` completes or fails; `round`, at the end of a round, is the
measured input in 10 mW and VDD_CORE in mV; `rail` is a sampled Storey rail in mV, which after a step up must not lie more
than 20 mV below the new point's voltage (R199, R546). -/
def execPmbusTransactionDone (r : Fin 4) (ok : Bool) (round : Option (W16 × W16)) (rail : Option (StoreyId × W16))
    (s : State) : Res :=
  let x := s.fuse.regs.get r
  let y : Regulator := if ok then
      { failsInRow := 0, goodInRow := x.goodInRow + 1, failed := x.failed && decide (x.goodInRow + 1 < 2) }
    else { failsInRow := x.failsInRow + 1, goodInRow := 0, failed := x.failed || decide (3 ≤ x.failsInRow + 1) }
  let s1 := s.onFuse fun f => { f with regs := vset f.regs r y }
  let s2 := if y.failed ∧ !x.failed then logDev s1 0x0506 else s1
  let s3 := match round with
    | some p => s2.onFuse fun f => { f with powerNow := p.1, vddCoreMv := p.2 }
    | none => s2
  match rail with
  | some (i, mv) =>
    if (s.storey i).checkRail then
      let low := decide (mv.toNat + 20 < (opPoint (s.storey i).op.toNat).2)
      let s4 := s3.onStorey i fun t => { t with checkRail := false, railLow := low }
      .next (if low then
        logDev s4 0x0E05 else s4)
    else .next s3
  | none => .next s3

/-- Energy that a step charges to a wing: its Rooms and its parts of the shared units (R200). -/
def stepCharge (s : State) (e : StepEnergy) (w : WingId) : Nat :=
  let rooms := sumOf ((List.finRange 32).map fun r => if roomOwner s r = w then e.rooms.getD r.1 0 else 0)
  let shared := sumOf (e.shared.map fun u => if sumOf u.2 = 0 then 0 else u.1 * u.2.getD w.1 0 / sumOf u.2)
  (if w = 0 then 0 else rooms) + shared

/-- Energy of a whole step. -/
def stepTotal (e : StepEnergy) : Nat := sumOf e.rooms + sumOf (e.shared.map (·.1)) + e.rest

/-- STRETCH_STEP: the energy of 2 µs is charged, with 20% margin while a regulator has failed; each wing is compared with
its glide path and the stretch level of its Rooms moves; a wing that reaches its grant is held at level 15 (R199, R200,
R207). -/
def execStretchStep (e0 : StepEnergy) (s : State) : Res :=
  let margin := s.fuse.regs.toList.any (·.failed)
  let m (x : Nat) : Nat := if margin then x * 6 / 5 else x
  let e : StepEnergy := { rooms := e0.rooms.map m, shared := e0.shared.map fun u => (m u.1, u.2), rest := m e0.rest }
  let mhz := if s.phase.mainsMhz = 0 then 50000 else s.phase.mainsMhz.toNat
  let n := s.fuse.steps + 1
  let charge (w : WingId) : Nat := if w = 0 then 0 else stepCharge s e w
  let tenants := sumOf ((List.finRange 16).map charge)
  let acct (w : WingId) : WingAccount :=
    let a := s.fuse.wings.get w
    let spend := a.spendUj + charge w
    let hit := decide (w ≠ 0 ∧ (s.wing w).st.exists_ ∧ a.grant.toNat * 1000 ≤ spend)
    { a with spendUj := spend, reached := a.reached || hit,
             capped := if hit ∧ !a.reached then satAdd a.capped 1 else a.capped }
  let level0 (r : RoomId) : BitVec 4 :=
    let w := roomOwner s r
    let a := acct w
    let l := s.fuse.stretch.get r
    -- glide path GRANT_W × elapsed / T, with elapsed 2n µs and T = 500 / MHZ s
    let path := a.grant.toNat * 1000 * (2 * n) * mhz / 500000000
    if w = 0 then 0 else if a.reached then 15
    else if path < a.spendUj then (if l = 15 then 15 else l + 1)
    else if a.spendUj < path then (if l = 0 then 0 else l - 1) else l
  -- a ganged Room takes the highest level of its gang (R323)
  let level (r : RoomId) : BitVec 4 :=
    let i := storeyOf r
    let gang := (s.storey i).gang
    if gang.getLsbD (r.1 % 8) then
      ((List.range 8).map fun k => match idx 32 (8 * i.1 + k) with
        | some q => if gang.getLsbD k then level0 q else 0
        | none => 0).foldl (fun a b => if a.toNat < b.toNat then b else a) 0
    else level0 r
  -- Room cycles of 2 µs at the Storey's clock, 100 MHz in a relock, lost at level L of 16 (R208, R543, R547)
  let lost (i : StoreyId) : Nat :=
    let t := s.storey i
    let f := if t.step = .waitLock ∨ t.step = .hold ∨ t.failsInRow ≠ 0 then 100 else (opPoint t.op.toNat).1
    sumOf ((List.range 8).map fun k => match idx 32 (8 * i.1 + k) with
      | some r => 2 * f * (level r).toNat / 16
      | none => 0)
  let s1 : State := { s with storeys := Vector.ofFn fun i =>
    let t := s.storey i
    { t with stretched := satAdd t.stretched (lost i) } }
  -- the Porch's energy of 2 µs as a power: 1 µJ is 0.5 W (R144)
  let s2 := s1.onSys fun y => { y with porchPower := BitVec.ofNat 16 (min 65535 (50 * (e.shared.getD 3 (0, [])).1)) }
  .next (s2.onFuse fun f =>
    { f with
      steps := n, wings := Vector.ofFn acct, houseUj := f.houseUj + (stepTotal e - tenants),
      stretch := Vector.ofFn level,
      storeyUj := Vector.ofFn fun i => f.storeyUj.get i +
        sumOf ((List.range 8).map fun k => e.rooms.getD (8 * i.1 + k) 0),
      stretchSum := Vector.ofFn fun i => f.stretchSum.get i +
        sumOf ((List.range 8).map fun k => match idx 32 (8 * i.1 + k) with
          | some r => (level r).toNat
          | none => 0) })

end Sys2Proof.Machine
end

