-- ==== Sys2Proof/Machine/Links.lean ====
section
/-!
DEFINITION. Machine/Links.lean: the Doorways: codes of the control flit and packet header (R433-R435, R443, R469, R470),
frames, credits, replay and lock (R434-R453), training (R439-R442) and the echo (R446).
-/
namespace Sys2Proof.Machine
open Sys2Proof

/-! ### The wire format (R433, R435, R443, R469-R471) -/

/-- TYPE value (R471). -/
def typeCode : PktType → Nat
  | .mladyx => 0x01 | .beacon => 0x02 | .fuse => 0x03 | .census => 0x04 | .collAbort => 0x05
  | .rdReq => 0x08 | .wrReq => 0x09 | .atomReq => 0x0A | .pageReq => 0x0B | .creditDraw => 0x0C
  | .rdRsp => 0x10 | .wrAck => 0x11 | .atomRsp => 0x12 | .pageData => 0x13 | .creditGrant => 0x14 | .refuse => 0x15
  | .chunk => 0x18 | .move => 0x1A

/-- The class VC of a TYPE (R447, R471). -/
def typeVc : PktType → Nat
  | .mladyx | .beacon | .fuse | .census | .collAbort => 0
  | .rdReq | .wrReq | .atomReq | .pageReq | .creditDraw => 3
  | .rdRsp | .wrAck | .atomRsp | .pageData | .creditGrant | .refuse => 1
  | .chunk => 2
  | .move => 4

/-- A packet's VC fits its TYPE; chunks and moves may also use a private channel (R451, R453, R471). -/
def vcFits (p : Packet) : Bool :=
  p.vc.1 == typeVc p.typ || ((p.typ == .chunk || p.typ == .move) && decide (5 ≤ p.vc.1))

/-- The 56 bits of a packet header (R470). -/
def headerBits (p : Packet) (start : Nat) : BitVec 56 :=
  BitVec.ofNat 56 (2 ^ 55 + p.vc.1 * 2 ^ 52 + typeCode p.typ * 2 ^ 47 + p.dst.toNat * 2 ^ 35 + p.src.toNat * 2 ^ 23 +
    p.wing.1 * 2 ^ 19 + pktLen p * 2 ^ 11 + start * 2 ^ 6 + (if p.typ = .mladyx then p.seq.toNat else 0))

/-- The seven bytes of a header place: zero where no packet starts (R469). -/
def headerBytes (f : Frame) (i : Nat) : List Byte :=
  match f.heads[i]? with
  | some h => leBytes 7 (headerBits h.pkt h.start).toNat
  | none => List.replicate 7 0

def credCode (c : CreditRet) : Nat := c.cls.1 * 8 + c.vc.1

/-- Bytes 4-29 of a control flit; `lcrc` is the CRC-32C of the previous frame's data (R469). -/
def controlBody (f : Frame) (lcrc : W32) : List Byte :=
  [BitVec.ofNat 8 (b2n f.locked * 128 + f.fseq.toNat), BitVec.ofNat 8 (b2n f.nak * 128 + f.ackSeq.toNat),
   BitVec.ofNat 8 (f.echo.toNat * 32 + b2n f.train * 16 + f.owner.1),
   BitVec.ofNat 8 (credCode f.creditB * 16 + credCode f.creditA), f.creditA.count, f.creditB.count] ++
  leBytes 2 f.echoT.toNat ++ headerBytes f 0 ++ headerBytes f 1 ++ leBytes 4 lcrc.toNat

/-- One bit of the CRC-16 of a control flit, most significant bit first: x^16 + x^12 + x^5 + 1 (R443). -/
def crc16Bit (c : Nat) : Nat := if c.testBit 15 then (c * 2 % 65536) ^^^ 0x1021 else c * 2 % 65536

/-- CRC-16, initial value 0xFFFF, no reflection (R443). -/
def crc16 (l : List Byte) : W16 :=
  BitVec.ofNat 16 (l.foldl (fun c b => (List.range 8).foldl (fun c _ => crc16Bit c) (c ^^^ b.toNat * 256)) 0xFFFF)

/-- The 32 bytes of a control flit (R469). -/
def controlFlit (f : Frame) (lcrc : W32) : List Byte :=
  let b := controlBody f lcrc
  [0xE1, 0x96, 0x3C, 0x5A] ++ b ++ leBytes 2 (crc16 b).toNat

/-- Scrambler state at a marker (R435). -/
def scrambleSeed (fseq : BitVec 7) : BitVec 31 := BitVec.ofNat 31 (fseq.toNat * 2 ^ 24 + (2 ^ 24 - 1))

/-- One step of the scrambler: the bit b and the next state (R435). -/
def scrambleStep (st : BitVec 31) : Bool × BitVec 31 :=
  let b := st.getLsbD 30 ^^ st.getLsbD 27
  (b, (st <<< 1) ||| BitVec.ofNat 31 (b2n b))

/-- Data bits scrambled in transmission order; the same sequence removes it (R435). -/
def scrambleBits : BitVec 31 → List Bool → List Bool
  | _, [] => []
  | st, x :: xs => (x ^^ (scrambleStep st).1) :: scrambleBits (scrambleStep st).2 xs

/-- Gray level of a symbol's two bits (R433). -/
def grayLevel (hi lo : Bool) : Nat := match hi, lo with
  | false, false => 0 | false, true => 1 | true, true => 2 | true, false => 3

/-- Lane, among those in use, and position of frame byte `k` with `l` lanes (R433). -/
def lanePlace (k l : Nat) : Nat × Nat := (k % l, k / l)

/-! ### States of a Doorway (R439) -/

/-- A Doorway's state; its clock is stopped while it is ABSENT (R474, R539). -/
def setDoorSt (s : State) (d : DoorId) (st : DoorSt) : State :=
  let bit : BitVec 17 := 1 <<< (11 + d.1)
  (s.onDoor d fun x => { x with st := st }).onSys fun y =>
    { y with clkRunning := if st = .absent then y.clkRunning &&& ~~~bit else y.clkRunning ||| bit }

/-- The Doorway that faces this one across a link (R432, R442). -/
def opposite (d : DoorId) : DoorId := doorOf (doorDim d) (!doorPlus d)

/-- A census answer: address, source, serial and what each Doorway's peer sent (R456). -/
def ownAnswer (s : State) : CensusAns :=
  { addr := s.fabric.devAddr, assigned := s.fabric.addrSource, serial := s.thr.fuses.serial,
    neighbours := (List.finRange 6).map fun d =>
      if (s.door d).st = .up then (s.door d).peer.map fun e => (e.addr, e.serialLow) else none }

/-- Bytes of a census answer. The spec leaves their places open (R471). -/
def answerBytes (a : CensusAns) : List Byte :=
  leBytes 2 a.addr.toNat ++ leBytes 1 (b2n a.assigned) ++ leBytes 8 a.serial.toNat ++
    (a.neighbours.map fun n => match n with
      | some (d, l) => [1] ++ leBytes 2 d.toNat ++ leBytes 4 l.toNat
      | none => List.replicate 7 0).flatten

def parseAnswer (b : List Byte) : CensusAns :=
  { addr := BitVec.ofNat 12 (fieldAt b 0 2), assigned := fieldAt b 2 1 == 1, serial := BitVec.ofNat 64 (fieldAt b 3 8),
    neighbours := (List.range 6).map fun i =>
      if fieldAt b (11 + 7 * i) 1 = 1 then
        some (BitVec.ofNat 12 (fieldAt b (12 + 7 * i) 2), BitVec.ofNat 32 (fieldAt b (14 + 7 * i) 4)) else none }

/-- Kinds of census packets: query, answer, result (R456). -/
def censusQuery : Nat := 0
def censusAnswer : Nat := 1
def censusResult : Nat := 2

/-- A census packet for the peer of an UP Doorway. -/
def censusOn (s : State) (d : DoorId) (kind : Nat) (epoch : W16) (data : List Byte) : State :=
  if (s.door d).st = .up then
    s.onDoor d fun x => { x with txq := x.txq ++ [{ cls := 0, from_ := none, pkt :=
      { Packet.mgmt .census s.fabric.devAddr s.fabric.devAddr data with tag := epoch, param := kind } }] }
  else s

/-- A census packet through every UP Doorway but one (R456). -/
def flood (s : State) (but : Option DoorId) (kind : Nat) (epoch : W16) (data : List Byte) : State :=
  (List.finRange 6).foldl (fun s d => if some d = but then s else censusOn s d kind epoch data) s

/-- The census starts: a new epoch, a query through every UP Doorway (R455, R456). -/
def startCensus (s : State) : State :=
  let s1 := s.onFabric fun f =>
    { f with epoch := f.epoch + 1, censusSt := .running, answers := [], upstream := none, resultTaken := false }
  flood s1 none censusQuery s1.fabric.epoch (leBytes 2 s1.fabric.devAddr.toNat)

/-- A Doorway went UP or left it: the master repeats the census, a member reports its Doorways to the master (R458). -/
def doorChanged (s : State) : State :=
  if s.fabric.isMaster then startCensus s
  else match s.fabric.upstream with
    | some d => censusOn s d censusAnswer s.fabric.epoch (answerBytes (ownAnswer s))
    | none => s

/-- A Doorway leaves UP: queued packets are discarded and counted, the replay buffer is dropped (R464). -/
def leaveUp (s : State) (d : DoorId) (st : DoorSt) : State :=
  let x := s.door d
  if x.st ≠ .up then setDoorSt s d st
  else
    let s1 := x.txq.foldl (fun s p => match p.from_ with | some (e, c) => oweCredits s e c p.pkt | none => s) s
    doorChanged (setDoorSt (s1.onDoor d fun x =>
      { x with txq := [], sending := [], reasm := [], replay := [], replayNext := [], rxHeld := none, rxError := false,
               nak := false, noProgress := 0, neighbour := none, peerLocked := false, creditsDue := [],
               echoSent := none, echoDue := none, echoAsk := false,
               discards := satAdd x.discards (x.txq.length + x.sending.length) }) d st)

/-- A condition of a Doorway: UNIT is its number (R122, R592). -/
def logDoor (s : State) (d : DoorId) (c : Cond) (detail : W32) : State := logCond s c 0xFF (BitVec.ofNat 8 d.1) detail

/-- A stage failed or a Doorway is miswired: DOWN (R440, R442, R445). -/
def goDown (s : State) (d : DoorId) (c : Cond) (detail : W32) : State :=
  logDoor (leaveUp s d .down) d c detail

/-- TRAINING begins with DETECT (R440). -/
def beginTraining (s : State) (d : DoorId) : State :=
  (leaveUp s d .training).onDoor d fun x =>
    { x with stage := .detect, rxLocked := false, searching := false, lockHits := 0, lockCrcOk := 0, peer := none }

/-- An UP Doorway returns to TRAINING with 0x0B0C; the third time within 10 s it goes DOWN with 0x0B05 (R444, R445). -/
def retrain (s : State) (d : DoorId) : State :=
  let now := s.thr.us.toNat
  let recent := now :: (s.door d).retrains.filter fun t => decide (now < t + 10000000)
  let s1 := logDoor (s.onDoor d fun x => { x with retrains := recent, rxLocked := false, lockHold := true }) d 0x0B0C 0
  if 3 ≤ recent.length then goDown s1 d 0x0B05 0 else beginTraining s1 d

/-- Frames are sent and received: from LOCK onward in TRAINING, in UP and in DOWN (R434, R439). -/
def framesGo (x : Doorway) : Bool :=
  match x.st with
  | .up | .down => true
  | .training => x.stage == .lock || x.stage == .exchange
  | .absent => false

/-! ### Credits (R448) -/

def credGet (x : Doorway) (v : Fin 8) (c : Fin 2) : Nat := if c = 0 then (x.credits.get v).1 else (x.credits.get v).2

/-- Credits come back, up to the 224 and 32 that the peer's buffers have. -/
def credAdd (x : Doorway) (v : Fin 8) (c : Fin 2) (n : Nat) : Doorway :=
  { x with credits := vmod x.credits v fun k => if c = 0 then (min 224 (k.1 + n), k.2) else (k.1, min 32 (k.2 + n)) }

def credTake (x : Doorway) (v : Fin 8) (c : Fin 2) (n : Nat) : Doorway :=
  { x with credits := vmod x.credits v fun k => if c = 0 then (k.1 - n, k.2) else (k.1, k.2 - n) }

/-- A return of a control flit taken. -/
def takeCredit (x : Doorway) (r : CreditRet) : Doorway := credAdd x r.vc r.cls r.count.toNat

/-! ### Frames sent (R434, R437, R450, R452) -/

/-- The wing in a packet's header; a MLADYX packet has its SEGMENT there and belongs to wing 0 (R470). -/
def pktWing (p : Packet) : WingId := if p.typ = .mladyx then 0 else p.wing

/-- Frames of a superframe that a wing owns (R450). -/
def doorShares (s : State) : WingId → Nat := withHouse fun w =>
  if (s.wing w).st.exists_ then (s.wing w).doorShare.toNat else 0

/-- The wing whose frames carry a queued packet (R450). -/
def frameWing (s : State) (p : TxPacket) : WingId :=
  let w := pktWing p.pkt
  if p.from_.isSome ∧ !((s.wing w).st.exists_ && (s.wing w).doorShare != 0) then 0 else w

/-- The oldest packet of a VC, class and wing. -/
def headOf (s : State) (d : DoorId) (w : WingId) (v : Fin 8) (c : Fin 2) : Option TxPacket :=
  (s.door d).txq.find? fun p => p.pkt.vc == v && p.cls == c && frameWing s p == w

/-- The next packet of a wing that has its credits: VCs lowest first (R448, R450). -/
def nextPacket (s : State) (d : DoorId) (w : WingId) : Option TxPacket :=
  (List.finRange 8).findSome? fun v => (List.finRange 2).findSome? fun c =>
    (headOf s d w v c).filter fun p => decide (max 1 (pktLen p.pkt) ≤ credGet (s.door d) v c)

/-- A wing has data flits for a frame: a packet begun, or one that can start. -/
def waitingWing (s : State) (d : DoorId) (w : WingId) : Bool :=
  ((s.door d).sending.any fun p => p.1 == w) || (nextPacket s d w).isSome

/-- The channels of a Doorway whose oldest packet of a class waits for credits (R29, R448). -/
def stalledVcs (x : Doorway) : Nat :=
  (List.finRange 8).countP fun v => (List.finRange 2).any fun c =>
    (x.txq.find? fun p => p.pkt.vc == v && p.cls == c).any fun p => decide (credGet x v c < max 1 (pktLen p.pkt))

/-- The OWNER of the next frame: the wing whose turn it is, or the lowest non-isolated wing that borrows it (R48, R450). -/
def frameOwner (s : State) (d : DoorId) : WingId × Vector Int 16 :=
  let r := rotate (s.door d).rot (doorShares s)
  if waitingWing s d r.1 || (s.wing r.1).isolated then r
  else (((List.finRange 16).find? fun w => !(s.wing w).isolated && waitingWing s d w).getD r.1, r.2)

/-- A queued packet starts in a frame: its credits are taken, its buffers here are free; what does not fit is sent in
later frames of the wing. -/
def startPacket (s : State) (d : DoorId) (w : WingId) (p : TxPacket) (room : Nat) : State :=
  let n := pktLen p.pkt
  let s1 := s.onDoor d fun x =>
    { credTake x p.pkt.vc p.cls (max 1 n) with
      txq := x.txq.erase p,
      sending := if room < n then x.sending ++ [(w, { pkt := p.pkt, cls := p.cls, left := n - room })] else x.sending }
  match p.from_ with
  | some (e, c) => oweCredits s1 e c p.pkt
  | none => s1

/-- Headers of a frame, at most two, from data flit `at_` on; with the data flits used (R452). -/
def fillFrame (fuel : Nat) (s : State) (d : DoorId) (w : WingId) (at_ : Nat) (heads : List FrameHead) :
    State × Nat × List FrameHead :=
  match fuel with
  | 0 => (s, at_, heads)
  | fuel + 1 =>
    if 32 ≤ at_ then (s, at_, heads)
    else match nextPacket s d w with
      | none => (s, at_, heads)
      | some p => fillFrame fuel (startPacket s d w p (32 - at_)) d w (at_ + min (pktLen p.pkt) (32 - at_))
          (heads ++ [{ pkt := p.pkt, cls := p.cls, start := at_, malformed := false }])

/-- The data flits of the packet that the wing has begun. -/
def continuePacket (x : Doorway) (w : WingId) : Nat × Doorway :=
  match x.sending.find? fun p => p.1 == w with
  | some p =>
    let n := min 32 p.2.left
    (n, { x with sending := if p.2.left ≤ 32 then x.sending.erase p
                            else x.sending.map fun q => if q = p then (w, { p.2 with left := p.2.left - n }) else q })
  | none => (0, x)

def noCredit : CreditRet := { cls := 0, vc := 0, count := 0 }

/-- A credit return of the list of those due. -/
def creditRet (l : List (Fin 8 × Fin 2 × Nat)) (i : Nat) : CreditRet :=
  match l[i]? with
  | some (v, c, n) => { cls := c, vc := v, count := BitVec.ofNat 8 n }
  | none => noCredit

/-- What every control flit says of this end: lock, acknowledgement and echo at local time `t` (R437, R444, R446, R469). -/
def stampFrame (x : Doorway) (f : Frame) (t : W16) : Frame :=
  let g := { f with locked := x.rxLocked, nak := x.nak, ackSeq := x.rxSeq, echo := 0, echoT := 0 }
  match x.echoDue with
  | some a => { g with echo := 2, echoT := a + t }
  | none => if x.echoAsk then { g with echo := 1, echoT := t } else g

/-- The one-time parts of a control flit have been sent. -/
def stamped (x : Doorway) (t : W16) : Doorway :=
  { x with nak := false, peerAge := x.peerAge + 1, echoDue := none,
           echoSent := if x.echoDue.isNone ∧ x.echoAsk then some t else x.echoSent,
           echoAsk := if x.echoDue.isNone then false else x.echoAsk }

/-- A frame with no packets. -/
def emptyFrame (s : State) (d : DoorId) (owner : WingId) : Frame :=
  let x := s.door d
  { fseq := x.fseq, locked := false, nak := false, ackSeq := 0, echo := 0, echoT := 0, train := x.st != .up,
    owner := owner, creditA := noCredit, creditB := noCredit, heads := [], flits := 0,
    exch := if x.st = .training ∧ x.stage = .exchange then
      some { door := d, addr := s.fabric.devAddr, addrSource := s.fabric.addrSource, candidate := s.fabric.candidate,
             serialLow := s.thr.fuses.serial.setWidth 32, lanes := x.laneMask }
      else none }

/-- A frame goes out, stamped. -/
def emitFrame (s : State) (d : DoorId) (f : Frame) (t : W16) : State :=
  ((s.onDoor d fun x => stamped x t).send (.frame d (stampFrame (s.door d) f t)))

/-- Payload may be placed in frames (R437). -/
def payloadOk (x : Doorway) : Bool := x.st == .up && x.peerLocked && decide (x.peerAge ≤ 4)

/-- A new frame of an UP Doorway: owner, packets and credit returns; it is kept for replay (R444, R448, R450, R452). -/
def upFrame (s : State) (d : DoorId) (t : W16) : State :=
  let o := frameOwner s d
  let s1 := (s.onDoor d fun x => { x with rot := o.2 }).onSys fun y =>
    { y with stallDoor := vmod y.stallDoor d fun n => satAdd n (stalledVcs (s.door d)) }
  let go := payloadOk (s.door d)
  let c := if go then continuePacket (s1.door d) o.1 else (0, s1.door d)
  let s2 := s1.onDoor d fun _ => c.2
  let r := if go then fillFrame 2 s2 d o.1 c.1 [] else (s2, 0, [])
  let due := (r.1.door d).creditsDue
  let f := { emptyFrame r.1 d o.1 with heads := r.2.2, flits := r.2.1, creditA := creditRet due 0, creditB := creditRet due 1 }
  let s3 := r.1.onDoor d fun x =>
    { x with fseq := x.fseq + 1, replay := x.replay ++ [f], creditsDue := x.creditsDue.drop 2 }
  emitFrame s3 d f t

/-- DW_FRAME_SEND: one frame interval of a Doorway, at echo time `t`: a replayed frame, the oldest of 64 unacknowledged
ones, or a new one; a training frame outside UP (R434, R439, R444). -/
def execDwFrameSend (d : DoorId) (t : W16) (s : State) : Res :=
  let x := s.door d
  if !framesGo x || s.sys.inReset then .next s
  else if x.st ≠ .up then
    .next (emitFrame (s.onDoor d fun x => { x with fseq := x.fseq + 1 }) d (emptyFrame s d 0) t)
  else match x.replayNext, x.replay with
    | f :: rest, _ => .next (emitFrame (s.onDoor d fun x => { x with replayNext := rest }) d f t)
    | [], f :: _ => if 64 ≤ x.replay.length then .next (emitFrame s d f t) else .next (upFrame s d t)
    | [], [] => .next (upFrame s d t)

/-! ### Frames received (R436, R443, R444, R451-R453) -/

/-- Packets that are handled by each device they reach: beacons and census queries and results (R456, R460). -/
def hopPacket (p : Packet) : Bool := p.typ == .beacon || p.typ == .census

/-- A packet is discarded, counted and logged (R451, R453). -/
def discardPacket (s : State) (d : DoorId) (cls : Fin 2) (p : Packet) : State :=
  logDoor ((oweCredits s d cls p).onDoor d fun x => { x with discards := satAdd x.discards 1 }) d 0x0B0A 0

/-- A packet released by a Doorway: delivered here, sent on, or discarded (R443, R451, R453, R454, R461, R464). -/
def releasePacket (s : State) (d : DoorId) (cls : Fin 2) (malformed : Bool) (p : Packet) : State :=
  if malformed || !vcFits p || (decide (5 ≤ p.vc.1) && p.dst != s.fabric.devAddr) then discardPacket s d cls p
  else if s.fabric.assignWait ∧ p.vc ≠ 0 then oweCredits s d cls p
  else if p.dst = s.fabric.devAddr ∨ hopPacket p then
    s.onFabric fun f => { f with inbox := f.inbox ++ [{ door := d, cls := cls, pkt := p }] }
  else match nextHop s p.dst with
    | some e => enqueue s e p (some (d, cls))
    | none => (oweCredits s d cls p).onDoor d fun x => { x with discards := satAdd x.discards 1 }

/-- Packets whose headers are in a frame: each is released when all its data flits are in (R452). -/
def takeHeads (s : State) (d : DoorId) (w : WingId) (heads : List FrameHead) : State :=
  heads.foldl (fun s h =>
    let n := pktLen h.pkt
    if n ≤ 32 - h.start then releasePacket s d h.cls h.malformed h.pkt
    else s.onDoor d fun x =>
      { x with reasm := x.reasm ++ [(w, { pkt := h.pkt, cls := h.cls, left := n - (32 - h.start) })] }) s

/-- A frame received good and in order: credit returns, the packet being reassembled, new packets (R443, R448, R452). -/
def acceptFrame (s : State) (d : DoorId) (f : Frame) : State :=
  let s1 := s.onDoor d fun x =>
    { takeCredit (takeCredit x f.creditA) f.creditB with rxSeq := f.fseq, rxError := false }
  let s2 := match (s1.door d).reasm.find? fun p => p.1 == f.owner with
    | some p =>
      let s2 := s1.onDoor d fun x => { x with reasm := x.reasm.erase p }
      if p.2.left ≤ f.flits then releasePacket s2 d p.2.cls false p.2.pkt
      else if f.flits = 0 then s1
      else s2.onDoor d fun x => { x with reasm := x.reasm ++ [(f.owner, { p.2 with left := p.2.left - f.flits })] }
    | none => s1
  takeHeads s2 d f.owner f.heads

/-- A frame that is not good is counted, and NAK goes out once for the error (R443, R444). -/
def badFrame (s : State) (d : DoorId) : State :=
  s.onDoor d fun x =>
    { x with crcErrors := satAdd x.crcErrors (if x.rxHeld.isSome then 2 else 1), rxHeld := none,
             nak := x.nak || !x.rxError, rxError := true }

/-- The frame before this control flit is decided by its LCRC (R443, R444). -/
def decideHeld (s : State) (d : DoorId) (lcrcOk : Bool) : State :=
  let x := s.door d
  match x.rxHeld with
  | none => s
  | some g =>
    if !lcrcOk then
      s.onDoor d fun x => { x with crcErrors := satAdd x.crcErrors 1, rxHeld := none, nak := x.nak || !x.rxError, rxError := true }
    else if g.train then s.onDoor d fun x => { x with rxHeld := none, rxSeq := g.fseq, rxError := false }
    else if g.fseq = x.rxSeq + 1 then acceptFrame (s.onDoor d fun x => { x with rxHeld := none }) d g
    else s.onDoor d fun x => { x with rxHeld := none }

/-- Frames up to ACKSEQ are acknowledged (R444). -/
def takeAck (x : Doorway) (a : BitVec 7) : Doorway :=
  match x.replay.findIdx? fun f => f.fseq == a with
  | some i =>
    let left := x.replay.drop (i + 1)
    { x with replay := left, replayNext := x.replayNext.filter (left.contains ·), noProgress := 0 }
  | none => x

/-- A replay from ACKSEQ + 1; after eight in a row without progress the Doorway retrains (R444). -/
def startReplay (s : State) (d : DoorId) : State :=
  let x := s.door d
  if x.st ≠ .up ∨ x.replay = [] then s
  else if 8 ≤ x.noProgress then retrain s d
  else s.onDoor d fun x =>
    { x with replayNext := x.replay, retries := satAdd x.retries 1, noProgress := x.noProgress + 1 }

/-- The echo fields of a control flit that came at local time `t` (R446). -/
def takeEcho (x : Doorway) (f : Frame) (t : W16) : Doorway :=
  if f.echo = 1 then { x with echoDue := some (f.echoT - t) }
  else if f.echo = 2 then
    match x.echoSent with
    | some t0 => { x with echoSent := none, delay := ((t - t0) - (f.echoT - t0)) >>> 1 }
    | none => x
  else x

/-- The receiver loses lock: LOCKED goes to 0 at once; an UP Doorway retrains (R436, R437, R439). -/
def loseLock (s : State) (d : DoorId) : State :=
  let s1 := s.onDoor d fun x =>
    { x with rxLocked := false, lockHold := true, searching := false, absentMarks := 0, rxHeld := none }
  match (s.door d).st with
  | .up => retrain s1 d
  | .training => s1.onDoor d fun x => { x with stage := .lock }
  | _ => s1

/-- One frame interval of a search with the marker at the candidate offset: the eighth declares lock when at least seven
control flits were correct (R436). -/
def searchHit (x : Doorway) (f : Frame) (crcOk : Bool) : Doorway :=
  if !x.searching then x
  else
    let ok := x.lockCrcOk + b2n crcOk
    if x.lockHits + 1 < 8 then { x with lockHits := x.lockHits + 1, lockCrcOk := ok }
    else if 7 ≤ ok then
      { x with rxLocked := true, searching := false, lockHits := 0, lockCrcOk := 0, absentMarks := 0, rxSeq := f.fseq,
               rxHeld := none, rxError := false }
    else { x with lockHits := 0, lockCrcOk := 0 }

/-- DW_FRAME_RECEIVED: a frame with its marker at the locked or candidate offset, whether its CRC-16 is correct and its
LCRC matches the frame before, at echo time `t` (R436, R437, R443-R446). -/
def execDwFrameReceived (d : DoorId) (f : Frame) (crcOk lcrcOk : Bool) (t : W16) (s : State) : Res :=
  let x := s.door d
  if !framesGo x || s.sys.inReset then .next s
  else if !x.rxLocked then .next (s.onDoor d fun x => searchHit x f crcOk)
  else if !crcOk then .next (badFrame (s.onDoor d fun x => { x with absentMarks := 0 }) d)
  else
    let s1 := s.onDoor d fun x =>
      takeEcho (takeAck { x with absentMarks := 0, peerLocked := f.locked, peerAge := 0,
                                 peer := if f.exch.isSome then f.exch else x.peer } f.ackSeq) f t
    let s2 := decideHeld s1 d lcrcOk
    let s3 := s2.onDoor d fun x => { x with rxHeld := if x.st = .absent then none else some f }
    .next (if f.nak then startReplay s3 d else s3)

/-- MARKER_ABSENT: a frame interval without the marker: a frame that is not good; the fourth in a row loses lock; in a
search the candidate offset is dropped (R436). -/
def execMarkerAbsent (d : DoorId) (s : State) : Res :=
  let x := s.door d
  if !framesGo x || s.sys.inReset then .next s
  else if x.rxLocked then
    let s1 := (badFrame s d).onDoor d fun x => { x with absentMarks := x.absentMarks + 1 }
    .next (if 3 ≤ x.absentMarks then loseLock s1 d else s1)
  else .next (s.onDoor d fun x => { x with lockHits := 0, lockCrcOk := 0 })

/-- LOCK_SEARCH_START: 64 frame intervals after lock was lost the receiver may search (R437). -/
def execLockSearchStart (d : DoorId) (s : State) : Res :=
  .next (s.onDoor d fun x =>
    if x.lockHold then
      { x with lockHold := false, searching := !x.rxLocked && framesGo x, lockHits := 0, lockCrcOk := 0 }
    else x)

/-- REPLAY_TIMEOUT: ACKSEQ has not advanced for 1 µs (R444). -/
def execReplayTimeout (d : DoorId) (s : State) : Res := .next (startReplay s d)

/-- DW_ECHO: every 16 mains cycles an UP Doorway asks for an echo in its next control flit (R446). -/
def execDwEcho (d : DoorId) (s : State) : Res :=
  if (s.door d).st = .up then .next (s.onDoor d fun x => { x with echoAsk := true }) else .next s

/-! ### Training (R439-R442) -/

/-- DW_SIGNAL_DETECT: an ABSENT, enabled Doorway looks for a signal, from stage FABRIC on (R439, R555, R576). -/
def execDwSignalDetect (d : DoorId) (signal : Bool) (s : State) : Res :=
  if (s.door d).st = .absent ∧ s.fabric.en.getLsbD d.1 ∧ signal ∧ !s.sys.inReset ∧
      !s.sys.resetHeld.getLsbD (11 + d.1) ∧ 7 ≤ s.sys.bootStage.toNat ∧ s.sys.bootStage.toNat ≤ 10 then .next (beginTraining s d) else .next s

/-- The lane set of the lanes that passed EQUALISE (R441). -/
def laneSet (p : BitVec 4) : BitVec 4 :=
  if p = 15 then 15
  else if p.getLsbD 0 && p.getLsbD 1 then 3
  else if p.getLsbD 2 && p.getLsbD 3 then 12
  else match onesOf p with
    | l :: _ => 1 <<< l.1
    | [] => 0

/-- The set that both ends use: the smaller, lanes 0-1 before lanes 2-3 (R441). -/
def agreeLanes (a b : BitVec 4) : BitVec 4 :=
  if popCount a < popCount b then a
  else if popCount b < popCount a then b
  else if a.toNat ≤ b.toNat then a else b

/-- The Doorway enters UP with the peer's parameters: all credits at hand, nothing owed (R442, R448). -/
def enterUp (s : State) (d : DoorId) (e : Exchange) : State :=
  doorChanged (setDoorSt ((resendChunks s fun c => c.succ == e.addr).onDoor d fun x =>
    { x with neighbour := some e.addr, laneMask := agreeLanes x.laneMask e.lanes, credits := Vector.replicate 8 (224, 32),
             creditsDue := [], noProgress := 0, rxError := false }) d .up)

/-- Codes of the stages as DETAIL and DW_STATUS give them, in the order of R440. -/
def stageCode : TrainStage → Nat
  | .detect => 0 | .equalise => 1 | .align => 2 | .lock => 3 | .exchange => 4

/-- TRAINING_STAGE_DONE: a stage's work is done, for EQUALISE with the lanes that passed; LOCK ends only with lock
declared, EXCHANGE only with the peer's parameters; a peer that is not the opposite Doorway is refused with 0x0B09
(R440-R442). -/
def execTrainingStageDone (d : DoorId) (pass : BitVec 4) (s : State) : Res :=
  let x := s.door d
  if x.st ≠ .training ∨ s.sys.inReset then .next s
  else match x.stage with
    | .detect => .next (s.onDoor d fun x => { x with stage := .equalise })
    | .equalise =>
      if laneSet pass = 0 then .next (goDown s d 0x0B01 (BitVec.ofNat 32 (stageCode .equalise)))
      else .next (s.onDoor d fun x => { x with stage := .align, laneMask := laneSet pass })
    | .align => .next (s.onDoor d fun x =>
        { x with stage := .lock, searching := !x.lockHold, lockHits := 0, lockCrcOk := 0 })
    | .lock => if x.rxLocked then .next (s.onDoor d fun x => { x with stage := .exchange }) else .next s
    | .exchange =>
      match x.peer with
      | none => .next s
      | some e => if e.door ≠ opposite d then .next (goDown s d 0x0B09 0) else .next (enterUp s d e)

/-- TRAINING_STAGE_TIMEOUT: a stage exceeds its bound (R440). -/
def execTrainingStageTimeout (d : DoorId) (s : State) : Res :=
  let x := s.door d
  if x.st = .training then .next (goDown s d 0x0B01 (BitVec.ofNat 32 (stageCode x.stage))) else .next s

/-- DW_DOWN_RETRY: every 100 ms a DOWN Doorway trains again (R439). -/
def execDwDownRetry (d : DoorId) (s : State) : Res :=
  if (s.door d).st = .down ∧ s.fabric.en.getLsbD d.1 then .next (beginTraining s d) else .next s

/-- DW_FAB_CTRL_EN: EN written; Doorways with EN 0 are powered down (R439, R473). -/
def dwFabCtrlEnOp (en : BitVec 6) (s : State) : Res :=
      .next ((List.finRange 6).foldl (fun s d =>
      if !en.getLsbD d.1 ∧ (s.door d).st ≠ .absent then
        (leaveUp s d .absent).onDoor d fun x => { x with rxLocked := false, searching := false }
      else s) (s.onFabric fun f => { f with en := en }))

/-- DW_FAB_CTRL_EN as a BAR access of the host (R151, R157, R549). -/
def execDwFabCtrlEn (en : BitVec 6) (s : State) : Res := barGo s (bar0 0x150000 en.toNat) 1 (dwFabCtrlEnOp en s)

/-! ### Private channels and routing overrides (R451, R463, R473) -/

/-- The VC of a move or chunk: the private channel of the neighbour's Doorway when the wing holds one (R451). -/
def moveVc (s : State) (w : WingId) (dst : DevAddr) (dflt : Fin 8) : Fin 8 :=
  match nextHop s dst with
  | some d =>
    if (s.door d).neighbour ≠ some dst then dflt
    else match lowest (s.door d).claims fun _ c => c.held && c.wing == w with
      | some p => ⟨5 + p.1, by omega⟩
      | none => dflt
  | none => dflt

/-- DW_VC_CLAIM: VC 5 + p of a Doorway for a wing (R45, R451). -/
def dwVcClaimOp (d : DoorId) (p : Fin 3) (w : WingId) (s : State) : Res :=
  let named := s.onDoor d fun x => { x with claims := vmod x.claims p fun c => { c with wing := w } }
  if ((s.door d).claims.get p).held then .next (ringCond s 0 0x0B03)
  else if doorShares s w = 0 then .next (ringCond named 0 0x0102)
  else .next (s.onDoor d fun x => { x with claims := vset x.claims p ⟨true, w⟩ })

/-- DW_VC_CLAIM as a BAR access of the host (R151, R157, R549). -/
def execDwVcClaim (d : DoorId) (p : Fin 3) (w : WingId) (s : State) : Res :=
  barGo s (bar0 (0x150100 + d.1 * 16 + p.1 * 4) (256 + w.1)) 1 (dwVcClaimOp d p w s)

/-- DW_VC_RELEASE: the wing named frees its private channel (R14, R451). -/
def dwVcReleaseOp (d : DoorId) (p : Fin 3) (w : WingId) (s : State) : Res :=
  let c := (s.door d).claims.get p
  if c.held ∧ c.wing = w then .next (s.onDoor d fun x => { x with claims := vset x.claims p ⟨false, w⟩ })
  else .next (ringCond (if c.held then s else s.onDoor d fun x => { x with claims := vset x.claims p ⟨false, w⟩ }) 0 0x0102)

/-- DW_VC_RELEASE as a BAR access of the host (R151, R157, R549). -/
def execDwVcRelease (d : DoorId) (p : Fin 3) (w : WingId) (s : State) : Res :=
  barGo s (bar0 (0x150100 + d.1 * 16 + p.1 * 4) (512 + w.1)) 1 (dwVcReleaseOp d p w s)

/-- DW_ROUTE_WRITE: a routing override; DOORWAY 6, or EN with MASK 0, is refused with 0x0B0B (R463, R473). -/
def dwRouteWriteOp (n : Fin 64) (v : W32) (s : State) : Res :=
  if v.toNat / 2 ^ 28 % 8 = 6 ∨ (v.getLsbD 31 = true ∧ v.toNat / 65536 % 4096 = 0) then .next (ringCond s 0 0x0B0B)
  else
    let s1 := if v.toNat / 4096 % 16 = 0 then s else countReserved s 1
    .next (s1.onFabric fun f => { f with routes := vset f.routes n (v &&& 0xFFFF0FFF) })

/-- DW_ROUTE_WRITE as a BAR access of the host (R151, R157, R549). -/
def execDwRouteWrite (n : Fin 64) (v : W32) (s : State) : Res :=
  barGo s (bar0 (0x150400 + 4 * n.1) v.toNat) 1 (dwRouteWriteOp n v s)

end Sys2Proof.Machine
end

