-- ==== Sys2Proof/Machine/RoomOps.lean ====
section
/-!
DEFINITION. Machine/RoomOps.lean: a Room's data queues (R311-R314), handle queues and links (R315-R321), Pantry ranges and
task window (R309, R310), watches (R322, R326-R328), gangs (R323-R325) and debug access (R308).
-/
namespace Sys2Proof.Machine
open Sys2Proof

/-! ### Data queues (R311-R314) -/

/-- What an agent's access comes to: done, a wait with a BLOCK_REASON, or a fault that halts the Room. -/
inductive Tried (α : Type) where
  | done (x : α)
  | wait (why : BlockReason)
  | fault (cond : Cond)
  deriving DecidableEq, Repr

def DataQ.isFull (q : DataQ) : Bool := decide (16 ≤ q.entries.length)

/-- A push. `counted` is a stream's push in counted mode: onto a full queue it overwrites the newest entry and sets
OVERRUN (R312-R314). -/
def dqPush (x : Room) (q : Fin 6) (v : W64) (tok : Byte) (counted : Bool) : Tried Room :=
  let d := x.queues.get q
  if !d.isFull then
    .done { x with queues := vset x.queues q { d with entries := d.entries ++ [(v, tok)] }, watchCount := 0 }
  else if counted then
    .done { x with queues := vset x.queues q { d with entries := d.entries.dropLast ++ [(v, tok)] },
                   overrun := x.overrun ||| (1 : BitVec 6) <<< q.1, watchCount := 0 }
  else .wait .dataQueue

/-- A pop. `tok` is the token compared, if one is; `counted` is a stream's pop in counted mode: from an empty queue it
returns the value last popped and sets UNDERRUN (R312-R314). -/
def dqPop (x : Room) (q : Fin 6) (tok : Option Byte) (counted : Bool) : Tried (W64 × Room) :=
  let d := x.queues.get q
  match d.entries with
  | e :: rest =>
    if tok.all (· == e.2) then
      .done (e.1, { x with queues := vset x.queues q { entries := rest, lastPopped := e.1 }, watchCount := 0 })
    else .wait .token
  | [] =>
    if counted then .done (d.lastPopped, { x with underrun := x.underrun ||| (1 : BitVec 6) <<< q.1 })
    else .wait .dataQueue

/-! ### Handle queues (R315-R317) -/

/-- A push of a handle by an agent of the Room (R315-R317). -/
def hqPush (x : Room) (r : RoomId) (q : Fin 32) (h : W32) : Tried Room :=
  let k := x.hqs.get q
  if k.kind = .off ∨ (!handleOk x r q h) = true then .fault 0x0805
  else if 32 ≤ k.handles.length then .wait .handleQueue
  else .done { x with hqs := vset x.hqs q { k with handles := k.handles ++ [h] }, watchCount := 0 }

/-- A pop of a handle by an agent of the Room. -/
def hqPop (x : Room) (q : Fin 32) : Tried (W32 × Room) :=
  let k := x.hqs.get q
  if k.kind = .off then .fault 0x0805
  else match k.handles with
    | h :: rest => .done (h, { x with hqs := vset x.hqs q { k with handles := rest }, watchCount := 0 })
    | [] => .wait .handleQueue

/-! ### Ranges and the task window (R309, R310) -/

/-- Two group ranges share a group. -/
def groupsMeet (p : PRange) (base len : Nat) : Bool :=
  p.held && decide (p.base.toNat < base + len ∧ base < p.base.toNat + p.lenM1.toNat + 1)

/-- ROOM_PR_RESULT of a Room. -/
def setResult (s : State) (r : RoomId) (c : Cond) : State := s.onRoom r fun x => { x with prResult := c }

/-- PANTRY_RANGE_CLAIM: a claim of a range for a task (R309). -/
def pantryRangeClaimOp (r : RoomId) (range : Fin 16) (task : BitVec 4) (base lenM1 : BitVec 11) (s : State) : Res :=
  let x := s.room r
  if (x.ranges.get range).held || x.ranges.toList.any fun p => groupsMeet p base.toNat (lenM1.toNat + 1) then
    .next (setResult s r 0x0803)
  else if 2048 < base.toNat + lenM1.toNat + 1 then .next (setResult s r 0x0802)
  else .next (s.onRoom r fun x =>
    { x with prResult := 0, ranges := vset x.ranges range (PRange.mk true (roomOwner s r) task base lenM1) })

/-- PANTRY_RANGE_CLAIM as a BAR access of the host (R151, R157, R549). -/
def execPantryRangeClaim (r : RoomId) (range : Fin 16) (task : BitVec 4) (base lenM1 : BitVec 11) (s : State) : Res :=
  barGo s (bar0 (roomPage r + 0x10) (2 ^ 30 + range.1 * 2 ^ 26 + task.toNat * 2 ^ 22 + base.toNat * 2 ^ 11 + lenM1.toNat))
    (storeyDomain r) (pantryRangeClaimOp r range task base lenM1 s)

/-- PANTRY_RANGE_RELEASE: the task that holds a range frees it; a task window on the range is gone (R309, R310). -/
def pantryRangeReleaseOp (r : RoomId) (range : Fin 16) (task : BitVec 4) (s : State) : Res :=
  let p := (s.room r).ranges.get range
  if !p.held || p.task != task then .next (setResult s r 0x0102)
  else .next (s.onRoom r fun x =>
    { x with prResult := 0, ranges := vset x.ranges range PRange.init,
             winBase := if x.winLen ≠ 0 ∧ x.taskRange.toNat = range.1 then 0 else x.winBase,
             winLen := if x.taskRange.toNat = range.1 then 0 else x.winLen })

/-- PANTRY_RANGE_RELEASE as a BAR access of the host (R151, R157, R549). -/
def execPantryRangeRelease (r : RoomId) (range : Fin 16) (task : BitVec 4) (s : State) : Res :=
  barGo s (bar0 (roomPage r + 0x10) (2 ^ 31 + range.1 * 2 ^ 26 + task.toNat * 2 ^ 22)) (storeyDomain r)
    (pantryRangeReleaseOp r range task s)

/-- ROOM_TASK_WRITE: the task window is set while both streams are stopped and the task holds the range (R310). -/
def roomTaskWriteOp (r : RoomId) (task range : BitVec 4) (s : State) : Res :=
  let x := s.room r
  let p := x.ranges.get range.toFin
  if x.astream.strm.running || x.xstream.running || !p.held || p.task != task then .next (setResult s r 0x0102)
  else .next (s.onRoom r fun x =>
    { x with prResult := 0, task := task, taskRange := range, winBase := p.base,
             winLen := BitVec.ofNat 12 (p.lenM1.toNat + 1) })

/-- ROOM_TASK_WRITE as a BAR access of the host (R151, R157, R549). -/
def execRoomTaskWrite (r : RoomId) (task range : BitVec 4) (s : State) : Res :=
  barGo s (bar0 (roomPage r + 4) (range.toNat * 16 + task.toNat)) (storeyDomain r) (roomTaskWriteOp r task range s)

/-- A move of a link ends in this queue. -/
def moveInto (s : State) (r : RoomId) (q : Fin 32) : Bool :=
  s.rooms.toList.any fun x => x.hqs.toList.any fun k =>
    k.flight.any fun m => decide (m.remote = none ∧ m.destRoom = r ∧ m.destQ = q)

/-- A ROOM_HQ_CFG word (R330). -/
def hqCfgWord (kind : HqKind) (task : BitVec 4) (destRoom : RoomId) (destQ auxQ : Fin 32) : Nat :=
  (match kind with | .off => 0 | .local => 1 | .send => 2 | .receive => 3) * 2 ^ 30 + task.toNat * 2 ^ 26 +
    destRoom.1 * 2 ^ 21 + destQ.1 * 2 ^ 16 + auxQ.1 * 2 ^ 11

/-- HQ_CONFIG_WRITE: a handle queue is configured, or released by KIND = OFF; not while it holds a handle, nor a SEND or
RECV queue while a move of it is in flight, nor a queue of another task (R315, R330). -/
def hqConfigWriteOp (r : RoomId) (q : Fin 32) (kind : HqKind) (task : BitVec 4) (destRoom : RoomId)
    (destQ auxQ : Fin 32) (s : State) : Res :=
  let k := (s.room r).hqs.get q
  let isLink (x : HqKind) : Bool := x == .send || x == .receive
  let moving : Bool := !k.flight.isEmpty || k.draw.isSome || moveInto s r q
  if !k.handles.isEmpty || ((isLink kind || isLink k.kind) && moving) || (kind == .off && moving) then
    .next (setResult s r 0x0805)
  else if kind ≠ .off ∧ k.kind ≠ .off ∧ k.task ≠ task then .next (setResult s r 0x0803)
  else .next (s.onRoom r fun x =>
    { x with prResult := 0, hqs := vset x.hqs q ({ k with
        kind := kind, task := task, destRoom := destRoom, destQ := destQ, auxQ := auxQ } : HandleQ) })

/-- HQ_CONFIG_WRITE as a BAR access of the host (R151, R157, R549). -/
def execHqConfigWrite (r : RoomId) (q : Fin 32) (kind : HqKind) (task : BitVec 4) (destRoom : RoomId)
    (destQ auxQ : Fin 32) (s : State) : Res :=
  barGo s (bar0 (roomPage r + 0x100 + 8 * q.1) (hqCfgWord kind task destRoom destQ auxQ)) (storeyDomain r)
    (hqConfigWriteOp r q kind task destRoom destQ auxQ s)

/-! ### Links (R318-R321) -/

/-- New moves run into and out of Rooms in these states (R321). -/
def moveOpen (x : Room) : Bool := x.st == .idle || x.st == .loading || x.st == .running

/-- A link faults a Room with a condition (R318, R320). -/
def linkFault (s : State) (r : RoomId) (c : Cond) : State := haltRoom s r c FaultAt.none

/-- The link's queues are configured as R318 asks: DEST_Q is RECV and names a LOCAL CREDIT_Q, RETURN_Q is LOCAL. -/
def linkConfigured (s : State) (r : RoomId) (k : HandleQ) : Bool :=
  let d := (s.room k.destRoom).hqs.get k.destQ
  d.kind == .receive && ((s.room k.destRoom).hqs.get d.auxQ).kind == .local && ((s.room r).hqs.get k.auxQ).kind == .local

/-- A move waits at its last step because DEST_Q or RETURN_Q is full; the engine issues no new move meanwhile (R318). -/
def lastStepWaits (s : State) (r : RoomId) (k : HandleQ) : Bool :=
  !k.flight.isEmpty && (decide (32 ≤ ((s.room r).hqs.get k.auxQ).handles.length) ||
    (decide (k.dev = s.fabric.devAddr) && decide (32 ≤ ((s.room k.destRoom).hqs.get k.destQ).handles.length)))

/-- The first handle of a queue is taken out. -/
def hqDrop (x : Room) (q : Fin 32) : Room :=
  { x with hqs := vmod x.hqs q fun k => { k with handles := k.handles.drop 1 }, watchCount := 0 }

/-- A credit draw toward the device of a link: the destination Room and the queue that names the CREDIT_Q (R320). -/
def sendDraw (s : State) (r : RoomId) (q : Fin 32) (k : HandleQ) : State :=
  let t := newRequest s (.link r q) k.dev .creditDraw
  (postPacket t.2 { wingPacket s .creditDraw 3 (roomOwner s r) k.dev t.1 [] with
      param := k.destRoom.1 * 32 + k.destQ.1 }).onRoom r fun x =>
    { x with hqs := vmod x.hqs q fun k => { k with draw := some t.1 } }

/-- LINK_MOVE_START: the link engine of a SEND queue checks the handles at the heads of the queue and of the receiver's
credit queue and starts a move, or faults the Room whose handle fails; toward another device it draws a credit
(R318, R320, R321). A Room that is not the sending wing's is out of its reach (R24). -/
def execLinkMoveStart (r : RoomId) (q : Fin 32) (s : State) : Res :=
  let x := s.room r
  let k := x.hqs.get q
  match k.kind, k.handles with
  | .send, hp :: _ =>
    if !moveOpen x || decide (4 ≤ k.flight.length) || lastStepWaits s r k then .next s
    else if k.dev ≠ s.fabric.devAddr then
      if k.draw.isSome then .next s
      else if !handleOk x r q hp || !handleOk x r k.auxQ hp || (x.hqs.get k.auxQ).kind != .local then
        .next (linkFault s r 0x0805)
      else if remoteRefused s (roomOwner s r) k.dev ≠ 0 then
        .next (linkFault s r (remoteRefused s (roomOwner s r) k.dev))
      else .next (sendDraw s r q k)
    else if roomOwner s k.destRoom ≠ roomOwner s r then .next (linkFault s r 0x0102)
    else
      let y := s.room k.destRoom
      if !moveOpen y then .next s
      else if !linkConfigured s r k then .next (linkFault s r 0x0805)
      else
        let cq := (y.hqs.get k.destQ).auxQ
        match (y.hqs.get cq).handles with
        | [] => .next s
        | hc :: _ =>
          if !handleOk x r q hp || !handleOk x r k.auxQ hp then .next (linkFault s r 0x0805)
          else if !handleOk y k.destRoom cq hc || !handleOk y k.destRoom k.destQ hc || decide (handleSize hc < handleSize hp)
          then .next (linkFault s k.destRoom 0x0805)
          else
            let s1 := (s.onRoom r fun x => hqDrop x q).onRoom k.destRoom fun y => hqDrop y cq
            .next (s1.onRoom r fun x => { x with hqs := vmod x.hqs q fun k => { k with flight := k.flight ++
              [{ hp := hp, hc := hc, destRoom := k.destRoom, destQ := k.destQ, returnQ := k.auxQ, remote := none }] } })
  | _, _ => .next s

/-- The slots of a handle, in order. -/
def handleRead (x : Room) (h : W32) : List Byte := zread x.pantry (64 * handleStart h) (64 * handleSlots h)

/-- Tags of a run of slots set or cleared. -/
def setTags (x : Room) (start n : Nat) (full : Bool) : Room :=
  (List.range n).foldl (fun x i => setTag x (start + i) full) x

/-- Slot contents written to the first slots of a handle, with their tags set full (R318). -/
def handleWrite (x : Room) (h : W32) (first : Nat) (bs : List Byte) : Room :=
  setTags (pantryWrite x (64 * (handleStart h + first)) bs) (handleStart h + first) (bs.length / 64) true

/-- LINK_MOVE_DONE: the oldest move of a link completes: contents and tags, then the pushes to DEST_Q and RETURN_Q; it
waits while either is full. A move to another device ends here once its packets are sent (R318-R320). -/
def execLinkMoveDone (r : RoomId) (q : Fin 32) (s : State) : Res :=
  let k := (s.room r).hqs.get q
  match k.flight with
  | [] => .next s
  | m :: rest =>
    if decide (32 ≤ ((s.room r).hqs.get m.returnQ).handles.length) ||
        (m.remote.isNone && decide (32 ≤ ((s.room m.destRoom).hqs.get m.destQ).handles.length)) then .next s
    else
      let data := handleRead (s.room r) m.hp
      let s1 := if m.remote.isNone ∧ (s.room m.destRoom).st ≠ .quarantined then
        s.onRoom m.destRoom fun y => handleWrite y m.hc 0 data else s
      let s2 := s1.onRoom r fun x =>
        { setTags x (handleStart m.hp) (handleSlots m.hp) false with
          hqs := vmod x.hqs q fun k => { k with flight := rest, moves := k.moves + 1 }, watchCount := 0 }
      let s3 := if m.remote.isNone then putHandle s2 m.destRoom m.destQ m.hc else s2
      .next (putHandle s3 r m.returnQ m.hp)

/-! ### Waits and watches (R322, R326-R328) -/

/-- BLOCK_REASON of the Newel, the A-stream and the X-stream. -/
def newelReason (x : Room) : BlockReason := match x.newel.wait with | .blocked w => w | _ => .none
def strmReason (t : Strm) : BlockReason :=
  match t.wait with | .ready => .none | .blocked w => w | .waitph _ => .waitph | .rdv _ => .sync

/-- The wait limit bounds waits on tags, queues and tokens, and the Newel's SJOIN and END (R322, R346). -/
def limited (b : BlockReason) : Bool :=
  b == .pantryTag || b == .dataQueue || b == .handleQueue || b == .token

/-- WAIT_LIMIT_EXPIRY: one wait of an agent (0 Newel, 1 A-stream, 2 X-stream) reaches ROOM_WAIT_LIMIT: the Room halts with
0x0806 (R322). -/
def execWaitLimitExpiry (r : RoomId) (agent : Fin 3) (s : State) : Res :=
  let x := s.room r
  if !roomGoes s r || x.waitLimit == 0 then .next s
  else
    let hit : Bool × FaultAt := match agent with
      | 0 => (limited (newelReason x) || newelReason x == .sync, ⟨1, x.newel.pc, x.newel.retired⟩)
      | 1 => (x.astream.strm.running && limited (strmReason x.astream.strm), FaultAt.astream x)
      | 2 => (x.xstream.running && limited (strmReason x.xstream), FaultAt.xstream x)
    if hit.1 then .next (haltRoom s r 0x0806 hit.2) else .next s

/-- An agent that the stall watch counts as stopped: blocked with reason 1, 2, 3, 4 or 7, or ended (R326). -/
def stalled (b : BlockReason) : Bool := limited b || b == .sync

/-- Each of the three agents is blocked or has ended. -/
def agentsStalled (x : Room) : Bool :=
  (x.newel.wait == .ended || stalled (newelReason x)) && (!x.astream.strm.running || stalled (strmReason x.astream.strm))
    && (!x.xstream.running || stalled (strmReason x.xstream))

/-- Rooms become WATCHED with a condition and their RUN jobs complete with it (R327, R328, R179). -/
def watchRooms (s : State) (rs : List RoomId) (cond : Cond) : State :=
  rs.foldl (fun s r => failRun s r cond (BitVec.ofNat 8 r.1) 0) (rs.foldl (fun s r => stopRoom s r .watched cond FaultAt.none) s)

/-- STALL_WATCH_FIRE: the Room watch reaches STALL_LIMIT (R326, R327). -/
def execStallWatchFire (r : RoomId) (s : State) : Res :=
  if roomGoes s r && agentsStalled (s.room r) then
    .next (watchRooms (logCond s 0x0810 (wingByte (roomOwner s r)) (BitVec.ofNat 8 r.1) 0) [r] 0x0810)
  else .next s

/-- Rooms of a Storey. -/
def roomsOf (i : StoreyId) : List RoomId := (List.finRange 8).map fun k => ⟨i.1 * 8 + k.1, by omega⟩

/-- An agent of the Room shows BLOCK_REASON 3. -/
def showsHandle (x : Room) : Bool :=
  newelReason x == .handleQueue || strmReason x.astream.strm == .handleQueue || strmReason x.xstream == .handleQueue

/-- STOREY_WATCH_FIRE: at least two RUNNING Rooms of the Storey are stalled, each with an agent at BLOCK_REASON 3, and the
Storey watch reaches STOREY_LIMIT (R328). -/
def execStoreyWatchFire (i : StoreyId) (s : State) : Res :=
  let rs := (roomsOf i).filter fun r => roomGoes s r && agentsStalled (s.room r) && showsHandle (s.room r)
  if rs.length < 2 then .next s
  else .next (watchRooms (logCond s 0x0811 0xFF (BitVec.ofNat 8 i.1) 0) rs 0x0811)

/-- ROOM_IDLE: a BAR0 write of ROOM_CTRL.IDLE takes a HALTED or WATCHED Room to IDLE; ignored otherwise (R327). -/
def roomIdleOp (r : RoomId) (s : State) : Res :=
  if (s.room r).st = .halted ∨ (s.room r).st = .watched then .next (roomToIdle s r) else .next s

/-- ROOM_IDLE as a BAR access of the host (R151, R157, R549). -/
def execRoomIdle (r : RoomId) (s : State) : Res :=
  barGo s (bar0 (roomPage r) (4 + b2n (s.room r).modeToken)) (storeyDomain r) (roomIdleOp r s)

/-! ### Gangs and debug access -/

/-- Rooms that a ROOM_GANG value names: ganged Rooms and both Rooms of enabled pairs (R325, R331). -/
def gangRooms (i : StoreyId) (gang : Byte) (lockstep : BitVec 4) : List RoomId :=
  (roomsOf i).filter fun r => gang.getLsbD (r.1 % 8) || lockstep.getLsbD (r.1 % 8 / 2)

/-- ROOM_GANG_WRITE: taken when every Room named is IDLE and all belong to one wing, else refused with 0x0807 (R325). -/
def roomGangWriteOp (i : StoreyId) (gang : Byte) (lockstep : BitVec 4) (s : State) : Res :=
  let rs := gangRooms i gang lockstep
  let oneWing : Bool := match rs with
    | [] => true
    | r :: rest => rest.all fun q => decide (roomOwner s q = roomOwner s r)
  if (rs.all fun r => (s.room r).st == .idle) && oneWing then
    .next (s.onStorey i fun x => { x with gang := gang, lockstep := lockstep })
  else .next (ringCond s 0 0x0807)

/-- ROOM_GANG_WRITE as a BAR access of the host (R151, R157, R549). -/
def execRoomGangWrite (i : StoreyId) (gang : Byte) (lockstep : BitVec 4) (s : State) : Res :=
  barGo s (bar0 (0x148000 + 256 * i.1) (lockstep.toNat * 256 + gang.toNat)) (7 + i.1) (roomGangWriteOp i gang lockstep s)

/-- The unlock state grants scope [1] for the Room's wing (R78, R308). -/
def peekAllowed (s : State) (r : RoomId) : Bool :=
  s.thr.debugWings.getLsbD (roomOwner s r).1 && s.thr.debugScope.getLsbD 1

/-- PANTRY_PEEK: a GO with FORCE 0 reads a slot and its tag; without effect on them while scope [1] is not granted. -/
def pantryPeekOp (r : RoomId) (slot : BitVec 14) (tagSet : Bool) (s : State) : Res :=
  let ok := peekAllowed s r
  .next (s.onRoom r fun x =>
    { x with peekForce := false, peekTagSet := tagSet, peekSlot := slot, peekDone := ok,
             peekTagRead := if ok then tagFull x slot.toNat else x.peekTagRead,
             peekData := if ok then slotRead x slot.toNat else x.peekData })

/-- PANTRY_PEEK as a BAR access of the host (R151, R157, R549). -/
def execPantryPeek (r : RoomId) (slot : BitVec 14) (tagSet : Bool) (s : State) : Res :=
  barGo s (bar0 (roomPage r + 0x300) (2 ^ 31 + b2n tagSet * 2 ^ 29 + slot.toNat)) (storeyDomain r)
    (pantryPeekOp r slot tagSet s)

/-- PANTRY_FORCE: a GO with FORCE 1 writes a slot and sets its tag as TAG_SET says. -/
def pantryForceOp (r : RoomId) (slot : BitVec 14) (tagSet : Bool) (s : State) : Res :=
  let ok := peekAllowed s r
  .next (s.onRoom r fun x =>
    let y := { x with peekForce := true, peekTagSet := tagSet, peekSlot := slot, peekDone := ok }
    if ok then setTag (pantryWrite y (64 * slot.toNat) (x.peekData.take 64)) slot.toNat tagSet else y)

/-- PANTRY_FORCE as a BAR access of the host (R151, R157, R549). -/
def execPantryForce (r : RoomId) (slot : BitVec 14) (tagSet : Bool) (s : State) : Res :=
  barGo s (bar0 (roomPage r + 0x300) (2 ^ 31 + 2 ^ 30 + b2n tagSet * 2 ^ 29 + slot.toNat)) (storeyDomain r)
    (pantryForceOp r slot tagSet s)

end Sys2Proof.Machine
end

