-- ==== Sys2Proof/Machine/Transport.lean ====
section
/-!
DEFINITION. Machine/Transport.lean: the transactions of the dictionary server and its CAN, fabric and mailbox transports
(R99-R119): segments taken, the checks of R101 that need no value, and answers cut into segments.
-/
namespace Sys2Proof.Machine
open Sys2Proof

/-- The dictionary server answers: from stage FOYER on, and in state 0xF4 (R151, R572). -/
def serverUp (s : State) : Bool :=
  !s.sys.inReset && decide (4 ≤ s.sys.bootStage.toNat ∧ s.sys.bootStage.toNat ≤ 10)

/-- A request header as read from the first 12 stream bytes (R120). -/
structure Header where
  op : Nat
  sealed_ : Bool
  act : WingId
  obj : W16
  mem : Byte
  length : Nat
  target : Nat
  /-- every reserved bit is zero -/
  clean : Bool
  deriving DecidableEq, Repr

def parseHeader (b : List Byte) : Header :=
  let b0 := fieldAt b 0 1
  let b1 := fieldAt b 1 1
  { op := b0 % 16, sealed_ := b0.testBit 4, act := ⟨b1 % 16, by omega⟩, obj := BitVec.ofNat 16 (fieldAt b 4 2),
    mem := BitVec.ofNat 8 (fieldAt b 6 1), length := fieldAt b 8 4, target := fieldAt b 2 2 % 4096,
    clean := decide (b0 / 32 = 0 ∧ b1 / 16 = 0 ∧ fieldAt b 2 2 / 4096 = 0 ∧ fieldAt b 7 1 = 0) }

/-- Bytes of a seal as its fields (R87). -/
def parseSeal (b : List Byte) : Seal :=
  { keyId := b.getD 0 0, ver := b.getD 1 0, reserved := BitVec.ofNat 16 (fieldAt b 2 2),
    counter := BitVec.ofNat 32 (fieldAt b 4 4), tag := BitVec.ofNat 64 (fieldAt b 8 8) }

/-- The request of a header alone, for the answer of a refusal. -/
def Header.request (h : Header) (who : Requester) (seq : BitVec 6) (pri : BitVec 3) (irq : Bool) : Request :=
  { who := who, seq := seq, pri := pri, act := h.act, write := h.op == 2, sealed := none, obj := h.obj, mem := h.mem,
    value := [], irq := irq }

/-- Open transactions of a requester (R31). -/
def openCount (s : State) (who : Requester) : Nat := (s.mgmt.txns.filter fun t => t.who == who).length

/-- The sequence number is held by an open transaction of the requester; a mailbox slot carries none (R101, R117). -/
def seqInUse (s : State) (who : Requester) (seq : BitVec 6) : Bool :=
  match who with
  | .mailbox _ _ => false
  | _ => s.mgmt.txns.any fun t => t.who == who && t.seq == seq

/-- ACT_WING is permitted on the transport (R116, R119). -/
def actPermitted (s : State) (who : Requester) (act : WingId) : Bool :=
  match who with
  | .can _ => s.mgmt.canActMask.getLsbD act.1
  | .fabric _ => s.mgmt.fabActMask.getLsbD act.1
  | .mailbox w _ => w == act

/-- Access allows the operation for this wing (R96, R128). -/
def accessAllows (o : ObjId) (e : Entry) (act : WingId) (m : Nat) (write : Bool) : Bool :=
  if write then e.acc != .ro && (act == 0 || !(o.classA m)) else e.acc != .wo

/-- The entry is being written by a BLOCK write of another transaction (R103). -/
def blockBusy (s : State) (obj : W16) (mem : Byte) : Bool := s.mgmt.blockClaims.any fun c => c.1 == obj && c.2.1 == mem

/-- Checks 1 to 8 of R101, in order; 0 when all pass. -/
def headChecks (s : State) (who : Requester) (seq : BitVec 6) (pri : BitVec 3) (wellFormed write : Bool) (act : WingId)
    (obj : W16) (mem : Byte) (length : Nat) : Cond :=
  if 4 ≤ openCount s who then 0x0304
  else if !wellFormed || (!write && length != 0) || seqInUse s who seq
      || (match who with | .can _ => decide (pri.toNat < 2) | _ => false) then 0x030C
  else if !actPermitted s who act then 0x030B
  else match objectOf obj with
    | none => 0x0301
    | some o =>
      if !o.seesAny s act || !(mem == 0 || (o.entry mem.toNat).isNone || o.sees s act mem.toNat) then 0x0301
      else match o.entry mem.toNat with
        | none => 0x0302
        | some e =>
          if !accessAllows o e act mem.toNat write then 0x0305
          else if write && !e.ty.lengthOk length then 0x0308
          else if write && e.ty.width == 0 && blockBusy s obj mem then 0x0303
          else 0

/-- A refusal at checks 1 to 9 is counted (R124). -/
def countRefused (s : State) : State := s.onMgmt fun m => { m with refusedCount := satAdd m.refusedCount 1 }

/-- A segment 0 of a request is refused: it opens no transaction, but a mailbox slot is OPEN from its GO until the refusal
has been shown (R101, R117). -/
def refuseFirst (s : State) (r : Request) (c : Cond) : State :=
  match r.who with
  | .mailbox _ _ =>
    (answerCond s r c).onMgmt fun m => { m with txns := m.txns ++ [⟨r.who, r.seq, r.pri, r.irq, 1, [], false, true⟩] }
  | _ => answerEarly s r c

/-- A transaction closes: its claim of a BLOCK entry ends with it (R103). -/
def closeTxn (s : State) (who : Requester) (seq : BitVec 6) : State :=
  s.onMgmt fun m =>
    { m with txns := m.txns.filter fun t => !(t.who == who && t.seq == seq),
             blockClaims := m.blockClaims.filter fun c => !(c.2.2.1 == who && c.2.2.2 == seq) }

/-- The transaction is refused: answered, its later segments discarded (R101). -/
def refuseTxn (s : State) (r : Request) (c : Cond) : State :=
  (answerCond s r c).onMgmt fun m =>
    { m with txns := m.txns.map fun t => if t.who == r.who && t.seq == r.seq then { t with refused := true } else t }

/-- A transaction opens for an admitted request; a BLOCK write claims its entry (R99, R103). -/
def openTxn (s : State) (who : Requester) (seq : BitVec 6) (pri : BitVec 3) (irq write : Bool) (obj : W16) (mem : Byte)
    (bytes : List Byte) (complete : Bool) : State :=
  let block := match objectOf obj with
    | some o => match o.entry mem.toNat with
      | some e => e.ty.width == 0
      | none => false
    | none => false
  s.onMgmt fun m =>
    { m with txns := m.txns ++ [⟨who, seq, pri, irq, 1, bytes, complete, false⟩],
             blockClaims := if write && block then m.blockClaims ++ [(obj, mem, who, seq)] else m.blockClaims }

/-- Stream bytes that a request needs (R99, R100). -/
def streamNeed (h : Header) : Nat :=
  let block := match objectOf h.obj with
    | some o => match o.entry h.mem.toNat with
      | some e => e.ty.width == 0
      | none => false
    | none => false
  12 + (if h.sealed_ then 16 else 0) + (if h.op = 2 then h.length + (if block then 4 else 0) else 0)

/-- The request of a complete stream (R99, R120). -/
def parseRequest (who : Requester) (seq : BitVec 6) (pri : BitVec 3) (irq : Bool) (b : List Byte) : Request :=
  let h := parseHeader b
  let o := if h.sealed_ then 28 else 12
  { h.request who seq pri irq with
    sealed := if h.sealed_ then some (parseSeal (bytesAt b 12 16)) else none,
    value := if h.op = 2 then bytesAt b o h.length else [] }

/-- The CRC-32C after a BLOCK value matches (R99, R100). -/
def streamCrcOk (b : List Byte) : Bool :=
  let h := parseHeader b
  let o := (if h.sealed_ then 28 else 12) + h.length
  if streamNeed h = o + 4 ∧ h.op = 2 then fieldAt b o 4 == (crc32c (bytesAt b (o - h.length) h.length)).toNat else true

/-- A stream has ended or goes on (R100). -/
def endStream (s : State) (who : Requester) (seq : BitVec 6) (pri : BitVec 3) (irq : Bool) (bytes : List Byte)
    (last : Bool) : State :=
  let need := streamNeed (parseHeader bytes)
  let r := parseRequest who seq pri irq bytes
  if !last then s
  else if bytes.length < need ∨ !streamCrcOk bytes then refuseTxn (countRefused s) r 0x030A
  else s.onMgmt fun m =>
    { m with txns := m.txns.map fun t => if t.who == who && t.seq == seq then { t with complete := true } else t,
             ready := m.ready ++ [(r, m.answers.length)] }

/-- The segment after which a CAN or fabric stream ends: one shorter than the segment size, or the one that completes
the stream (R100). -/
def lastByLength (size : Nat) (part bytes : List Byte) : Bool :=
  decide (part.length < size) || decide (streamNeed (parseHeader bytes) ≤ bytes.length)

/-- Segment 0 of a request stream (R100, R101). -/
def takeFirst (s : State) (who : Requester) (seq : BitVec 6) (pri : BitVec 3) (irq : Bool) (bytes : List Byte)
    (last : Bool) : State :=
  let h := parseHeader bytes
  let r := h.request who seq pri irq
  if bytes.length < 12 then refuseFirst (countRefused s) r 0x030A
  else
    let c := headChecks s who seq pri (h.clean && (h.op == 1 || h.op == 2)) (h.op == 2) h.act h.obj h.mem h.length
    if c ≠ 0 then refuseFirst (countRefused s) r c
    else endStream (openTxn s who seq pri irq (h.op == 2) h.obj h.mem bytes false) who seq pri irq bytes last

/-- A fabric segment numbered 0 is the first of a request, unless an incomplete stream of its sender and sequence has come
round to number 0 (R100). -/
def startsStream (s : State) (who : Requester) (seq : BitVec 6) (seg : Nat) : Bool :=
  seg == 0 && !s.mgmt.txns.any fun t => t.who == who && t.seq == seq && !t.complete && !t.refused && t.nextSeg == 0

/-- A later segment (R100, R101). `irq` is IRQ of its GO, `last` says whether it ends the stream. -/
def takeLater (s : State) (who : Requester) (seq : BitVec 6) (seg : BitVec 4) (irq : Bool) (part : List Byte)
    (last : List Byte → Bool) : State :=
  match s.mgmt.txns.find? fun t => t.who == who && t.seq == seq && !t.complete && !t.refused with
  | none => s
  | some t =>
    let bytes := t.bytes ++ part
    if seg ≠ t.nextSeg then refuseTxn (countRefused s) (parseRequest who seq t.pri irq t.bytes) 0x030A
    else
      let s1 := s.onMgmt fun m =>
        { m with txns := m.txns.map fun x =>
            if x.who == who && x.seq == seq then { x with bytes := bytes, nextSeg := x.nextSeg + 1, irq := irq } else x }
      endStream s1 who seq t.pri irq bytes (last bytes)

/-! ### CAN (R108-R111) -/

/-- Standard CAN FD data lengths (R108). -/
def canLengths : List Nat := [0, 1, 2, 3, 4, 5, 6, 7, 8, 12, 16, 20, 24, 32, 48, 64]

/-- A frame is ignored and counted (R108, R109). -/
def ignoreFrame (s : State) : State := s.onMgmt fun m => { m with framesIgnored := satAdd m.framesIgnored 1 }

/-- CAN_FRAME: a request segment addressed to this node is taken whole; frames of other formats or reserved classes are
ignored and counted; answers, alerts and other nodes' requests are ignored (R108-R111, R119). -/
def execCanFrame (f : CanFrame) (s : State) : Res :=
  if !serverUp s || !s.mgmt.canEnable || s.mgmt.canSt == .busOff then .next s
  else if !f.fdExtended || !canLengths.contains f.payload.length then .next (ignoreFrame s)
  else
    let id := f.id.toNat
    let cls := (id / 2 ^ 22) % 16
    let who := Requester.can (BitVec.ofNat 12 (id / 1024))
    let seq : BitVec 6 := BitVec.ofNat 6 (id / 16)
    let pri : BitVec 3 := BitVec.ofNat 3 (id / 2 ^ 26)
    let seg : BitVec 4 := BitVec.ofNat 4 id
    if cls = 0 ∨ 6 ≤ cls then .next (ignoreFrame s)
    else if cls = 1 then
      if (parseHeader f.payload).target ≠ s.fabric.devAddr.toNat ∨ f.payload.length < 4 then .next s
      else if seg ≠ 0 then .next (answerEarly (countRefused s) ((parseHeader f.payload).request who seq pri false) 0x030A)
      else .next (takeFirst s who seq pri false f.payload (lastByLength 64 f.payload f.payload))
    else if cls = 2 then .next (takeLater s who seq seg false f.payload fun b => lastByLength 64 f.payload b)
    else .next s

/-- CAN_BUS_OFF_RECOVERY: the controller leaves bus-off as the standard gives (R108). -/
def execCanBusOffRecovery (s : State) : Res :=
  if s.mgmt.canSt = .busOff then
    .next (s.onMgmt fun m => { m with canSt := .errorActive, tec := 0, recCount := 0 })
  else .next s

/-- ALERT_QUEUE_SEND: the queued alerts are sent, oldest first, once the controller can send (R114). -/
def execAlertQueueSend (s : State) : Res :=
  if canUp s then .next (s.mgmt.alertQueue.foldl sendAlert (s.onMgmt fun m => { m with alertQueue := [] })) else .next s

/-- SEG_TIMEOUT: an incomplete request stream is closed and answered with 0x0309 (R104). -/
def execSegTimeout (who : Requester) (seq : BitVec 6) (s : State) : Res :=
  match s.mgmt.txns.find? fun t => t.who == who && t.seq == seq && !t.complete && !t.refused with
  | none => .next s
  | some t =>
    .next ((refuseTxn s (parseRequest who seq t.pri t.irq t.bytes) 0x0309).onMgmt fun m =>
      { m with timeouts := satAdd m.timeouts 1 })

/-! ### Host mailbox (R116-R118, R123) -/

def State.onMbx (s : State) (w : WingId) (k : Fin 4) (f : MbxSlot → MbxSlot) : State :=
  s.onMgmt fun m => { m with mbx := vmod m.mbx w fun v => vmod v k f }

def State.mbxSlot (s : State) (w : WingId) (k : Fin 4) : MbxSlot := (s.mgmt.mbx.get w).get k

/-- A CTRL write without effect is counted in 0x1020/08 (R117). -/
def ignoreMbx (s : State) : State := s.onMgmt fun m => { m with mbxIgnored := satAdd m.mbxIgnored 1 }

/-- OPEN of a slot as STATUS shows it: a transaction of the slot is open (R123). -/
def mbxOpen (s : State) (w : WingId) (k : Fin 4) : Bool := s.mgmt.txns.any fun t => t.who == .mailbox w k

/-- SEG_WANTED: the request buffer is free for the next segment (R117, R123). -/
def mbxWanted (s : State) (w : WingId) (k : Fin 4) : Bool :=
  !mbxOpen s w k || s.mgmt.txns.any fun t => t.who == .mailbox w k && !t.complete && !t.refused

/-- The mailboxes are usable: READY, or the failed state 0xF4, outside D3hot (R151, R153). -/
def mbxUp (s : State) : Bool :=
  serverUp s && (s.host.ready || s.sys.larderFailed) && !s.host.cfg.d3hot

/-- A write of FOY_MBX_CTRL by the host: it is performed, or waits behind an access to a stopped domain (R157). -/
def mbxRow (s : State) (c : BarAccess) (r : Res) : Res :=
  if !mbxUp s then .next s
  else if !s.host.barBlocked.isEmpty then .next (s.onHost fun h => { h with barBlocked := h.barBlocked ++ [c] })
  else r

/-- MBX_GO: the segment in the slot's request buffer is taken; a GO while OPEN is 1 and SEG_WANTED 0 has no effect and
is counted (R117, R118). -/
def mbxGoOp (w : WingId) (k : Fin 4) (seg : BitVec 4) (len : Nat) (last irq : Bool) (s : State) : Res :=
  let who := Requester.mailbox w k
  let x := s.mbxSlot w k
  let part := bytesAt (x.reqBuf ++ List.replicate 1024 0) 0 (min len 1024)
  if !mbxWanted s w k ∨ len = 0 ∨ 1024 < len then .next (ignoreMbx s)
  else if mbxOpen s w k then .next (takeLater s who 0 seg irq part fun _ => last)
  else
    let s1 := s.onMbx w k fun y => { y with ready := false, ansRest := [], irq := irq }
    if seg ≠ 0 then .next (refuseFirst (countRefused s1) ((parseHeader part).request who 0 0 irq) 0x030A)
    else .next (takeFirst s1 who 0 0 irq part last)

/-- MBX_GO as a BAR access of the host (R117, R151, R157). -/
def execMbxGo (w : WingId) (k : Fin 4) (seg : BitVec 4) (len : Nat) (last irq : Bool) (s : State) : Res :=
  mbxRow s (bar0 (mbxCtrl w k) (len % 2048 * 2 ^ 16 + seg.toNat * 2 ^ 12 + 8 * b2n last + 4 * b2n irq + 1))
    (mbxGoOp w k seg len last irq s)

/-- MBX_CANCEL: a transaction the Foyer has not begun to handle is closed with 0x030D; otherwise CANCEL is counted
(R117). -/
def mbxCancelOp (w : WingId) (k : Fin 4) (s : State) : Res :=
  let who := Requester.mailbox w k
    let begun : Bool := match s.mgmt.norPending with | some p => p.req.who == who | none => false
    match s.mgmt.txns.find? fun t => t.who == who && !t.refused with
    | some t =>
      if begun ∨ s.mgmt.answers.any (fun a => a.req.who == who)
          ∨ (t.complete ∧ !(s.mgmt.ready.any fun r => r.1.who == who)) then .next (ignoreMbx s)
      else
        let s1 := s.onMgmt fun m => { m with ready := m.ready.filter fun r => r.1.who != who }
        .next (refuseTxn s1 (parseRequest who 0 0 t.irq t.bytes) 0x030D)
    | none => .next (ignoreMbx s)

/-- MBX_CANCEL as a BAR access of the host (R117, R151, R157). -/
def execMbxCancel (w : WingId) (k : Fin 4) (s : State) : Res :=
  mbxRow s (bar0 (mbxCtrl w k) 2) (mbxCancelOp w k s)

/-! ### Answers -/

/-- The answer stream: header, value, CRC-32C of a BLOCK value (R99, R121). -/
def Answer.stream (a : Answer) : List Byte :=
  let r := a.req
  let op := (if r.write then 2 else 1) + (if r.sealed.isSome then 16 else 0)
  let node := match r.who with | .can n => n.toNat | _ => 0
  leBytes 1 op ++ [wingByte r.act] ++ leBytes 2 node ++ leBytes 2 r.obj.toNat ++ [r.mem, 0] ++
    leBytes 4 a.abort.toNat ++ leBytes 4 a.value.length ++ a.value ++
    (if a.isBlock then leBytes 4 (crc32c a.value).toNat else [])

/-- A byte list cut into segments of `n` bytes. -/
def segments (n : Nat) (fuel : Nat) (b : List Byte) : List (List Byte) :=
  match fuel with
  | 0 => [b]
  | f + 1 => if b.length ≤ n then [b] else b.take n :: segments n f (b.drop n)

/-- Padding of the last CAN segment up to the next standard length (R111). -/
def canPad (b : List Byte) : List Byte :=
  b ++ List.replicate (((canLengths.find? fun n => decide (b.length ≤ n)).getD 64) - b.length) 0

/-- The identifier of answer segment `i` (R109). -/
def answerId (node : DevAddr) (r : Request) (i : Nat) : Nat :=
  r.pri.toNat * 2 ^ 26 + (if i = 0 then 3 else 4) * 2 ^ 22 + node.toNat * 1024 + r.seq.toNat * 16 + i % 16

/-- The answer's frames go out on the CAN bus; with CAN_ENABLE 0 nothing is sent and the answer is lost (R106, R119). -/
def sendCanAnswer (s : State) (a : Answer) : State :=
  if !s.mgmt.canEnable then s
  else
    let segs := segments 64 (a.stream.length / 64 + 1) a.stream
    (segs.zipIdx.foldl (fun s (x : List Byte × Nat) =>
      s.send (.can (answerId s.fabric.devAddr a.req x.2) (canPad x.1))) s)

/-- The next answer segment is shown in the slot: buffer, ANS_LEN, ANS_SEG, MORE, GEN and READY change together
(R118). -/
def showSegment (x : MbxSlot) (seg : BitVec 4) (stream : List Byte) : MbxSlot :=
  { x with ansBuf := stream.take 1008, ansLen := BitVec.ofNat 10 (min stream.length 1008), ansSeg := seg,
           more := decide (1008 < stream.length), ansRest := stream.drop 1008, gen := x.gen + 1, ready := true }

/-- A mailbox answer segment whose GO carried IRQ signals vector 16 + w and sets FOY_ATTN.MBX (R118, R168, R177). -/
def mbxSignal (s : State) (w : WingId) (k : Fin 4) : State :=
  if (s.mbxSlot w k).irq then
    signalVector (s.onRing w fun r => { r with attn := r.attn ||| 1 }) ⟨16 + w.1, by omega⟩
  else s

/-- The first answer segment of a mailbox transaction is shown; the transaction closes when no more follow (R117). -/
def sendMbxAnswer (s : State) (a : Answer) (w : WingId) (k : Fin 4) : State :=
  let s1 := s.onMbx w k fun x => showSegment { x with irq := a.req.irq } 0 a.stream
  mbxSignal (if (s1.mbxSlot w k).more then s1 else closeTxn s1 a.req.who a.req.seq) w k

/-- MBX_NEXT: the answer segment shown is released and the next one is delivered (R118). -/
def mbxNextOp (w : WingId) (k : Fin 4) (s : State) : Res :=
  let x := s.mbxSlot w k
  if !x.ready ∨ !x.more then .next s
  else
    let s1 := s.onMbx w k fun y => showSegment y (y.ansSeg + 1) y.ansRest
    .next (mbxSignal (if (s1.mbxSlot w k).more then s1 else closeTxn s1 (.mailbox w k) 0) w k)

/-- MBX_NEXT as a BAR access of the host (R117, R151, R157). -/
def execMbxNext (w : WingId) (k : Fin 4) (s : State) : Res :=
  mbxRow s (bar0 (mbxCtrl w k) 16) (mbxNextOp w k s)

/-- Changed CAN rates come into force once the answer to their write has been sent (R112). -/
def applyRates (s : State) (a : Answer) : State :=
  if a.req.write ∧ a.req.obj = 0x1010 ∧ 1 ≤ a.req.mem.toNat ∧ a.req.mem.toNat ≤ 4 ∧ a.abort = 0 then
    s.onMgmt fun m => { m with ratesInForce := m.rates }
  else s

end Sys2Proof.Machine
end

