-- ==== Sys2Proof/Machine/Fabric.lean ====
section
/-!
DEFINITION. Machine/Fabric.lean: the census and the master (R454-R459), beacons (R190-R193, R460), and the packets of the
fabric at their destination (R51, R115, R231, R283, R286, R320, R465, R471, R472).
-/
namespace Sys2Proof.Machine
open Sys2Proof

/-! ### The census (R455-R458) -/

/-- A packet of the census of a kind. -/
def isCensus (kind : Nat) (x : RxPacket) : Bool := x.pkt.typ == .census && x.pkt.param % 4 == kind

/-- CENSUS_QUERY: a device answers once per epoch of the lowest-addressed candidate it has seen, and forwards that
census; a master that sees a lower candidate becomes a member with 0x0B07 (R455, R456). -/
def execCensusQuery (s : State) : Res :=
  match takePacket s (isCensus censusQuery) with
  | none => .next s
  | some (x, s1) =>
    let cand : DevAddr := BitVec.ofNat 12 (fieldAt x.pkt.data 0 2)
    let f := s1.fabric
    let lower : Bool := match f.lowestSeen with
      | some l => decide (l.toNat < cand.toNat)
      | none => false
    if f.excluded || lower || (f.candidate && decide (f.devAddr.toNat ≤ cand.toNat)) ||
        decide (f.answeredEpoch = some (cand, x.pkt.tag)) then .next s1
    else
      let s2 := s1.onFabric fun f =>
        { f with lowestSeen := some cand, answeredEpoch := some (cand, x.pkt.tag), epoch := x.pkt.tag,
                 upstream := some x.door, resultTaken := false, censusSt := .running, isMaster := false }
      let s3 := if f.isMaster then logCond s2 0x0B07 0xFF 0xFF (BitVec.ofNat 32 cand.toNat) else s2
      let s4 := flood s3 (some x.door) censusQuery x.pkt.tag x.pkt.data
      .next (awaitBeacon (censusOn s4 x.door censusAnswer x.pkt.tag (answerBytes (ownAnswer s4))))

/-- CENSUS_ANSWER: the master keeps an answer of the running census; an answer that comes outside it reports a change and
repeats the census; other devices pass it on toward the master (R456, R458). -/
def execCensusAnswer (s : State) : Res :=
  match takePacket s (isCensus censusAnswer) with
  | none => .next s
  | some (x, s1) =>
    if !s1.fabric.isMaster then
      match s1.fabric.upstream with
      | some d => .next (censusOn s1 d censusAnswer x.pkt.tag x.pkt.data)
      | none => .next s1
    else if s1.fabric.censusSt ≠ .running then .next (startCensus s1)
    else if x.pkt.tag ≠ s1.fabric.epoch then .next s1
    else
      let a := parseAnswer x.pkt.data
      .next (s1.onFabric fun f => { f with answers := f.answers.filter (fun b => b.serial != a.serial) ++ [a] })

/-- Low half of the serial that names a device in the census. -/
def CensusAns.low (a : CensusAns) : W32 := a.serial.setWidth 32

def nodeOf (nodes : List CensusAns) (low : W32) : Option CensusAns := nodes.find? fun a => a.low == low

/-- The device behind a Doorway of a device. -/
def behind (nodes : List CensusAns) (low : W32) (d : DoorId) : Option W32 :=
  (nodeOf nodes low).bind fun a => ((a.neighbours[d.1]?).join).map (·.2)

/-- Devices met by following a Doorway from a device, and whether the way comes back to `me` (R456 step 2). -/
def followDoor (nodes : List CensusAns) (d : DoorId) (me : W32) : Nat → W32 → Nat × Bool
  | 0, _ => (0, false)
  | fuel + 1, cur =>
    match behind nodes cur d with
    | some l => if l = me then (1, true) else
        let r := followDoor nodes d me fuel l
        (r.1 + 1, r.2)
    | none => (0, false)

/-- Size of a dimension and whether it is an open chain (R456 step 2). -/
def measureDim (nodes : List CensusAns) (me : W32) (dim : Fin 3) : Nat × Bool :=
  let up := followDoor nodes (doorOf dim true) me nodes.length me
  if up.2 then (up.1, false)
  else (up.1 + (followDoor nodes (doorOf dim false) me nodes.length me).1 + 1, true)

/-- The address one step through a Doorway (R456 steps 3 and 4). -/
def stepAddr (sizes : Fin 3 → Nat) (a : DevAddr) (d : DoorId) : DevAddr :=
  let dim := doorDim d
  let n := sizes dim
  let c := coord a dim
  let c' := if doorPlus d then (c + 1) % n else (c + n - 1) % n
  a - BitVec.ofNat 12 (c * 2 ^ (8 - 4 * dim.1)) + BitVec.ofNat 12 (c' * 2 ^ (8 - 4 * dim.1))

/-- A device placed by the census; `ok` is false for a later holder of an address (R457). -/
structure Placed where
  low : W32
  addr : DevAddr
  ok : Bool
  deriving DecidableEq, Repr

/-- The devices one hop beyond a level: upstream address, then Doorway number, each ascending (R456 step 3). -/
def nextLevel (nodes : List CensusAns) (sizes : Fin 3 → Nat) (placed level : List Placed) : List Placed :=
  let ups := (level.filter (·.ok)).mergeSort fun a b => decide (a.addr.toNat ≤ b.addr.toNat)
  (ups.map fun u => (List.finRange 6).map fun d => (u, d)).flatten.foldl (fun new (x : Placed × DoorId) =>
    match behind nodes x.1.low x.2 with
    | some l =>
      if (placed ++ new).any fun p => p.low == l then new
      else match nodeOf nodes l with
        | some a =>
          let addr := if a.assigned then stepAddr sizes x.1.addr x.2 else a.addr
          new ++ [{ low := l, addr := addr, ok := !(placed ++ new).any fun p => p.ok && p.addr == addr }]
        | none => new
    | none => new) []

/-- Breadth-first placement (R456 step 3, R457). -/
def placeFrom (nodes : List CensusAns) (sizes : Fin 3 → Nat) : Nat → List Placed → List Placed → List Placed
  | 0, placed, _ => placed
  | fuel + 1, placed, level =>
    match nextLevel nodes sizes placed level with
    | [] => placed
    | new => placeFrom nodes sizes fuel (placed ++ new) new

/-- The address table of a result: low serial half and address, 0xFFFF for an excluded device. The spec leaves its places
open (R471). -/
def tableBytes (t : List Placed) : List Byte :=
  (t.map fun p => leBytes 4 p.low.toNat ++ leBytes 2 (if p.ok then p.addr.toNat else 0xFFFF)).flatten

def parseTable : Nat → List Byte → List (W32 × Nat)
  | 0, _ => []
  | fuel + 1, b => if b.isEmpty then [] else (BitVec.ofNat 32 (fieldAt b 0 4), fieldAt b 4 2) :: parseTable fuel (b.drop 6)

/-- Devices of a census bitmap, rising. -/
def censusOf (b : List Byte) : List DevAddr :=
  (List.range 4096).filterMap fun a => if (b.getD (a / 8) 0).getLsbD (a % 8) then some (BitVec.ofNat 12 a) else none

/-- Neighbours take their addresses from the table; a link that does not join coordinates one apart in its own dimension
goes DOWN with 0x0B09 (R442, R456 step 4). -/
def checkLinks (s : State) (table : List (W32 × Nat)) : State :=
  let sizes := dimSize s
  (List.finRange 6).foldl (fun s d =>
    match (s.door d).st, (s.door d).peer.bind fun e => table.find? fun t => t.1 == e.serialLow with
    | .up, some (_, a) =>
      if a = 0xFFFF then s
      else if stepAddr sizes s.fabric.devAddr d = BitVec.ofNat 12 a then
        s.onDoor d fun x => { x with neighbour := some (BitVec.ofNat 12 a) }
      else goDown s d 0x0B09 0
    | _, _ => s) s

/-- Stage FABRIC ends at the first completed census in which the device holds an address (R576, R577). -/
def fabricStageEnd (s : State) : State :=
  if s.sys.bootStage = 7 ∧ !s.fabric.assignWait then phaseStageEnd (s.onSys fun y => { y with bootStage := 8 }) else s

/-- The result of a census is taken: members, sizes, master (R456 step 5); a census of one awaits a first beacon again
(R192). -/
def takeResult (s : State) (census : List DevAddr) (torus : W16) (open_ : BitVec 3) (master : DevAddr) : State :=
  awaitBeacon (((resendChunks s fun _ => true).onFabric fun f =>
    { f with census := census, torus := torus, open_ := open_, masterAddr := master, censusSt := .done,
             resultTaken := true }).onPhase fun p =>
      if census.length ≤ 1 then { p with beaconSeen := false } else p)

/-- CENSUS_COMPLETE: the master measures the dimensions, places the devices, sends the result, checks its links, reports
devices excluded and devices that left, and recomputes the allotments (R201, R456-R458). -/
def execCensusComplete (s : State) : Res :=
  if !s.fabric.isMaster || s.fabric.censusSt != .running then .next s
  else
    let own := ownAnswer s
    let nodes := own :: s.fabric.answers
    let dims := (List.finRange 3).map fun d => measureDim nodes own.low d
    let sizes : Fin 3 → Nat := fun d => (dims.getD d.1 (1, true)).1
    let start : List Placed := [{ low := own.low, addr := own.addr, ok := true }]
    let placed := placeFrom nodes sizes nodes.length start start
    let members := ((placed.filter (·.ok)).map (·.addr)).mergeSort fun a b => decide (a.toNat ≤ b.toNat)
    let torus := BitVec.ofNat 16 ((sizes 0 - 1) * 256 + (sizes 1 - 1) * 16 + (sizes 2 - 1))
    let open_ : BitVec 3 := BitVec.ofNat 3 (b2n (dims.getD 0 (1, true)).2 + 2 * b2n (dims.getD 1 (1, true)).2 +
      4 * b2n (dims.getD 2 (1, true)).2)
    let s1 := takeResult s members torus open_ s.fabric.devAddr
    let param := censusResult + 4 * (torus.toNat + 2 ^ 16 * s.fabric.devAddr.toNat + 2 ^ 28 * open_.toNat)
    let s2 := flood s1 none param s1.fabric.epoch (censusBytes members ++ tableBytes placed)
    let s3 := (placed.filter fun p => !p.ok).foldl (fun s p => logCond s 0x0B06 0xFF 0xFF p.low) s2
    let s4 := (s.fabric.census.filter fun a => !members.contains a).foldl
      (fun s a => logCond s 0x0B10 0xFF 0xFF (BitVec.ofNat 32 a.toNat)) s3
    let s5 := fabricStageEnd (recomputeAllot s4)
    .next (checkLinks s5 (parseTable nodes.length (tableBytes placed)))

/-- A device excluded from the census: 0x0B06, every Doorway DOWN (R457). -/
def excludeSelf (s : State) : State :=
  (List.finRange 6).foldl (fun s d => if (s.door d).st = .up then leaveUp s d .down else s)
    (logCond (s.onFabric fun f => { f with excluded := true, upstream := none }) 0x0B06 0xFF 0xFF
      (s.thr.fuses.serial.setWidth 32))

/-- CENSUS_RESULT: a member takes the census and, with ADDR_SOURCE 1, its address, and passes the result on (R454, R456,
R457). -/
def execCensusResult (s : State) : Res :=
  match takePacket s (isCensus censusResult) with
  | none => .next s
  | some (x, s1) =>
    let f := s1.fabric
    let k := x.pkt.param / 4
    let master : DevAddr := BitVec.ofNat 12 (k / 2 ^ 16)
    let table := parseTable 4096 (x.pkt.data.drop 512)
    if f.isMaster ∨ f.resultTaken ∨ f.answeredEpoch ≠ some (master, x.pkt.tag) then .next s1
    else match table.find? fun t => t.1 == s1.thr.fuses.serial.setWidth 32 with
      | none => .next s1
      | some (_, a) =>
        let s2 := flood (takeResult s1 (censusOf (x.pkt.data.take 512)) (BitVec.ofNat 16 k) (BitVec.ofNat 3 (k / 2 ^ 28)) master)
          (some x.door) x.pkt.param x.pkt.tag x.pkt.data
        if a = 0xFFFF then .next (excludeSelf s2)
        else
          let s3 := s2.onFabric fun f =>
            { f with devAddr := if f.addrSource then BitVec.ofNat 12 a else f.devAddr, assignWait := false }
          .next (checkLinks (fabricStageEnd s3) table)

/-- CENSUS_NOW: acts on the master only (R473). -/
def censusNowOp (s : State) : Res := if s.fabric.isMaster then .next (startCensus s) else .next s

/-- CENSUS_NOW as a BAR access of the host (R151, R157, R549). -/
def execCensusNow (s : State) : Res := barGo s (bar0 0x150000 (256 + s.fabric.en.toNat)) 1 (censusNowOp s)

/-! ### Beacons (R190-R193, R459, R460) -/

/-- A beacon read from its bytes (R214). -/
def parseBeacon (b : List Byte) : Beacon :=
  { state := match (fieldAt b 1 1) with | 0 => .unlocked | 1 => .acquiring | 2 => .locked | 3 => .holdover | _ => .virtual
    hops := BitVec.ofNat 16 (fieldAt b 2 2), phase := BitVec.ofNat 48 (fieldAt b 4 6),
    delayNs := BitVec.ofNat 32 (fieldAt b 12 4), mhz := BitVec.ofNat 32 (fieldAt b 16 4) }

/-- Doorways that lead away from the master for a beacon that came in by `d`: straight on, and every later dimension both
ways, never across a dateline (R191, R460). -/
def awayDoors (s : State) (d : DoorId) : List DoorId :=
  (List.finRange 6).filter fun e =>
    (decide (e = opposite d) || decide ((doorDim d).1 < (doorDim e).1)) && !crosses s e

/-- Ticks in a number of nanoseconds at a mains frequency in mHz (R183, R191). -/
def ticksOf (ns : Nat) (mhz : Nat) : Nat := ns * mhz * 65536 / 1000000000000

/-- Phase error: local minus projected time, as a signed number of ticks (R192). -/
def alignError (here proj : W48) : Int := (here - proj).toInt

/-- The phase base follows a beacon with a projected phase: the first sets phase time in one step, later ones give
ALIGN_ERR and PH_STATE (R191, R192). -/
def followBeacon (s : State) (b : Beacon) (proj : W48) : State :=
  if !s.phase.beaconSeen then
    phaseStageEnd (s.onPhase fun p =>
      { p with time := proj, st := b.state, mainsMhz := b.mhz, beaconSeen := true, missedBeacons := 0, bigErrors := 0,
               alignErr := 0, startPending := false })
  else
    let e := alignError s.phase.time proj
    let big : Bool := decide (e < -2 ∨ 2 < e)
    let n := if big then s.phase.bigErrors + 1 else 0
    let s1 := s.onPhase fun p =>
      { p with st := if big then .acquiring else b.state, mainsMhz := b.mhz, missedBeacons := 0, bigErrors := n,
               alignErr := BitVec.ofInt 32 e, startPending := false }
    if n = 4 then logDev s1 0x0505 else s1

/-- BEACON: a received beacon is projected with the delay of its link, followed and forwarded with the residence time in
ns (R191, R192). -/
def execBeacon (residence : Nat) (s : State) : Res :=
  match takePacket s fun x => x.pkt.typ == .beacon with
  | none => .next s
  | some (x, s1) =>
    if s1.fabric.isMaster then .next s1
    else
      let b := parseBeacon x.pkt.data
      let delay := b.delayNs.toNat + (s1.door x.door).delay.toNat / 4
      let fwd : Beacon := { b with delayNs := BitVec.ofNat 32 (delay + residence), hops := b.hops + 1 }
      let s2 := (awayDoors s1 x.door).foldl (fun s e => postOn s e .beacon (beaconBytes fwd)) s1
      .next (followBeacon s2 b (b.phase + BitVec.ofNat 48 (ticksOf delay b.mhz.toNat)))

/-- BEACON_MISSING: the fourth missing beacon in a row raises 0x0505 and enters HOLDOVER; at the eighth a candidate takes
over as master with 0x0B07 and repeats the census, and every device is open to a new master (R192, R459). -/
def execBeaconMissing (s : State) : Res :=
  if s.fabric.isMaster || !s.phase.beaconSeen then .next s
  else
    let n := s.phase.missedBeacons + 1
    let s1 := s.onPhase fun p => { p with missedBeacons := n }
    if n = 4 then .next (enterHoldover s1 0x0505)
    else if n = 8 then
      if s.fabric.candidate ∧ !s.fabric.excluded then
        .next (startCensus (logDev (s1.onFabric fun f =>
          { f with isMaster := true, masterAddr := f.devAddr, lowestSeen := some f.devAddr }) 0x0B07))
      else .next (s1.onFabric fun f => { f with lowestSeen := none })
    else .next s1

/-! ### Management packets (R115) -/

/-- MLADYX: a packet of stream bytes is a segment of a request (R100, R115). -/
def execMladyx (s : State) : Res :=
  match takePacket s fun x => x.pkt.typ == .mladyx with
  | none => .next s
  | some (x, s1) =>
    let p := x.pkt
    let who := Requester.fabric p.src
    if !serverUp s1 then .next s1
    else if startsStream s1 who p.seq p.wing.1 then .next (takeFirst s1 who p.seq 0 false p.data (lastByLength 256 p.data p.data))
    else .next (takeLater s1 who p.seq (BitVec.ofNat 4 p.wing.1) false p.data fun b => lastByLength 256 p.data b)

/-! ### Requests at their target (R26, R51, R231, R283, R286, R320, R472) -/

/-- The span test at the target: the same wing, in RUN, in a span with the same SPAN_ID (R51). -/
def spanTest (s : State) (p : Packet) : Bool :=
  let x := s.wing p.wing
  x.st == .run && x.inSpan && x.spanId == p.span

/-- OFFSET of a request descriptor as a device address, through the wing's windows (R26, R472). -/
def reqAddr (s : State) (p : Packet) : Option Nat := wingAddr s p.wing (fieldAt p.data 4 5)

/-- The operation of an ATOM_REQ (R359, R472). -/
def atomOpOf : Nat → Option AtomOp
  | 0 => some .add | 1 => some .swap | 2 => some .cas | 3 => some .minS | 4 => some .maxS | 5 => some .minU
  | 6 => some .maxU | _ => none

/-- A remote Larder request is accepted or refused at the target: span test, windows, key (R26, R51, R265). -/
def acceptRemote (s : State) (p : Packet) (k : Nat → Option HomeKind) : State :=
  if !spanTest s p then sendRefuse s p.wing p.src p.tag 0x0102
  else match reqAddr s p with
    | none => sendRefuse s p.wing p.src p.tag 0x0102
    | some a =>
      if !larderOpen s p.wing then sendRefuse s p.wing p.src p.tag 0x0203
      else match k a with
        | none => sendRefuse s p.wing p.src p.tag 0x0705
        | some k => postReq s { kind := k, line := a / 64, src := .remote p.src p.tag p.wing }

/-- RD_REQ: served as NC_RD (R283). -/
def execRdReq (s : State) : Res :=
  match takePacket s fun x => x.pkt.typ == .rdReq with
  | none => .next s
  | some (x, s1) => .next (acceptRemote s1 x.pkt fun _ => some .ncRd)

/-- WR_REQ: served as NC_WR with its byte enables (R283, R472). -/
def execWrReq (s : State) : Res :=
  match takePacket s fun x => x.pkt.typ == .wrReq with
  | none => .next s
  | some (x, s1) => .next (acceptRemote s1 x.pkt fun _ =>
      some (.ncWr (bytesAt (x.pkt.data ++ List.replicate 96 0) 32 64) (BitVec.ofNat 64 (fieldAt x.pkt.data 16 8))))

/-- ATOM_REQ: performed far at the target's home agent (R286). -/
def execAtomReq (s : State) : Res :=
  match takePacket s fun x => x.pkt.typ == .atomReq with
  | none => .next s
  | some (x, s1) => .next (acceptRemote s1 x.pkt fun a =>
      (atomOpOf (fieldAt x.pkt.data 2 1 % 16)).map fun op =>
        .atom op (BitVec.ofNat 32 (fieldAt x.pkt.data 24 4)) (BitVec.ofNat 32 (fieldAt x.pkt.data 28 4))
          ⟨a / 4 % 16, Nat.mod_lt _ (by decide)⟩)

/-- The remote-service context of a stream of another device. -/
def remoteCtx (s : State) (p : Packet) (n : Fin 64) : Option (Fin 16) :=
  lowest s.cellar.remote fun _ c => c.used && c.wing == p.wing && c.requester == p.src && c.stream == n

/-- PAGE_REQ: a page of a bound stream is queued; the first request of a stream binds it, and is refused with 0x0102,
0x0609 (a page outside the image too) or 0x0608; the end of a stream frees its context (R231). -/
def execPageReq (s : State) : Res :=
  match takePacket s fun x => x.pkt.typ == .pageReq with
  | none => .next s
  | some (x, s1) =>
    let p := x.pkt
    let img : Fin 32 := ⟨fieldAt p.data 0 4 % 32, Nat.mod_lt _ (by decide)⟩
    let n : Fin 64 := ⟨fieldAt p.data 8 4 % 64, Nat.mod_lt _ (by decide)⟩
    let q : PageReqQ := { wing := p.wing, requester := p.src, stream := n, image := img, page := fieldAt p.data 4 4,
                          ttd := fieldAt p.data 12 4, tag := p.tag }
    let outside : Bool := decide (4 * (s1.image p.wing img).quarterPages.toNat ≤ q.page)
    let queued (s : State) : State := s.onCellar fun c => { c with pageReqs := c.pageReqs ++ [q] }
    match remoteCtx s1 p n with
    | some k =>
      if p.param = pageReqUnbind then
        let own (q : PageReqQ) : Bool := q.wing == p.wing && q.requester == p.src && q.stream == n
        .next (s1.onCellar fun c =>
          { c with
            remote := vmod c.remote k fun y => { y with used := false }
            pageReqs := c.pageReqs.filter fun q => !own q })
      else if !spanTest s1 p then .next (sendRefuse s1 p.wing p.src p.tag 0x0102)
      else if outside then .next (sendRefuse s1 p.wing p.src p.tag 0x0609)
      else .next (queued s1)
    | none =>
      if p.param = pageReqUnbind then .next s1
      else if !spanTest s1 p then .next (sendRefuse s1 p.wing p.src p.tag 0x0102)
      else if (s1.image p.wing img).st ≠ .committed ∨ outside then
        .next (sendRefuse (noteImageCond s1 p.wing img 0x0609) p.wing p.src p.tag 0x0609)
      else match lowest s1.cellar.remote fun _ c => !c.used with
        | none => .next (sendRefuse (noteImageCond s1 p.wing img 0x0608) p.wing p.src p.tag 0x0608)
        | some k =>
          let ctx : RemoteCtx := { used := true, wing := p.wing, requester := p.src, stream := n, image := img }
          .next (queued (s1.onCellar fun c => { c with remote := vset c.remote k ctx }))

/-- Room and queue that a CREDIT_DRAW names. -/
def drawRoom (p : Packet) : RoomId := ⟨p.param / 32 % 32, Nat.mod_lt _ (by decide)⟩
def drawQueue (p : Packet) : Fin 32 := ⟨p.param % 32, Nat.mod_lt _ (by decide)⟩

/-- A credit draw can be dealt with: it is refused or dropped, or its CREDIT_Q has a handle (R320, R321, R447). -/
def drawReady (s : State) (p : Packet) : Bool :=
  let r := drawRoom p
  let y := s.room r
  let d := y.hqs.get (drawQueue p)
  !spanTest s p || roomOwner s r != p.wing ||
    (moveOpen y && (d.kind != .receive || (y.hqs.get d.auxQ).kind != .local || !(y.hqs.get d.auxQ).handles.isEmpty))

/-- CREDIT_DRAW: a handle of CREDIT_Q is granted to the sender; a draw that fails the span test is not delivered, one for
a Room or queue that is not so configured is refused, a bad handle faults its Room (R51, R318, R320). -/
def execCreditDraw (s : State) : Res :=
  match takePacket s fun x => x.pkt.typ == .creditDraw && drawReady s x.pkt with
  | none => .next s
  | some (x, s1) =>
    let p := x.pkt
    let r := drawRoom p
    let y := s1.room r
    let d := y.hqs.get (drawQueue p)
    if !spanTest s1 p then .next s1
    else if roomOwner s1 r ≠ p.wing then .next (sendRefuse s1 p.wing p.src p.tag 0x0102)
    else if d.kind ≠ .receive ∨ (y.hqs.get d.auxQ).kind ≠ .local then .next (sendRefuse s1 p.wing p.src p.tag 0x0805)
    else match (y.hqs.get d.auxQ).handles with
      | [] => .next s1
      | hc :: _ =>
        if !handleOk y r d.auxQ hc || !handleOk y r (drawQueue p) hc then .next (linkFault s1 r 0x0805)
        else
          let s2 := s1.onRoom r fun y => hqDrop y d.auxQ
          .next (postPacket s2 { wingPacket s2 .creditGrant 1 p.wing p.src p.tag (leBytes 4 hc.toNat) with
            param := hc.toNat })

/-! ### Answers at their requester (R465, R471) -/

/-- The outstanding request that an answer names. -/
def findReq (s : State) (p : Packet) (t : PktType → Bool) : Option OutReq :=
  s.fabric.reqs.find? fun q => q.tag == p.tag && q.dest == p.src && t q.typ

/-- A request is closed and its tag released. -/
def dropReq (s : State) (q : OutReq) : State := s.onFabric fun f => { f with reqs := f.reqs.erase q }

/-- An answer of a type is taken with its request, which is closed; one with no request is late and counted (R465). -/
def takeAnswer (s : State) (typ : PktType) (t : PktType → Bool) : Option (Packet × Option OutReq × State) :=
  match takePacket s fun x => x.pkt.typ == typ with
  | none => none
  | some (x, s1) =>
    match findReq s1 x.pkt t with
    | some q => some (x.pkt, some q, dropReq s1 q)
    | none => some (x.pkt, none, s1.onDoor x.door fun y => { y with late := satAdd y.late 1 })

/-- A Newel waits for a remote load or atomic. -/
def waitsRemote (n : Newel) : Bool :=
  match n.wait with
  | .load _ _ a _ => a.getLsbD 47
  | .farAtom _ a _ => a.getLsbD 47
  | _ => false

/-- A handle link loses its credit draw. -/
def clearDraw (s : State) (r : RoomId) (q : Fin 32) : State :=
  s.onRoom r fun x => { x with hqs := vmod x.hqs q fun k => { k with draw := none } }

/-- A request ends without its result: access trap of a Newel, halt of an A-stream's Room, fault of a Cellar stream or of
its Room for a bind, fault of a link's Room (R231, R320, R465). -/
def failReq (s : State) (q : OutReq) (cond : Cond) : State :=
  match q.by_ with
  | .newel c va =>
    if q.typ = .wrReq then
      let s1 := onCore s c fun n => { n with remoteOut := n.remoteOut - 1 }
      if (coreNewel s c).wait = .ended then s1 else trapHere s1 c 4 va cond
    else
      let s1 := if q.typ = .atomReq then onCore s c fun n => { n with remoteOut := n.remoteOut - 1 } else s
      if waitsRemote (coreNewel s c) then endLoadTrap s1 c cond else s1
  | .aLine r id =>
    match (s.room r).astream.lines.find? fun l => decide (l.id = id / 2) with
    | some l => haltRoom s r cond ⟨2, BitVec.ofNat 32 l.pc, l.count⟩
    | none => s
  | .stream n ix =>
    let x := s.cellar.streams.get n
    if x.st = .free then s
    else
      let s1 := s.onStream n fun y => { y with flight := y.flight.filter fun p => p.index != ix }
      if x.unbinding then (if (s1.cellar.streams.get n).flight.isEmpty then releaseStream s1 n else s1)
      else if cond = 0x0102 ∨ cond = 0x0609 ∨ cond = 0x0608 then haltRoom s1 x.room cond (FaultAt.astream (s.room x.room))
      else faultStreamWith s1 n cond 0xFF 0
  | .link r qn => linkFault (clearDraw s r qn) r cond

/-- RD_RSP: the line of a remote read (R465). -/
def execRdRsp (s : State) : Res :=
  match takeAnswer s .rdRsp (· == .rdReq) with
  | some (p, some q, s1) =>
    match q.by_ with
    | .newel c _ =>
      if !waitsRemote (coreNewel s1 c) then .next s1
      else if p.poison then .next (endLoadTrap s1 c 0x0703)
      else match (coreNewel s1 c).wait with
        | .load _ _ a _ => .next (endLoad s1 c (p.data.drop (a.toNat % 64)))
        | _ => .next s1
    | .aLine r id => .next (answerLine s1 r id (p.data, p.poison, 0))
    | _ => .next s1
  | some (_, none, s1) => .next s1
  | none => .next s

/-- WR_ACK: a remote write is acknowledged (R289, R471). -/
def execWrAck (s : State) : Res :=
  match takeAnswer s .wrAck (· == .wrReq) with
  | some (_, some q, s1) =>
    match q.by_ with
    | .newel c _ => .next (onCore s1 c fun n => { n with remoteOut := n.remoteOut - 1 })
    | .aLine r id => .next (answerLine s1 r id ([], false, 0))
    | _ => .next s1
  | some (_, none, s1) => .next s1
  | none => .next s

/-- ATOM_RSP: the old value of a remote atomic; the predictor follows CONTENDED (R285, R286, R471). -/
def execAtomRsp (s : State) : Res :=
  match takeAnswer s .atomRsp (· == .atomReq) with
  | some (p, some q, s1) =>
    match q.by_ with
    | .newel c _ =>
      let s2 := onCore s1 c fun n => { n with remoteOut := n.remoteOut - 1 }
      match (coreNewel s2 c).wait with
      | .farAtom rd a _ =>
        if !a.getLsbD 47 then .next s2
        else if p.poison then .next (endLoadTrap s2 c 0x0703)
        else .next (onCore s2 c fun n =>
          retire (regSet (predMove n a.toNat (fieldAt p.data 4 1 % 2 == 1)) rd (BitVec.ofNat 32 (fieldAt p.data 0 4))))
      | _ => .next s2
    | _ => .next s1
  | some (_, none, s1) => .next s1
  | none => .next s

/-- PAGE_DATA: a quarter page; the fourth lands the page (R231, R452). -/
def execPageData (s : State) : Res :=
  match takeAnswer s .pageData (· == .pageReq) with
  | some (p, some q, s1) =>
    let got := q.got ++ p.data
    match q.by_ with
    | .stream n ix =>
      if got.length < 16384 then .next (s1.onFabric fun f => { f with reqs := f.reqs ++ [{ q with got := got }] })
      else match (s1.cellar.streams.get n).flight.find? fun g => g.index == ix with
        | some g => .next (landPage s1 n g got)
        | none => .next s1
    | _ => .next s1
  | some (_, none, s1) => .next s1
  | none => .next s

/-- The packets of a move: 64 slots each, the last one marked; private channel or MOVE (R318, R451, R471). -/
def sendMove (s : State) (w : WingId) (dst : DevAddr) (hc : W32) (destQ : Fin 32) (bs : List Byte) : State :=
  let parts := max 1 ((bs.length + 4095) / 4096)
  (List.range parts).foldl (fun s i =>
    postPacket s { wingPacket s .move (moveVc s w dst 4) w dst (BitVec.ofNat 16 i) (bytesAt bs (4096 * i) 4096) with
      param := (hc.toNat * 32 + destQ.1) * 2 + b2n (decide (i + 1 = parts)) }) s

/-- A grant whose Room is not open to new moves waits (R321). -/
def grantReady (s : State) (p : Packet) : Bool :=
  match findReq s p (· == .creditDraw) with
  | some q => match q.by_ with
    | .link r _ => moveOpen (s.room r)
    | _ => true
  | none => true

/-- CREDIT_GRANT: the move starts with the granted handle, its contents go out; a handle too small faults the Room
(R318, R320). -/
def execCreditGrant (s : State) : Res :=
  match takePacket s fun x => x.pkt.typ == .creditGrant && grantReady s x.pkt with
  | none => .next s
  | some (x, s0) =>
    match findReq s0 x.pkt (· == .creditDraw) with
    | none => .next (s0.onDoor x.door fun y => { y with late := satAdd y.late 1 })
    | some q =>
      let s1 := dropReq s0 q
      match q.by_ with
      | .link r qn =>
        let s2 := clearDraw s1 r qn
        let k := (s2.room r).hqs.get qn
        let hc : W32 := BitVec.ofNat 32 x.pkt.param
        match k.handles with
        | [] => .next s2
        | hp :: _ =>
          if handleSize hc < handleSize hp then .next (linkFault s2 r 0x0805)
          else
            let s3 := s2.onRoom r fun y =>
              { hqDrop y qn with hqs := vmod (hqDrop y qn).hqs qn fun k => { k with flight := k.flight ++
                [{ hp := hp, hc := hc, destRoom := k.destRoom, destQ := k.destQ, returnQ := k.auxQ, remote := some k.dev }] } }
            .next (sendMove s3 (roomOwner s3 r) k.dev hc k.destQ (handleRead (s2.room r) hp))
      | _ => .next s1

/-- REFUSE: a request ends with the condition of the refusal (R465). -/
def execRefuse (s : State) : Res :=
  match takeAnswer s .refuse fun _ => true with
  | some (p, some q, s1) => .next (failReq s1 q (BitVec.ofNat 16 p.param))
  | some (_, none, s1) => .next s1
  | none => .next s

/-- The handle, queue and last mark of a MOVE. -/
def moveHandle (p : Packet) : W32 := BitVec.ofNat 32 (p.param / 64)
def moveQueue (p : Packet) : Fin 32 := ⟨p.param / 2 % 32, Nat.mod_lt _ (by decide)⟩

/-- A MOVE can be taken: it is not delivered, or its Room is open and its queue has a place for the last part (R321). -/
def moveReady (s : State) (p : Packet) : Bool :=
  match idx 32 (handleRoom (moveHandle p)) with
  | some r =>
    !spanTest s p || roomOwner s r != p.wing ||
      (moveOpen (s.room r) && (p.param % 2 == 0 || decide (((s.room r).hqs.get (moveQueue p)).handles.length < 32)))
  | none => true

/-- MOVE: contents arrive in the granted handle; the last part pushes it to DEST_Q (R318, R320). A move that fails the span
test is not delivered (R51). -/
def execMove (s : State) : Res :=
  match takePacket s fun x => x.pkt.typ == .move && moveReady s x.pkt with
  | none => .next s
  | some (x, s1) =>
    let p := x.pkt
    let hc := moveHandle p
    match idx 32 (handleRoom hc) with
    | none => .next s1
    | some r =>
      if !spanTest s1 p || roomOwner s1 r != p.wing || !handleOk (s1.room r) r (moveQueue p) hc then .next s1
      else
        let s2 := s1.onRoom r fun y => handleWrite y hc (64 * p.tag.toNat) p.data
        .next (if p.param % 2 = 1 then putHandle s2 r (moveQueue p) hc else s2)

/-- REQ_TIMEOUT: an unanswered request or draw releases its tag and ends with 0x0B04 (R465). -/
def execReqTimeout (tag : W16) (s : State) : Res :=
  match s.fabric.reqs.find? fun q => q.tag == tag with
  | some q => .next (failReq (dropReq s q) q 0x0B04)
  | none => .next s

end Sys2Proof.Machine
end

