-- ==== Sys2Proof/Machine/Resets.lean ====
section
/-!
DEFINITION. Machine/Resets.lean: operating-point steps (R541-R546), the domain page (R550-R555, R561), Room resets (R553) and
the reset sources (R556-R560).
-/
namespace Sys2Proof.Machine
open Sys2Proof

/-! ### Operating-point steps (R542-R546) -/

/-- VOUT_COMMAND_DONE: the settle time of a step up begins, or a step down is complete (R542). -/
def execVoutCommandDone (i : StoreyId) (s : State) : Res :=
  let x := s.storey i
  if x.step ≠ .volt then .next s
  else .next (s.onStorey i fun x => { x with step := if x.op.toNat < x.target.toNat then .settle else .idle })

/-- SETTLE_EXPIRY: the Storey clock switches to REF_CLK and the PLL is set (R542). -/
def execSettleExpiry (i : StoreyId) (s : State) : Res :=
  if (s.storey i).step ≠ .settle then .next s else .next (s.onStorey i fun x => { x with step := .waitLock })

/-- PLL_LOCK_DETECT: 256 reference cycles are waited (R542). -/
def execPllLockDetect (i : StoreyId) (s : State) : Res :=
  if (s.storey i).step ≠ .waitLock then .next s else .next (s.onStorey i fun x => { x with step := .hold })

/-- LOCK_HOLD_EXPIRY: the Storey runs from the PLL and OP is the new point; a step down then writes the lower voltage
(R542, R544). -/
def execLockHoldExpiry (i : StoreyId) (s : State) : Res :=
  let x := s.storey i
  if x.step ≠ .hold then .next s
  else
    let up := decide (x.op.toNat < x.target.toNat)
    let s1 := s.onStorey i fun x =>
      { x with op := x.target, relocks := satAdd x.relocks 1, failsInRow := 0, checkRail := up && s.sys.boardValid,
               step := if !up && s.sys.boardValid then .volt else .idle }
    .next (if !up && s.sys.boardValid then s1.send (.pmbus i (opPoint x.target.toNat).2) else s1)

/-- RELOCK_TIMEOUT: no lock detect 100 µs after the PLL was set: the Storey stays on REF_CLK, OP reads the lower point, and
after three failures in a row no further step is tried (R545). -/
def execRelockTimeout (i : StoreyId) (s : State) : Res :=
  let x := s.storey i
  if x.step ≠ .waitLock then .next s
  else
    let n := x.failsInRow + 1
    .next (logCond (s.onStorey i fun x =>
      { x with step := .idle, op := if x.target.toNat < x.op.toNat then x.target else x.op, failsInRow := n,
               stuck := decide (3 ≤ n) }) 0x0E01 0xFF 0xFF (BitVec.ofNat 32 n))

/-! ### The domain page (R551-R555, R561) -/

/-- FOY_DOM_GATE: the clock of a Storey stops while its GATE bit is set (R539, R554). -/
def gateWrite (s : State) (v : W32) : State :=
  let g : BitVec 4 := v.extractLsb' 7 4
  s.onSys fun y =>
    { y with domGate := g, clkRunning := (y.clkRunning &&& ~~~(0x780 : BitVec 17)) ||| (((~~~g).setWidth 17) <<< 7) }

/-- A Room is put in reset: its streams unbound, its cache discarded, its registers at reset; a quarantine stays (R553,
R597). -/
def holdRoom (s : State) (r : RoomId) : State :=
  let q := (s.room r).st == .quarantined
  (resetRoom s r).onRoom r fun x =>
    { x with held := true, zeroing := false, st := if q then .quarantined else .idle, lastCond := if q then 0x0820 else 0 }

/-- A Room leaves its reset: its Pantry and program memories are zeroed (R553). -/
def releaseRoom (s : State) (r : RoomId) : State :=
  s.onRoom r fun x =>
    { x with held := false, zeroing := true, st := if x.st = .quarantined then .quarantined else .loading }

/-- FOY_ROOM_HOLD: bit n holds Room n in reset (R553, R561). -/
def roomHoldWrite (s : State) (v : W32) : State :=
  let old := s.sys.roomHold
  let s1 := s.onSys fun y => { y with roomHold := v }
  let s2 := (onesOf (v &&& ~~~old)).foldl holdRoom s1
  (onesOf (old &&& ~~~v)).foldl releaseRoom s2

/-- FOY_ROOM_INVAL: bits set stay set until the Room's cache is discarded (R281, R561). -/
def roomInvalWrite (s : State) (v : W32) : State := s.onSys fun y => { y with roomInval := y.roomInval ||| v }

/-- A Storey in reset: its registers and those of its Rooms return to reset (R554). -/
def resetStorey (s : State) (i : StoreyId) : State :=
  let s1 := (List.range 8).foldl (fun s k => holdRoom s ⟨(8 * i.1 + k) % 32, by omega⟩) s
  let s2 := (List.range 8).foldl (fun s k => s.onRoom ⟨(8 * i.1 + k) % 32, by omega⟩ fun x =>
    { x with held := s.sys.roomHold.getLsbD (8 * i.1 + k) }) s1
  s2.onStorey i fun x => { x with gang := 0, lockstep := 0, watchCount := 0 }

/-- A Doorway in reset: ABSENT, its queues dropped, its clock stopped (R464, R555). -/
def resetDoor (s : State) (d : DoorId) : State :=
  (s.onDoor d fun x => { Doorway.init with claims := x.claims }).onSys fun y =>
    { y with clkRunning := y.clkRunning &&& ~~~((1 : BitVec 17) <<< (11 + d.1)) }

/-- FOY_DOM_HOLD: bit c holds the domain of a Storey or a Doorway in reset; writes are not checked against any sequence
(R554, R555, R561). -/
def domHoldWrite (s : State) (v : W32) : State :=
  let h : BitVec 10 := v.extractLsb' 7 10
  let new := h &&& ~~~s.sys.domHold
  let s1 := s.onSys fun y =>
    { y with domHold := h, resetHeld := (y.resetHeld &&& 0x7F) ||| ((h.setWidth 17) <<< 7) }
  let s2 := (List.finRange 4).foldl (fun s i => if new.getLsbD i.1 then resetStorey s i else s) s1
  (List.finRange 6).foldl (fun s d => if new.getLsbD (4 + d.1) then resetDoor s d else s) s2

/-- A BAR0 access names the register page of a Room. -/
def namesRoom (r : RoomId) : BarAccess → Bool
  | .write off _ => off / 0x400 == 0x500 + r.1
  | .read off _ => off / 0x400 == 0x500 + r.1
  | .resume q => q == r
  | .winWrite .. | .winRead .. | .portWrite .. | .portRead .. => false

/-- Nothing of a Room is in flight across a crossing (R561). -/
def roomQuiet (s : State) (r : RoomId) : Bool :=
  let c := s.larder.caches.get (roomCore r)
  let mine (a : Agent) : Bool := match a with
    | .cache k => k == roomCore r
    | .astream q _ => q == r
    | .remote .. => false
  c.req.isNone && c.wb.isNone && (s.room r).newel.stores.isEmpty && (s.room r).newel.remoteOut == 0 &&
    (s.room r).astream.lines.isEmpty && (s.larder.net.all fun m => !mine m.peer) &&
    (s.larder.homes.toList.all fun h => h.trackers.all fun t => !mine t.req.src) &&
    (s.cellar.streams.toList.all fun x => x.st == .free || x.room != r || x.flight.isEmpty) &&
    (s.rooms.toList.all fun x => x.hqs.toList.all fun q => q.flight.all fun m => m.remote.isSome || m.destRoom != r) &&
    ((s.room r).hqs.toList.all fun q => q.flight.isEmpty) && !(s.host.barBlocked.any (namesRoom r))

/-- FOY_ROOM_QUIET (R561). -/
def quietMask (s : State) : W32 :=
  (List.finRange 32).foldl (fun m r => if roomQuiet s r then m ||| ((1 : W32) <<< r.1) else m) 0

/-- ROOM_INVAL_DONE: the cache of a Room is discarded (R281, R553). -/
def execRoomInvalDone (r : RoomId) (s : State) : Res :=
  if !s.sys.roomInval.getLsbD r.1 then .next s
  else .next ((discardCache s (roomCore r)).onSys fun y =>
    { y with roomInval := y.roomInval &&& ~~~((1 : W32) <<< r.1) })

/-- ROOM_ZEROING_DONE: the Room holds zeros with every tag empty and reads IDLE; a CLEARING wing goes on when it was the last
(R43, R553). -/
def execRoomZeroingDone (r : RoomId) (s : State) : Res :=
  let x := s.room r
  if !x.zeroing || x.held || !domainUp s (storeyDomain r) then .next s
  else
    let s1 := s.onRoom r fun x =>
      { x with zeroing := false, pantry := [], full := [], st := if x.st = .quarantined then .quarantined else .idle,
               newel := { x.newel with imem := [], dmem := [] },
               astream := { x.astream with strm := { x.astream.strm with mem := [] } },
               xstream := { x.xstream with mem := [] } }
    .next ((List.finRange 16).foldl (fun s w => if w ≠ 0 ∧ (s.wing w).roomMask.getLsbD r.1 then clearingKeys s w else s) s1)

/-! ### Resets (R556-R560, R565, R580) -/

/-- What a start finds of the Cellar: images, blocks and maps stay in the stacks; streams, queues and counters are lost; a
power-on reset also loses the µs count from which powered time runs (R258, R580). -/
def cellarAfter (c : Cellar) (por : Bool) : Cellar :=
  { Cellar.init with
    images := c.images,
    stk := c.stk.map fun k =>
      { Stack.init with
        st := k.st, failedDie := k.failedDie, lostDies := k.lostDies, factoryBad := k.factoryBad, grownBad := k.grownBad,
        blocks := k.blocks.map fun b => (b.1, { b.2 with inflight := 0 }),
        maps := k.maps, snapPending := k.snapPending, reloc := k.reloc, raised625 := k.raised625, lastPass := k.lastPass,
        powered := if por then max (k.maps.get 0).powered (k.maps.get 1).powered else k.powered } }

/-- The Threshold after a device reset: its state, failures and count are kept, debug unlocks and slot 16 are not, and an
erase restarts its steps 4, 6 and 7 (R57, R78, R557). -/
def threshAfter (t : Threshold) : Threshold :=
  { t with debugWings := 0, debugScope := 0, slots := vset t.slots 16 none,
           erase := t.erase.map fun e =>
             if t.st = .erasing then { e with keyFileLeft := true, scrubLeft := true, porchLeft := true } else e }

/-- A device held in reset: what R580 keeps is kept, everything else is at its reset value. -/
def heldInReset (s : State) (cause : Byte) (por : Bool) : State :=
  let thr : Threshold := if por then { Threshold.init with fuses := s.thr.fuses } else threshAfter s.thr
  let st := s.sys.straps
  { State.reset with
    thr := thr, mgmt := Mgmt.init s.mgmt.nor, cellar := cellarAfter s.cellar por,
    larder := { Larder.init s.larder.fitted64 with junk := s.larder.junk + 1, refuseAll := thr.erase.any (·.scrubLeft) },
    fabric := Fabric.init st.pos st.posAuto (st.master && st.posAuto),
    sys := { System.init with
      part064 := s.sys.part064, strapPins := s.sys.strapPins, straps := s.sys.straps, fwSlots := s.sys.fwSlots,
      asserted := s.sys.asserted, resetCause := cause, inReset := true, resetUs := thr.us, clkRunning := 1,
      resetHeld := 0x1FFFE },
    pending := s.pending, free := s.free, out := s.out }

/-- Code of a reset source (R556). -/
def ResetSrc.code : ResetSrc → Byte
  | .por => 1 | .sys => 2 | .perst => 3 | .watchdog => 4 | .refClk => 5

/-- A device reset begins, or another source joins it; the lowest code is recorded (R12, R556). -/
def assertReset (s : State) (r : ResetSrc) (hold : Bool) : State :=
  let c := if s.sys.inReset ∧ s.sys.resetCause.toNat < r.code.toNat then s.sys.resetCause else r.code
  let s1 := heldInReset s c (r == .por)
  if hold then s1.onSys fun y => { y with asserted := r :: y.asserted.filter (· != r) } else s1

/-- A reset source releases. -/
def releaseSource (s : State) (r : ResetSrc) : State := s.onSys fun y => { y with asserted := y.asserted.filter (· != r) }

/-- POWER_ON_RESET: VDD_AON below its POR threshold resets everything (R556, R607). -/
def execPowerOnReset (s : State) : Res := .next (assertReset s .por true)

/-- POR_END: the straps are sampled; MASTER_N low with POS_AUTO low is ignored and raises 0x0B07, which reaches the log once
the firmware runs (R454, R455, R565, R566). -/
def execPorEnd (s : State) : Res :=
  if !s.sys.asserted.contains .por then .next s
  else
    let p := s.sys.strapPins
    .next { releaseSource s .por with
      fabric := Fabric.init p.pos p.posAuto (p.master && p.posAuto),
      sys := { (releaseSource s .por).sys with
        straps := p, romLog := if p.master && !p.posAuto then s.sys.romLog ++ [(0x0B07, 0)] else s.sys.romLog } }

/-- SYS_RESET_N: low for 1 µs or more asserts a device reset, high releases it (R556). -/
def execSysResetN (low : Bool) (s : State) : Res := .next (if low then assertReset s .sys true else releaseSource s .sys)

/-- PERST_N: low asserts a device reset, high releases it (R556). -/
def execPerstN (low : Bool) (s : State) : Res := .next (if low then assertReset s .perst true else releaseSource s .perst)

/-- WATCHDOG_EXPIRY: the Foyer watchdog was not serviced for 2 s (R559). -/
def execWatchdogExpiry (s : State) : Res := if s.sys.inReset then .next s else .next (assertReset s .watchdog false)

/-- REF_CLK_LOSS: REF_CLK absent or outside 90-110 MHz for 1 ms, or back in range for 1 ms (R556, R560). -/
def execRefClkLoss (lost : Bool) (s : State) : Res :=
  .next (if lost then assertReset s .refClk true else releaseSource s .refClk)

/-- TRST_N low: the TAP controller only (R556). -/
def execTrstN (s : State) : Res := .next (s.onThr fun t => { t with tap := .idcode })

/-- HOLDUP_MONITOR: with step 2 of a level 3 erase pending or running, the clocks of domains 1-16 stop; else no effect
(R609). -/
def execHoldupMonitor (s : State) : Res :=
  match s.thr.erase with
  | some e => if e.epochLeft then .next (s.onSys fun y => { y with clkRunning := y.clkRunning &&& 1 }) else .next s
  | none => .next s

/-- DEVICE_RESET_RELEASE: with no source asserted the internal reset is released and the boot ROM starts (R557, R565,
R571). -/
def execDeviceResetRelease (s : State) : Res :=
  if !s.sys.inReset || !s.sys.asserted.isEmpty then .next s
  else .next (s.onSys fun y => { y with inReset := false, clkRunning := 0x79F, resetHeld := 0x60, bootStage := 1 })

end Sys2Proof.Machine
end

