-- ==== Sys2Proof/Machine/Boot.lean ====
section
/-!
DEFINITION. Machine/Boot.lean: the start from the boot ROM to READY and the end of stage FABRIC (R567-R588), and the Cellar's
recovery (R258-R260).
-/
namespace Sys2Proof.Machine
open Sys2Proof

/-! ### The boot ROM (R568-R570, R583-R585) -/

/-- Bytes of a target of a segment (R584, R588, R505). -/
def targetSize : Nat → Nat
  | 1 => 0x40000 | 2 => 0x40000 | 3 => 0x1000000 | 4 => 0x10000 | 5 => 0x10000 | _ => 0

/-- Segment `i` of an image: target, destination, source, length. -/
def segment (im : List Byte) (i : Nat) : Nat × Nat × Nat × Nat :=
  let o := 256 + 16 * i
  (fieldAt im o 1, fieldAt im (o + 4) 4, fieldAt im (o + 8) 4, fieldAt im (o + 12) 4)

/-- Check 1 of R569. -/
def imageShapeOk (im : List Byte) : Bool :=
  let len := fieldAt im 8 4
  let n := fieldAt im 24 2
  decide (fieldAt im 0 4 = 0x474F4659 ∧ fieldAt im 4 1 = 1 ∧ len ≤ 4194304 ∧ len % 16 = 0 ∧ len ≤ im.length ∧ 1 ≤ n ∧ n ≤ 8 ∧
    fieldAt im 28 4 < max 1 len) &&
  (List.range n).all fun i =>
    let g := segment im i
    decide (1 ≤ g.1 ∧ g.1 ≤ 5 ∧ g.2.1 + g.2.2.2 ≤ targetSize g.1 ∧ g.2.2.1 + g.2.2.2 ≤ len)

/-- The first check that refuses a slot with its code; `none` when the image runs (R569). -/
def slotRefused (s : State) (im : List Byte) : Option (Nat × Cond) :=
  if !imageShapeOk im then some (1, 0x0F01)
  else if !Config.keyHashOk s.thr.fuses.fwKeyHash (bytesAt im 32 96) then some (2, 0x0F01)
  else if !Config.imageSigOk s.thr.fuses.fwKeyHash (im.take (fieldAt im 8 4)) then some (3, 0x0F01)
  else if fieldAt im 12 4 < s.thr.fuses.fwSvn.1 then some (4, 0x0F02)
  else none

/-- The slots in the order in which the ROM tries them (R568). -/
def slotOrder (s : State) : List (Fin 2) :=
  let a := s.sys.fwSlots.get 0
  let b := s.sys.fwSlots.get 1
  match a.recordOk, b.recordOk with
  | true, true => if a.seq.toNat < b.seq.toNat then [1, 0] else [0, 1]
  | false, true => [1, 0]
  | _, _ => [0, 1]

/-- A segment loaded into its target (R584). -/
def loadSegment (im : List Byte) (s : State) (i : Nat) : State :=
  let g := segment im i
  let bs := bytesAt im g.2.2.1 g.2.2.2
  match g.1 with
  | 1 => { s with foyerNewel := { s.foyerNewel with imem := zwrite s.foyerNewel.imem g.2.1 bs } }
  | 2 => { s with foyerNewel := { s.foyerNewel with dmem := zwrite s.foyerNewel.dmem g.2.1 bs } }
  | 3 => s.onSys fun y => { y with foyerPriv := zwrite y.foyerPriv g.2.1 bs }
  | 4 => { s with porchNewel := { s.porchNewel with imem := zwrite s.porchNewel.imem g.2.1 bs } }
  | _ => { s with porchNewel := { s.porchNewel with dmem := zwrite s.porchNewel.dmem g.2.1 bs } }

/-- The board block of an image, if it is present and well formed (R585, R586). -/
def boardBlock (im : List Byte) : Option (List Byte) :=
  let o := fieldAt im 28 4
  let b := bytesAt im o 64
  if o ≠ 0 ∧ b.length = 64 ∧ 1 ≤ fieldAt b 6 1 ∧ fieldAt b 6 1 ≤ 4 ∧ zeroAt b 7 1 ∧ zeroAt b 24 40 then some b else none

/-! ### Stage FOYER (R572) -/

/-- Persistent entries take their kept values (R97, R580); the Fusebox and the CAN controller use them from here. -/
def restoreEntries (s : State) (c : NorContent) : State :=
  let s1 := c.entries.foldl (fun s e =>
    match objectOf (BitVec.ofNat 16 (e.1 / 256)) with
    | some o => setEntry s o (e.1 % 256) e.2
    | none => s) s
  (s1.onMgmt fun m => { m with ratesInForce := m.rates }).onFuse fun f =>
    { f with rampUsed := f.rampLimit, fanCeilUsed := f.fanCeil,
             allot := f.deviceCap.setWidth 32 }

/-- A CA key resumes at P + 256, saturating (R70). -/
def resumeKey (filled : Bool) (k : CaKey) : CaKey := if filled then { k with last := satAdd k.persisted 256 } else k

/-- The key file opened: slots and CA keys as kept, and the state NORMAL, or LOCKED while a level 2 source is asserted or when
the Threshold was LOCKED before a device reset (R70, R557, R572). -/
def openKeyFile (t : Threshold) (c : NorContent) : Threshold :=
  let slots : Vector (Option (BitVec 512)) 64 := Vector.ofFn fun i => if i.1 = 16 then t.slots.get i else c.slots.get i
  { t with slots := slots, ca := Vector.ofFn fun k => resumeKey (slots.get ⟨32 + k.1, by omega⟩).isSome (c.ca.get k),
           st := if lockHeld t || t.st == .locked then .locked else .normal }

/-- The Threshold without keys: UNPROVISIONED, or RETIRED when ERASE_EPOCH is full (R572). -/
def withoutKeys (t : Threshold) : Threshold :=
  { t with slots := Vector.replicate 64 none, ca := Vector.replicate 16 CaKey.empty,
           st := if t.fuses.eraseEpoch.1 = 32 then .retired else .unprovisioned }

/-- Both copies of the key file erased in NOR (R572, R83). -/
def wipeKeyFile (s : State) : State := s.onMgmt fun m => { m with nor := m.nor.map eraseKeyFile }

/-- Step 2 of R572. -/
def foyerKeys (s : State) (c : Option NorContent) : State :=
  if s.thr.st = .erasing then s
  else match c.bind fun c => c.sealedEpoch.map fun e => (c, e) with
    | none => s.onThr withoutKeys
    | some (c, e) =>
      if e = s.thr.fuses.eraseEpoch.1 then s.onThr fun t => openKeyFile t c
      else if e + 1 = s.thr.fuses.eraseEpoch.1 then
        logCond ((wipeKeyFile (s.onThr withoutKeys)).onSys fun y => { y with eraseAll := true }) 0x0212 0xFF 0xFF
          (BitVec.ofNat 32 s.thr.lockSource.toNat)
      else logDev ((wipeKeyFile (s.onThr withoutKeys)).onSys fun y => { y with eraseAll := true }) 0x0F09

/-- Stage FOYER, after which the Larder is trained: the kept entries, the log of the ROM and of the start, the board block, the
Threshold's state, the Porch and the fans (R569, R572). `first` says that the slot that runs is the first one tried. -/
def foyerStage (s : State) (im : List Byte) (first : Bool) : State :=
  let copy := newestNor s.mgmt
  let s1 := match copy with
    | some c => restoreEntries s c.content
    | none => logDev s 0x030E
  let s2 := s1.sys.romLog.foldl (fun s e => logCond s e.1 0xFF 0xFF e.2) (s1.onSys fun y => { y with romLog := [] })
  let s3 := if first then s2 else logDev s2 0x0F07
  let s4 := logCond s3 0x0E03 0xFF 0xFF (BitVec.ofNat 32 s3.sys.resetCause.toNat)
  let s5 := match boardBlock im with
    | some b => s4.onSys fun y =>
        { y with boardValid := true, subVendor := BitVec.ofNat 16 (fieldAt b 0 2), subDevice := BitVec.ofNat 16 (fieldAt b 2 2),
                 applianceReserve := BitVec.ofNat 16 (fieldAt b 4 2) }
    | none => logDev (logDev s4 0x0F06) 0x0506
  let s6 := foyerKeys s5 (copy.map (·.content))
  let s7 : State := { s6 with porchNewel := { s6.porchNewel with pc := 0, wait := .ready } }
  programSvn (fanUpdate (s7.onSys fun y => { y with bootStage := 4 }))

/-- SLOT_VERIFY_DONE: the ROM has checked the next slot of its order: it runs, or is refused and the next one is tried; with
no slot left the start ends in 0xF3, without a NOR in 0xF8 (R568-R570). `jedec` is the NOR's first identity byte. -/
def execSlotVerifyDone (jedec : Byte) (s : State) : Res :=
  if s.sys.inReset ∨ (s.sys.bootStage ≠ 1 ∧ s.sys.bootStage ≠ 2) then .next s
  else if jedec = 0 ∨ jedec = 0xFF then
    .next ((s.onSys fun y => { y with bootStage := 0xF8 }).onFuse fun f => { f with fanDuty := 0x1E1E })
  else match (slotOrder s).filter fun i => !s.sys.tried.contains i with
    | [] => .next s
    | i :: rest =>
      let im := (s.sys.fwSlots.get i).image
      match slotRefused s im with
      | some (check, code) =>
        let s1 := s.onSys fun y =>
          { y with tried := y.tried ++ [i], romLog := y.romLog ++ [(code, BitVec.ofNat 32 (check + 256 * i.1))], bootStage := 2 }
        if rest.isEmpty then
          .next ((s1.onSys fun y => { y with bootStage := 0xF3 }).onFuse fun f => { f with fanDuty := 0x1E1E })
        else .next s1
      | none =>
        let s1 := (List.range (fieldAt im 24 2)).foldl (loadSegment im) (s.onSys fun y =>
          { y with runningSlot := some i, fwVersion := BitVec.ofNat 32 (fieldAt im 16 4), bootStage := 3 })
        let s2 : State := { s1 with foyerNewel :=
          { s1.foyerNewel with pc := BitVec.ofNat 32 (fieldAt im 20 4), tm := false, ie := false, fetchBuf := [], wait := .ready } }
        .next (foyerStage s2 im s.sys.tried.isEmpty)

/-! ### Stages LARDER and CELLAR (R573, R574) -/

/-- Stage CELLAR begins: the Cellar clock starts and every stack recovers (R260, R574). -/
def startCellar (s : State) : State :=
  (s.onSys fun y => { y with bootStage := 5, clkRunning := y.clkRunning ||| 0x40, resetHeld := y.resetHeld &&& ~~~(0x40 : BitVec 17) }).onCellar
    fun c => { c with stk := c.stk.map fun k => { k with recovering := true } }

/-- LARDER_TRAINING_DONE: slot 16 is filled before the first rate; a rate that trains starts the Larder's zeroing and stage
CELLAR; after the lowest rate has failed the device goes on without Larder in state 0xF4 (R263, R573). -/
def execLarderTrainingDone (rate : W16) (ok : Bool) (s : State) : Res :=
  if s.sys.inReset ∨ s.sys.bootStage ≠ 4 then .next s
  else
    let s1 := if (s.thr.slots.get 16).isSome then s else refillHouseKey s
    if ok then
      .next (startCellar ((s1.onLarder fun l => { l with rateMts := rate }).onSys fun y =>
        { y with zeroing := true, clkRunning := y.clkRunning ||| 0x20, resetHeld := y.resetHeld &&& ~~~(0x20 : BitVec 17) }))
    else if rate = 6400 then .next (startCellar (logDev (s1.onSys fun y => { y with larderFailed := true }) 0x0F04))
    else .next s1

/-- Stage CELLAR ends when the zeroing and every recovery have ended (R573, R574); images are erased where the key file asks
for it (R572). -/
def cellarStageEnd (s : State) : State :=
  if s.sys.bootStage = 5 ∧ !s.sys.zeroing ∧ s.cellar.stk.toList.all (fun k => !k.recovering) then
    let s1 := if s.sys.eraseAll then (List.finRange 16).foldl eraseImages (s.onSys fun y => { y with eraseAll := false }) else s
    if s.sys.larderFailed then
      let s2 := s1.onSys fun y => { y with bootStage := 7 }
      if s2.fabric.candidate then startCensus s2 else s2
    else s1.onSys fun y => { y with bootStage := 6 }
  else s

/-- LARDER_ZEROING_DONE: every line is a valid codeword, and reads an unpredictable value until it is written (R265, R266,
R573). -/
def execLarderZeroingDone (s : State) : Res :=
  if s.sys.bootStage ≠ 5 ∨ !s.sys.zeroing then .next s
  else .next (cellarStageEnd ((s.onLarder fun l => { l with mem := [], poison := [], junk := l.junk + 1 }).onSys fun y =>
    { y with zeroing := false }))

/-- States that the four stacks' map copies in force give an image. -/
def kept (s : State) (w : WingId) (img : Fin 32) : List Image :=
  s.cellar.stk.toList.filterMap fun k => (newestMap k).map fun m => (m.images.get w).get img

/-- An image after a start, from its pages and from the states that the snapshots hold (R220, R258, R259, R260). -/
def recoverImage (live : Image) (copies : List Image) : Image :=
  let quiet (g : Image) (st : ImgSt) : Image :=
    { g with st := st, streams := 0, verifyLeft := [], commitJob := none, snaps := 0 }
  match live.st with
  | .empty => live
  | .erasing =>
    if copies.any (fun g => g.st == .erasing) then { live with streams := 0, commitJob := none, snaps := 15 }
    else match copies.find? fun g => g.st != .empty with
      | some g => quiet g (if g.st = .verifying then .loaded else g.st)
      | none => Image.none
  | .loading => if copies.all (fun g => g.st == .empty) then Image.none else quiet live .loading
  | .committed => quiet live (if copies.all fun g => g.st == .committed then .committed else .loaded)
  | .verifying => quiet live (if copies.all fun g => g.st == .committed then .committed else .loaded)
  | .loaded => quiet live .loaded

/-- A block after a start: an interrupted erase is repeated, an OPEN block that no entry of the snapshot names is an orphan to
be erased, a block being moved stays mapped, and its counter resumes at the kept value + 2^24 (R242, R258). -/
def recoverBlock (m : MapCopy) (b : Nat) (x : Block) : Block :=
  let named := (m.blocks.find? fun y => y.1 == b).any fun y => y.2.owner == x.owner
  let r : W32 := satAdd x.readsKept 16777216
  let y := { x with erasing := false, inflight := 0, intent := 0, reads := r }
  match x.st with
  | .isOpen => if named then y else { y with st := .toErase, owner := none }
  | .source => { y with st := .mapped }
  | _ => y

/-- Blocks of a stack with a property. -/
def countBlocks (k : Stack) (p : Nat × Block → Bool) : Nat := (k.blocks.filter p).length

/-- Steps 1 to 4 of R260 on a stack whose snapshot in force is `m`; `older` says that the newest copy was not valid. Blocks above
DISTURB_LIMIT are queued again, and a full scrub pass begins (R243, R248). -/
def recoverStack (s : State) (i : StoreyId) (m : MapCopy) (older : Bool) : State :=
  let k := s.stack i
  let orphan (x : Nat × Block) : Bool :=
    x.2.st == .isOpen && !((m.blocks.find? fun y => y.1 == x.1).any fun y => y.2.owner == x.2.owner)
  let torn := k.blocks.filter fun x => x.2.intent != 0 && !orphan x
  let lost := (k.blocks.map fun x => popCount x.2.intent).foldl (· + ·) 0
  let s1 := s.onStack i fun k =>
    { k with recovering := false, reloc := none, snapPending := true, mapResult := if older then 1 else 0,
             discarded := satAdd (0 : BitVec 10) lost, orphans := satAdd (0 : BitVec 10) (countBlocks k orphan),
             reerased := satAdd (0 : BitVec 10) (countBlocks k fun x => x.2.erasing),
             blocks := k.blocks.map fun x => (x.1, recoverBlock m x.1 x.2) }
  let s2 := queueHot (torn.foldl (fun s x => queueReloc s i x.1 .recovery) s1) i
  let s3 := if older then logBlock s2 0x0626 i 0 else s2
  if k.st = .failed then s3 else startPass (setPeriod s3 i) i

/-- Neither map copy is valid: the stack's images enter ERASING and every pool block is erased (R260). -/
def loseStack (s : State) (i : StoreyId) : State :=
  let owners := (s.stack i).blocks.filterMap fun x => x.2.owner.map fun o => (o.1, o.2.1)
  let s1 := owners.foldl (fun s o => s.onImage o.1 o.2 fun g =>
    if g.st = .empty then g else
      { g with st := .erasing, pages := [], verifyLeft := [], streams := 0, commitJob := none, snaps := 15 }) s
  let s2 := s1.onStack i fun k =>
    { k with recovering := false, reloc := none, snapPending := true, mapResult := 2, maps := Vector.replicate 2 (MapCopy.init 0),
             blocks := k.blocks.map fun x =>
               (x.1, if x.2.st = .retired then x.2
                     else { x.2 with st := .toErase, erasing := false, inflight := 0, intent := 0 }) }
  logBlock s2 0x0627 i 0

/-- When the last stack has recovered, every image is settled by its four snapshots, and the blocks of the images that are
erased are to be erased (R258-R260). -/
def settleImages (s : State) : State :=
  if s.cellar.stk.toList.any (·.recovering) then s
  else
    let s1 := s.onCellar fun c =>
      { c with images := Vector.ofFn fun w => Vector.ofFn fun img => recoverImage (s.image w img) (kept s w img) }
    s1.onCellar fun c =>
      { c with stk := c.stk.map fun k =>
          { k with blocks := k.blocks.map fun x => match x.2.owner with
              | some o =>
                let g := (c.images.get o.1).get o.2.1
                if g.st = .erasing ∧ (x.2.st = .mapped ∨ x.2.st = .isOpen) then (x.1, { x.2 with st := .toErase })
                else if g.st ≠ .erasing ∧ g.st ≠ .empty ∧ x.2.st = .toErase then (x.1, { x.2 with st := .mapped })
                else x
              | none => x } }

/-- CELLAR_RECOVERY_DONE: a stack's recovery ends; the operands say whether the CRC of each map copy is correct. A copy whose
write the reset tore counts as the newest (R257-R260). -/
def execCellarRecoveryDone (i : StoreyId) (crcA crcB : Bool) (s : State) : Res :=
  let k := s.stack i
  if !k.recovering ∨ !s.sys.clkRunning.getLsbD 6 then .next s
  else
    let newer := newestMap k
    let tearing := k.snapPending
    let s1 := s.onStack i fun k => { k with maps := Vector.ofFn fun c : Fin 2 =>
      { k.maps.get c with crcOk := (k.maps.get c).crcOk && (if c = 0 then crcA else crcB) } }
    match newestMap (s1.stack i) with
    | none => .next (cellarStageEnd (settleImages (loseStack s1 i)))
    | some m =>
      let both := crcA && crcB
      let older := !both && (tearing || (match newer with | some n => n.seq != m.seq | none => false))
      .next (cellarStageEnd (settleImages (recoverStack s1 i m older)))

/-- STACK_TIMEOUT: a stack that did not answer within 50 ms is FAILED (R574). -/
def execStackTimeout (i : StoreyId) (s : State) : Res :=
  if !(s.stack i).recovering then .next s
  else .next (cellarStageEnd (settleImages (logCond (s.onStack i fun k => { k with recovering := false, st := .failed }) 0x0F05 0xFF
    (stackUnit i) 0)))

/-! ### Stages HOST and FABRIC (R575, R576) -/

/-- HOST_READY: rings, mailboxes and Hatches are up and READY reads 1; the Fusebox's first decision takes every Storey to OP2;
stage FABRIC begins, in which a candidate starts its census (R455, R575, R576). -/
def execHostReady (s : State) : Res :=
  if s.sys.inReset ∨ s.sys.bootStage ≠ 6 then .next s
  else
    let s1 := (s.onHost fun h => { h with ready := true }).onSys fun y => { y with bootStage := 7 }
    let s2 := (List.finRange 4).foldl (fun s i =>
      startRelock s i (min (s.storey i).op.toNat (min 2 (s.storey i).opCeil.toNat))) s1
    .next (if s2.fabric.candidate then startCensus s2 else s2)

/-- FABRIC_TIMEOUT: 100 ms with no Doorway UP: the device runs alone (R455, R576). -/
def execFabricTimeout (s : State) : Res :=
  if s.sys.inReset ∨ s.sys.bootStage ≠ 7 ∨ (List.finRange 6).any (fun d => (s.door d).st = .up) then .next s
  else .next (fabricStageEnd s)

end Sys2Proof.Machine
end

