-- ==== Sys2Proof/Machine/Operands.lean ====
section
/-!
DEFINITION. Machine/Operands.lean: the number formats of the Hearth, the Scullery and the Stairwell (R400-R405, R490):
elements as exact numbers, exact sums and products, and the one rounding of a result.
-/
namespace Sys2Proof.Machine
open Sys2Proof

/-- An exact number: `m * 2^e` with a sign, an infinity, or not a number. -/
inductive Num where
  | nan
  | inf (neg : Bool)
  | fin (neg : Bool) (m : Nat) (e : Int)
  deriving DecidableEq, Repr

/-- Floating-point formats: significand bits, exponent of the last place of a subnormal, largest biased exponent and
largest fraction at it (R402). -/
inductive FpFmt where
  | e4m3 | e5m2 | bf16 | f32
  deriving DecidableEq, Repr

def FpFmt.prec : FpFmt → Nat | .e4m3 => 4 | .e5m2 => 3 | .bf16 => 8 | .f32 => 24
def FpFmt.expBits : FpFmt → Nat | .e4m3 => 4 | .e5m2 => 5 | .bf16 => 8 | .f32 => 8
def FpFmt.low : FpFmt → Int | .e4m3 => -9 | .e5m2 => -16 | .bf16 => -133 | .f32 => -149
def FpFmt.topExp : FpFmt → Nat | .e4m3 => 15 | .e5m2 => 30 | .bf16 => 254 | .f32 => 254
def FpFmt.topFrac : FpFmt → Nat | .e4m3 => 6 | .e5m2 => 3 | .bf16 => 127 | .f32 => 8388607
def FpFmt.nanBits : FpFmt → Nat | .e4m3 => 0x7F | .e5m2 => 0x7E | .bf16 => 0x7FC0 | .f32 => 0x7FC00000

/-- An element's value (R402). -/
def fpNum (f : FpFmt) (b : Nat) : Num :=
  let fb := f.prec - 1
  let frac := b % 2 ^ fb
  let ex := b / 2 ^ fb % 2 ^ f.expBits
  let neg := (b / 2 ^ (fb + f.expBits)) % 2 == 1
  if f.topExp < ex ∨ (f = .e4m3 ∧ ex = 15 ∧ frac = 7) then
    if f ≠ .e4m3 ∧ frac = 0 then .inf neg else .nan
  else if ex = 0 then .fin neg frac f.low
  else .fin neg (2 ^ fb + frac) (f.low + (ex - 1 : Nat))

/-- A two's complement integer as a number. -/
def intNum (i : Int) : Num := .fin (decide (i < 0)) i.natAbs 0

/-- Signed magnitude. -/
def signed (neg : Bool) (m : Nat) : Int := if neg then -(m : Int) else m

/-- An exact integer multiple of `2^e` as a number; a zero keeps the sign given. -/
def numOf (v : Int) (e : Int) (zneg : Bool) : Num := if v = 0 then .fin zneg 0 e else .fin (decide (v < 0)) v.natAbs e

/-- Exact product; 0 times infinity is not a number (R403). -/
def numMul : Num → Num → Num
  | .nan, _ => .nan
  | _, .nan => .nan
  | .inf s, .inf t => .inf (s ^^ t)
  | .inf s, .fin t m _ => if m = 0 then .nan else .inf (s ^^ t)
  | .fin t m _, .inf s => if m = 0 then .nan else .inf (s ^^ t)
  | .fin s m e, .fin t n d => .fin (s ^^ t) (m * n) (e + d)

def numNeg : Num → Num
  | .nan => .nan
  | .inf s => .inf (!s)
  | .fin s m e => .fin (!s) m e

/-- Exact sum of two finite numbers; a zero sum is positive unless both are negative. -/
def finAdd (s : Bool) (m : Nat) (e : Int) (t : Bool) (n : Nat) (d : Int) : Num :=
  let k := min e d
  numOf (signed s (m * 2 ^ (e - k).toNat) + signed t (n * 2 ^ (d - k).toNat)) k (s && t)

/-- Exact sum; infinity minus infinity is not a number (R403). -/
def numAdd : Num → Num → Num
  | .nan, _ => .nan
  | _, .nan => .nan
  | .inf s, .inf t => if s = t then .inf s else .nan
  | .inf s, .fin .. => .inf s
  | .fin .., .inf s => .inf s
  | .fin s m e, .fin t n d => finAdd s m e t n d

/-- Exact sum of a list. -/
def numSum : List Num → Num
  | [] => .fin false 0 0
  | [a] => a
  | a :: l => numAdd a (numSum l)

/-- `a < b` of two numbers that are not NaN. -/
def numLess : Num → Num → Bool
  | .nan, _ => false
  | _, .nan => false
  | .inf s, .inf t => s && !t
  | .inf s, .fin .. => s
  | .fin .., .inf s => !s
  | .fin s m e, .fin t n d =>
    let k := min e d
    decide (signed s (m * 2 ^ (e - k).toNat) < signed t (n * 2 ^ (d - k).toNat))

def Num.isNan : Num → Bool | .nan => true | _ => false
def Num.isZero : Num → Bool | .fin _ 0 _ => true | _ => false

/-- The larger of two numbers; NaN if either is (R403). Which of two zeros it is, is a free value. -/
def numMax (a b : Num) : Num :=
  if a.isNan || b.isNan then .nan
  else if a.isZero && b.isZero then (if Config.firstZero then a else b)
  else if numLess a b then b else a

/-- The smaller of two numbers. -/
def numMin (a b : Num) : Num :=
  if a.isNan || b.isNan then .nan
  else if a.isZero && b.isZero then (if Config.firstZero then a else b)
  else if numLess b a then b else a

/-- Bits of a positive number; 0 for 0. -/
def bitLen (n : Nat) : Nat := if n = 0 then 0 else n.log2 + 1

/-- `m / 2^k` rounded to nearest even or toward zero; exact for `k` at most 0 (R404). -/
def roundShift (rtz : Bool) (m : Nat) (k : Int) : Nat :=
  if k ≤ 0 then m * 2 ^ (-k).toNat
  else
    let d := 2 ^ k.toNat
    let q := m / d
    let r := m % d
    if rtz then q else if d < 2 * r ∨ (2 * r = d ∧ q % 2 = 1) then q + 1 else q

/-- A rounded result: bits, overflow and NaN (R403, R405). -/
structure Rounded where
  bits : Nat
  ovf : Bool
  nan : Bool
  deriving DecidableEq, Repr

/-- What a result beyond the range becomes (R405). -/
def overflowBits (f : FpFmt) (rtz satf neg : Bool) : Nat :=
  let fb := f.prec - 1
  let sign := if neg then 2 ^ (fb + f.expBits) else 0
  let top := f.topExp * 2 ^ fb + f.topFrac
  match f with
  | .e4m3 => if satf then sign + top else f.nanBits
  | .e5m2 => if satf then sign + top else sign + 31 * 2 ^ fb
  | .bf16 | .f32 => if rtz then sign + top else sign + 255 * 2 ^ fb

/-- One rounding to a format: subnormal binary32 and bfloat16 results become zeros, FP8 keeps its own (R403-R405). -/
def roundFp (f : FpFmt) (rtz satf : Bool) (x : Num) : Rounded :=
  let fb := f.prec - 1
  match x with
  | .nan => ⟨f.nanBits, false, true⟩
  | .inf neg =>
    match f with
    | .e4m3 | .e5m2 => ⟨overflowBits f rtz satf neg, true, false⟩
    | _ => ⟨(if neg then 2 ^ (fb + f.expBits) else 0) + 255 * 2 ^ fb, false, false⟩
  | .fin neg m e =>
    let sign := if neg then 2 ^ (fb + f.expBits) else 0
    if m = 0 then ⟨sign, false, false⟩
    else
      let q0 : Int := max (e + bitLen m - f.prec) f.low
      let r0 := roundShift rtz m (q0 - e)
      let q := if r0 = 2 ^ f.prec then q0 + 1 else q0
      let r := if r0 = 2 ^ f.prec then 2 ^ fb else r0
      if r < 2 ^ fb then
        (match f with
        | .e4m3 | .e5m2 => ⟨sign + r, false, false⟩
        | _ => ⟨sign, false, false⟩)
      else
        let ex := (q - f.low).toNat + 1
        if f.topExp < ex ∨ (ex = f.topExp ∧ f.topFrac < r - 2 ^ fb) then ⟨overflowBits f rtz satf neg, true, false⟩
        else ⟨sign + ex * 2 ^ fb + (r - 2 ^ fb), false, false⟩

/-- Conversion to a signed integer of `w` bits: one rounding, then saturation; NaN gives 0 (R405). -/
def roundInt (w : Nat) (rtz : Bool) (x : Num) : Rounded :=
  let hi := 2 ^ (w - 1) - 1
  let bitsOfInt (v : Int) : Nat := (v % 2 ^ w).toNat
  match x with
  | .nan => ⟨0, false, true⟩
  | .inf neg => ⟨if neg then hi + 1 else hi, true, false⟩
  | .fin neg m e =>
    let r := roundShift rtz m (-e)
    if neg then (if hi + 1 < r then ⟨hi + 1, true, false⟩ else ⟨bitsOfInt (-(r : Int)), false, false⟩)
    else if hi < r then ⟨hi, true, false⟩ else ⟨r, false, false⟩

/-- A `w`-bit two's complement value. -/
def intOf (w b : Nat) : Int := if b % 2 ^ w < 2 ^ (w - 1) then (b % 2 ^ w : Nat) else ((b % 2 ^ w : Nat) : Int) - 2 ^ w

/-- An integer held to the int32 range, and whether it was outside it (R404). -/
def satInt32 (v : Int) : W32 × Bool :=
  if v < -2147483648 then (0x80000000, true) else if 2147483647 < v then (0x7FFFFFFF, true) else (BitVec.ofInt 32 v, false)

/-! ### The functions of the Scullery (R428)

An exact value is enclosed by fixed-point arithmetic of 96 fractional bits; the result is the rounded value moved by the
free value `Config.ulpOff` of at most 4 ulp. -/

/-- Fractional bits. -/
def fixBits : Nat := 96

/-- ln 2, e's logarithm base, in fixed point: the integer part of ln 2 times 2^96. -/
def fixLn2 : Nat := 54916777467707473351141471128

/-- e^r for 0 <= r < ln 2 in fixed point: Horner's form of the Taylor series. -/
def fixExpSmall (r : Nat) : Nat :=
  (List.range 30).foldl (fun acc i => 2 ^ fixBits + acc * r / 2 ^ fixBits / (30 - i)) (2 ^ fixBits)

/-- e^x for a fixed-point x: significand and exponent of two. -/
def fixExp (x : Int) : Nat × Int :=
  let k := x / (fixLn2 : Int)
  let r := (x % (fixLn2 : Int)).toNat
  (fixExpSmall r, k - fixBits)

/-- A finite number in fixed point, toward minus infinity; magnitudes of 2^20 or more count as 2^20. -/
def toFix (neg : Bool) (m : Nat) (e : Int) : Int :=
  let k := e + fixBits
  let v := if 20 < e + bitLen m then 2 ^ (20 + fixBits) else if k < 0 then m / 2 ^ (-k).toNat else m * 2 ^ k.toNat
  signed neg v

/-- A quotient as a number, with at least 80 significant bits and a sticky bit. -/
def ratNum (neg : Bool) (n d : Nat) (e : Int) : Num :=
  let s := 80 + bitLen d - bitLen n
  let q := n * 2 ^ s / d
  let st := if n * 2 ^ s % d = 0 then 0 else 1
  .fin neg (2 * q + st) (e - s - 1)

/-- Numerator and denominator of 1 / (1 + e^-z) for a fixed-point z. -/
def sigmoid (z : Int) : Nat × Nat :=
  let ex := fixExp (-(z.natAbs : Int))
  if ex.2 < -600 then (if z < 0 then (0, 1) else (1, 1))
  else
    let one := 2 ^ (-ex.2).toNat
    (if z < 0 then ex.1 else one, one + ex.1)

/-- x / (1 + e^-z). -/
def timesSigmoid (neg : Bool) (m : Nat) (e z : Int) : Num :=
  let p := sigmoid z
  if m * p.1 = 0 then .fin neg 0 0 else ratNum neg (m * p.1) p.2 e

/-- Exact-value enclosures of EXP, SILU, GELU and TANH. -/
def expNum : Num → Num
  | .nan => .nan
  | .inf neg => if neg then .fin false 0 0 else .inf false
  | .fin neg m e => let p := fixExp (toFix neg m e); .fin false p.1 p.2

def siluNum : Num → Num
  | .nan => .nan
  | .inf neg => if neg then .fin true 0 0 else .inf false
  | .fin neg m e => timesSigmoid neg m e (toFix neg m e)

/-- 2 sqrt(2 / pi) and 0.044715 in fixed point. -/
def fixGelu : Nat := 126429855301823683234482078976
def fixCubic : Nat := 3542687286825329855495317739

/-- The tanh form: x / (1 + e^-z) with z = 2 sqrt(2 / pi) (x + 0.044715 x^3). -/
def geluNum : Num → Num
  | .nan => .nan
  | .inf neg => if neg then .fin true 0 0 else .inf false
  | .fin neg m e =>
    let x := toFix false m e
    let cube := x * x / 2 ^ fixBits * x / 2 ^ fixBits
    let y := x + (fixCubic : Int) * cube / 2 ^ fixBits
    let z := (fixGelu : Int) * y / 2 ^ fixBits
    timesSigmoid neg m e (signed neg z.toNat)

def tanhNum : Num → Num
  | .nan => .nan
  | .inf neg => .fin neg 1 0
  | .fin neg m e =>
    if e + bitLen m < -14 then .fin neg m e
    else
      let ex := fixExp (-2 * toFix false m e)
      if ex.2 < -600 then .fin neg 1 0
      else
        let one := 2 ^ (-ex.2).toNat
        ratNum neg (one - ex.1) (one + ex.1) 0

/-- Integer square root by bits, `n` of them. -/
def isqrt (v : Nat) (n : Nat) : Nat :=
  (List.range n).foldl (fun r i => let t := r + 2 ^ (n - 1 - i); if t * t ≤ v then t else r) 0

/-- 1 / x and 1 / sqrt x; `none` where the spec states no value. -/
def rcpNum : Num → Option Num
  | .nan => some .nan
  | .inf neg => some (.fin neg 0 0)
  | .fin neg m e => if m = 0 then none else some (ratNum neg 1 m (-e))

def rsqNum : Num → Option Num
  | .nan => some .nan
  | .inf neg => if neg then none else some (.fin false 0 0)
  | .fin neg m e =>
    if m = 0 ∨ neg then none
    else
      let odd := decide (e % 2 ≠ 0)
      let m' := if odd then 2 * m else m
      let e' := if odd then e - 1 else e
      let s := bitLen m' / 2 + 80
      some (.fin false (2 * isqrt (2 ^ (2 * s) / m') (s + 1) + 1) (-(e' / 2) - s - 1))

/-- A binary32 result moved by the free distance of at most 4 ulp; zeros, infinities and NaN stay (R428). -/
def nearBits (fn operand : Nat) (r : Rounded) : Rounded :=
  let mag := r.bits % 2 ^ 31
  if r.nan ∨ mag = 0 ∨ 0x7F800000 ≤ mag then r
  else
    let off := Config.ulpOff fn operand % 9
    let moved := mag + off - 4
    { r with bits := r.bits - mag + (if 0x7F7FFFFF < moved then 0x7F7FFFFF else if moved < 0x00800000 then 0x00800000 else moved) }

end Sys2Proof.Machine
end

