-- ==== Sys2Proof/Machine/Streams.lean ====
section
/-!
DEFINITION. Machine/Streams.lean: what the A-stream and the X-stream share: issue, loops, predicates, queues, generators and
chains (R362-R381, R388), the A-stream's commands (R382-R387, R390, R391), its Larder lines (R382, R383) and the
rendezvous (R385).
-/
namespace Sys2Proof.Machine
open Sys2Proof

/-- One of the two streams of a Room. -/
inductive Which where
  | a | x
  deriving DecidableEq, Repr

def strmOf (x : Room) : Which → Strm
  | .a => x.astream.strm
  | .x => x.xstream

/-- A stream of a Room changed. -/
def roomStrm (x : Room) (k : Which) (f : Strm → Strm) : Room :=
  match k with
  | .a => { x with astream := { x.astream with strm := f x.astream.strm } }
  | .x => { x with xstream := f x.xstream }

def onStrm (s : State) (r : RoomId) (k : Which) (f : Strm → Strm) : State := s.onRoom r fun x => roomStrm x k f

/-- Fault registers of a stream (R389). -/
def strmFault (x : Room) : Which → FaultAt
  | .a => FaultAt.astream x
  | .x => FaultAt.xstream x

/-- What an attempt of a command comes to: it goes on, it waits with a BLOCK_REASON, or it faults. -/
inductive Got (α : Type) where
  | ok (a : α) (s : State)
  | wait (s : State) (why : BlockReason)
  | fault (s : State) (cond : Cond)

/-- One attempt after another. -/
def Got.andThen {α β : Type} (g : Got α) (f : α → State → Got β) : Got β :=
  match g with
  | .ok a s => f a s
  | .wait s w => .wait s w
  | .fault s c => .fault s c

/-- An access to a Room as an attempt. -/
def ofTried {α : Type} (s : State) (r : RoomId) (t : Tried (α × Room)) : Got α :=
  match t with
  | .done (a, x) => .ok a (s.onRoom r fun _ => x)
  | .wait w => .wait s w
  | .fault c => .fault s c

/-! ### Starting and going on (R363-R365, R371, R373-R375) -/

/-- Queues that a stream pops (R311). -/
def poppedBy : Which → List (Fin 6)
  | .a => [0, 4]
  | .x => [1, 2, 3]

/-- A stream starts (R344, R363, R364): count 0, no loop, p1-p7 0, the phase mark; a pop from an empty queue returns zero
until the stream has popped one (R313). -/
def startStrm (s : State) (r : RoomId) (k : Which) (off : Nat) : State :=
  s.onRoom r fun x =>
    let y := roomStrm x k fun t =>
      { t with running := true, pc := off, count := 0, loops := [], preds := 1, mark := s.phase.time, token := x.modeToken,
               wait := .ready, skipBreak := false }
    { y with xIssued := if k = .x then false else x.xIssued,
             queues := (poppedBy k).foldl (fun v q => vmod v q fun d => { d with lastPopped := 0 }) y.queues }

/-- A stream has ended: the STREAM interrupt is latched with its number (R347, R365). -/
def endStrm (s : State) (r : RoomId) (k : Which) : State :=
  (onStrm s r k fun t => { t with running := false, wait := .ready, loops := [] }).onRoom r fun x =>
    { x with newel := { x.newel with pendStream := true, streamSrc := if k = .a then 1 else 2 } }

/-- Loop levels end at a command offset, innermost first: the next iteration starts, or the level closes (R368, R373). -/
def closeLoops : List LoopLvl → Nat → List LoopLvl × Nat
  | [], pc => ([], pc)
  | l :: ls, pc =>
    if pc = l.stop then
      if l.i + 1 < l.count then ({ l with i := l.i + 1 } :: ls, l.start) else closeLoops ls pc
    else (l :: ls, pc)

/-- The command has issued and execution goes on at an offset. -/
def stepStrm (t : Strm) (pc : Nat) : Strm :=
  let p := closeLoops t.loops pc
  { t with loops := p.1, pc := p.2, count := t.count + 1, wait := .ready, skipBreak := false }

/-- A stream issues its next command: the Room's agents act, it runs, and it does not wait at a WAITPH or a rendezvous. -/
def strmGoes (s : State) (r : RoomId) (k : Which) : Bool :=
  let t := strmOf (s.room r) k
  roomGoes s r && t.running && (match t.wait with | .ready => true | .blocked _ => true | _ => false)

/-- The predicate of a command (R371). -/
def predOn (t : Strm) (psel : Nat) (pneg : Bool) : Bool := t.preds.getLsbD psel != pneg

/-- A breakpoint matches the command (R388): the count, or the TAG under its mask. -/
def strmBreak (t : Strm) (tag : Byte) : Bool :=
  !t.skipBreak && ((t.bkt.getLsbD 16 && t.count == t.bkc) ||
    (t.bkt.getLsbD 17 && (tag ^^^ t.bkt.setWidth 8) &&& (t.bkt >>> 8).setWidth 8 == 0))

/-- A match stops the Room: ROOM_SDBG.HALT is 1 and scope [0] is granted for its wing (R78, R388). -/
def strmHalts (s : State) (r : RoomId) (tag : Byte) (t : Strm) : Bool :=
  strmBreak t tag && (s.room r).sdbgHalt && debugAllows s r 0

/-- A stream's breakpoint takes the Room to DEBUG_HALT (R388). -/
def debugHaltStrm (s : State) (r : RoomId) (k : Which) : State :=
  s.onRoom r fun x =>
    { x with st := .debugHalt, stBefore := .running, sdbgWhich := if k = .a then 1 else 2,
             blockLatched := BitVec.ofNat 32 (blockLive x) }

/-- STREAM_DEBUG_RESUME: a BAR0 write of RESUME while scope [0] is granted continues a Room that a stream's breakpoint
halted; the matched command does not match again (R388). -/
def streamDebugResumeOp (r : RoomId) (s : State) : Res :=
  let x := s.room r
  if x.st = .debugHalt ∧ x.sdbgWhich ≠ 0 ∧ debugAllows s r 0 = true then
    .next (s.onRoom r fun x =>
      { roomStrm x (if x.sdbgWhich = 1 then .a else .x) fun t => { t with skipBreak := true } with
        st := .running, sdbgWhich := 0 })
  else .next s

/-- STREAM_DEBUG_RESUME as a BAR access of the host (R151, R157, R549). -/
def execStreamDebugResume (r : RoomId) (s : State) : Res :=
  barGo s (bar0 (roomPage r + 0xC0) (2 + b2n (s.room r).sdbgHalt)) (storeyDomain r) (streamDebugResumeOp r s)

/-- The outcome of a command: `some pc` goes on there, `none` means that the command has set what follows. -/
def strmResult (r : RoomId) (k : Which) (g : Got (Option Nat)) : Res :=
  match g with
  | .ok (some pc) s => .next (onStrm s r k fun t => stepStrm t pc)
  | .ok none s => .next s
  | .wait s w => .next (onStrm s r k fun t => { t with wait := .blocked w })
  | .fault s c => .next (haltRoom s r c (strmFault (s.room r) k))

/-! ### Queues (R311-R317, R369) -/

/-- A stream pops a data queue (R369). -/
def popQ (s : State) (r : RoomId) (k : Which) (q : Fin 6) (tag : Byte) : Got W64 :=
  let t := strmOf (s.room r) k
  ofTried s r (dqPop (s.room r) q (if t.token then some tag else none) (!t.token))

/-- A stream pushes a data queue; bit [63] of an NQ value marks the X-stream (R311, R369). -/
def pushQ (s : State) (r : RoomId) (k : Which) (q : Fin 6) (tag : Byte) (v : W64) : Got Unit :=
  let t := strmOf (s.room r) k
  let v : W64 := if q = 5 then (v &&& 0x7FFFFFFFFFFFFFFF) ||| (if k = .x then 0x8000000000000000 else 0) else v
  match dqPush (s.room r) q v tag (!t.token) with
  | .done x => .ok () (s.onRoom r fun _ => x)
  | .wait w => .wait s w
  | .fault c => .fault s c

/-- A handle left a queue: a Cellar stream that delivers there counts the page, and pages held in order follow
(R227, R230). -/
def notePopped (s : State) (r : RoomId) (q : Fin 32) : State :=
  (List.finRange 64).foldl (fun s n =>
    let x := s.cellar.streams.get n
    if x.st ≠ .free ∧ x.room = r ∧ queueOf x.fullQ = q then
      deliverLanded 64 (s.onStream n fun y => { y with popped := y.popped + 1 }) n
    else s) s

/-- An agent of the Room pops a handle (R317). -/
def takeHandle (s : State) (r : RoomId) (q : Fin 32) : Got W32 :=
  (ofTried s r (hqPop (s.room r) q)).andThen fun h s1 => .ok h (notePopped s1 r q)

/-- An agent of the Room pushes a handle (R316, R317). -/
def giveHandle (s : State) (r : RoomId) (q : Fin 32) (h : W32) : Got Unit :=
  match hqPush (s.room r) r q h with
  | .done x => .ok () (s.onRoom r fun _ => x)
  | .wait w => .wait s w
  | .fault c => .fault s c

/-! ### The task window (R310) -/

/-- A byte offset of the task window as a Pantry address. -/
def windowAddr (x : Room) (off n : Nat) : Option Nat :=
  if off + n ≤ x.winLen.toNat * 512 then some (x.winBase.toNat * 512 + off) else none

/-! ### Generators (R376-R381, R396) -/

def genOf (s : State) (r : RoomId) (k : Which) (i : Fin 4) : Gen := (strmOf (s.room r) k).gens.get i

def onGen (s : State) (r : RoomId) (k : Which) (i : Fin 4) (f : Gen → Gen) : State :=
  onStrm s r k fun t => { t with gens := vmod t.gens i f }

/-- Iteration indices of levels 0 to 3, 0 where no level is open (R375). -/
def loopIndices (t : Strm) : List Nat := t.loops.reverse.map (·.i)

/-- One coordinate: origin plus index times step times dilation over the levels, in signed 32-bit arithmetic (R376). -/
def genSum (o : W16) (d : Vector W16 4) (dil : Vector Byte 4) (is : List Nat) : Int :=
  ((List.finRange 4).foldl (fun (a : W32) l =>
    a + BitVec.ofNat 32 (is.getD l.1 0) * (d.get l).signExtend 32 * (dil.get l).setWidth 32) (o.signExtend 32)).toInt

/-- The coordinates u and v of a generator (R376). -/
def genUV (t : Strm) (g : Gen) : Int × Int :=
  (genSum g.u0 g.du g.dil (loopIndices t), genSum g.v0 g.dv g.dil (loopIndices t))

/-- The position of coordinates (R376). -/
def genPos (g : Gen) (u v : Int) : Int := (g.base.toNat : Int) + u * (g.pitch.toNat : Int) + v

/-- Bytes of a position: a slot, or a half (R376). -/
def genUnit (g : Gen) : Nat := if g.half then 32 else 64

/-- The coordinates are padded (R377). -/
def genPads (g : Gen) (u v : Int) : Bool :=
  g.padchk && !decide (0 ≤ u ∧ u < (g.h.toNat : Int) ∧ 0 ≤ v ∧ v < (g.w.toNat : Int))

/-- Bytes of a handle. -/
def handleBytes (h : W32) : Nat := 64 * handleSlots h

/-- A chain's first handle gives its SIZE and its number: BASE in units of the handle (R380). -/
def chainStart (s : State) (r : RoomId) (k : Which) (i : Fin 4) : Got Unit :=
  let g := genOf s r k i
  match g.hold with
  | .chain .. => .ok () s
  | _ => (takeHandle s r g.chainIn).andThen fun h s1 =>
      .ok () (onGen s1 r k i fun g =>
        { g with hold := .chain (handleSize h) (g.base.toNat * genUnit g / handleBytes h) [h] })

/-- Handles are popped up to number `j + 1` (R380). -/
def chainPops : Nat → State → RoomId → Which → Fin 4 → Nat → Got Unit
  | 0, s, _, _, _, _ => .ok () s
  | fuel + 1, s, r, k, i, j =>
    match (genOf s r k i).hold with
    | .chain size first held =>
      if j + 1 < first + held.length then .ok () s
      else (takeHandle s r (genOf s r k i).chainIn).andThen fun h s1 =>
        let s2 := onGen s1 r k i fun g => { g with hold := .chain size first (held ++ [h]) }
        if handleSize h ≠ size then .fault s2 0x0A05 else chainPops fuel s2 r k i j
    | _ => .fault s 0x0A05

/-- Handles below number `j` go to CHAIN_OUT (R380). -/
def chainPushes : Nat → State → RoomId → Which → Fin 4 → Nat → Got Unit
  | 0, s, _, _, _, _ => .ok () s
  | fuel + 1, s, r, k, i, j =>
    match (genOf s r k i).hold with
    | .chain size first (h :: rest) =>
      if j ≤ first then .ok () s
      else (giveHandle s r (genOf s r k i).chainOut h).andThen fun _ s1 =>
        chainPushes fuel (onGen s1 r k i fun g => { g with hold := .chain size (first + 1) rest }) r k i j
    | _ => .ok () s

/-- The leader accesses handle number `j` (R380). -/
def chainAccess (s : State) (r : RoomId) (k : Which) (i : Fin 4) (j : Nat) : Got Unit :=
  match (genOf s r k i).hold with
  | .chain _ first held =>
    if j < first ∨ first + held.length < j then .fault s 0x0A05
    else (chainPops 3 s r k i j).andThen fun _ s1 => chainPushes 3 s1 r k i j
  | _ => .fault s 0x0A05

/-- The part of a byte range of a chain that lies in handle number `j`. -/
def chainPiece (hold : GenHold) (q n j : Nat) : Option Piece :=
  match hold with
  | .chain size first held =>
    if j < first then none
    else (held[j - first]?).map fun h =>
      let hb := 64 * 2 ^ size
      let lo := max q (j * hb)
      { addr := 64 * handleStart h + (lo - j * hb), n := min (q + n) ((j + 1) * hb) - lo, pad := none }
  | _ => none

/-- Numbers of the handles that a byte range of a chain touches. -/
def chainNumbers (size q n : Nat) : List Nat :=
  let hb := 64 * 2 ^ size
  (List.range ((q + n - 1) / hb + 1 - q / hb)).map (· + q / hb)

/-- The leader's operand: each handle is accessed in turn and its part taken before a later access releases it (R380). -/
def leaderPieces (s : State) (r : RoomId) (k : Which) (i : Fin 4) (q n : Nat) : Got (List Piece) :=
  (chainStart s r k i).andThen fun _ s1 =>
    match (genOf s1 r k i).hold with
    | .chain size _ _ =>
      (chainNumbers size q n).foldl (fun (acc : Got (List Piece)) j => acc.andThen fun ps s =>
        (chainAccess s r k i j).andThen fun _ s2 =>
          match chainPiece (genOf s r k i).hold q n j, chainPiece (genOf s2 r k i).hold q n j with
          | _, some p => .ok (ps ++ [p]) s2
          | some p, none => .ok (ps ++ [p]) s2
          | none, none => .fault s2 0x0A05) (.ok [] s1)
    | _ => .fault s1 0x0A05

/-- A follower's operand inside the handles that its leader holds (R381). -/
def followPieces (s : State) (r : RoomId) (k : Which) (g : Gen) (q n : Nat) : Got (List Piece) :=
  let l := genOf s r k g.leader
  match l.chain, l.hold with
  | true, .chain size _ _ =>
    let ps := (chainNumbers size q n).map (chainPiece l.hold q n)
    if ps.all (·.isSome) then .ok (ps.filterMap id) s else .fault s 0x0A05
  | _, _ => .fault s 0x0A05

/-- `n` bytes at byte offset `off` from given coordinates of a generator, as Pantry bytes or padding (R376-R381). `pads`
applies the pad test. -/
def resolveAt (s : State) (r : RoomId) (k : Which) (i : Fin 4) (u v : Int) (off n : Nat) (pads : Bool) :
    Got (List Piece) :=
  let g := genOf s r k i
  let p := genPos g u v
  let q := p * (genUnit g : Int) + (off : Int)
  if !g.loaded then .fault s 0x0A05
  else if pads && genPads g u v then .ok [{ addr := 0, n := n, pad := some g.pad }] s
  else if g.chain then (if q < 0 then .fault s 0x0A05 else leaderPieces s r k i q.toNat n)
  else if g.follow then (if q < 0 then .fault s 0x0A05 else followPieces s r k g q.toNat n)
  else match g.hold with
    | .handle h b _ =>
      let rel := (p - (b.toNat : Int)) * (genUnit g : Int) + (off : Int)
      if rel < 0 ∨ (handleBytes h : Int) < rel + (n : Int) then .fault s 0x0A05
      else .ok [{ addr := 64 * handleStart h + rel.toNat, n := n, pad := none }] s
    | _ =>
      if q < 0 then .fault s 0x0802
      else match windowAddr (s.room r) q.toNat n with
        | some a => .ok [{ addr := a, n := n, pad := none }] s
        | none => .fault s 0x0802

/-- The same from a generator's current position. -/
def resolve (s : State) (r : RoomId) (k : Which) (i : Fin 4) (off n : Nat) : Got (List Piece) :=
  let p := genUV (strmOf (s.room r) k) (genOf s r k i)
  resolveAt s r k i p.1 p.2 off n true

/-- A descriptor as a generator; `none` where GLOAD refuses it (R378, R396). -/
def parseGen (b : List Byte) : Option Gen :=
  let fl := (b.getD 6 0).toNat
  let w16 (o : Nat) : W16 := BitVec.ofNat 16 (fieldAt b o 2)
  let chain := bitOf fl 2
  let follow := bitOf fl 3
  if fl / 32 ≠ 0 ∨ (b.getD 7 0).toNat / 4 ≠ 0 ∨ zeroAt b 42 22 = false ∨ (chain && follow) = true
      ∨ ((bytesAt b 32 4).any (· == 0)) = true
      ∨ (chain = true ∧ (32 ≤ (b.getD 40 0).toNat ∨ 32 ≤ (b.getD 41 0).toNat)) then none
  else some
    { loaded := true, base := BitVec.ofNat 32 (fieldAt b 0 4), pitch := w16 4, half := bitOf fl 0, padchk := bitOf fl 1,
      chain := chain, follow := follow, leader := ⟨(b.getD 7 0).toNat % 4, Nat.mod_lt _ (by decide)⟩, h := w16 8, w := w16 10,
      u0 := w16 12, v0 := w16 14, du := Vector.ofFn fun l => w16 (16 + 4 * l.1), dv := Vector.ofFn fun l => w16 (18 + 4 * l.1),
      dil := Vector.ofFn fun l => b.getD (32 + l.1) 0, pad := BitVec.ofNat 32 (fieldAt b 36 4), chainIn := queueOf (b.getD 40 0),
      chainOut := queueOf (b.getD 41 0), hold := .none }

/-- Handles that a generator holds go back to their queues one by one (R366, R380). -/
def flushGen : Nat → State → RoomId → Which → Fin 4 → Got Unit
  | 0, s, _, _, _ => .ok () s
  | fuel + 1, s, r, k, i =>
    match (genOf s r k i).hold with
    | .none => .ok () s
    | .handle h _ q => (giveHandle s r q h).andThen fun _ s1 => .ok () (onGen s1 r k i fun g => { g with hold := .none })
    | .chain _ _ [] => .ok () (onGen s r k i fun g => { g with hold := .none })
    | .chain size first (h :: rest) =>
      (giveHandle s r (genOf s r k i).chainOut h).andThen fun _ s1 =>
        flushGen fuel (onGen s1 r k i fun g => { g with hold := .chain size (first + 1) rest }) r k i

/-- GLOAD of a generator from a descriptor slot of the window; without KEEP the handles held go back (R376, R378, R380). -/
def loadGen (s : State) (r : RoomId) (k : Which) (i : Fin 4) (off : Nat) : Got Unit :=
  match windowAddr (s.room r) off 64 with
  | none => .fault s 0x0802
  | some a =>
    let b := zread (s.room r).pantry a 64
    match parseGen b with
    | none => .fault s 0x0A05
    | some g =>
      if (b.getD 6 0).getLsbD 4 then .ok () (onGen s r k i fun o => { g with hold := o.hold })
      else (flushGen 5 s r k i).andThen fun _ s1 => .ok () (onGen s1 r k i fun _ => g)

/-- HRECV: a handle is popped into a generator (R379). One that is unloaded, chains, follows or holds a handle faults. -/
def recvGen (s : State) (r : RoomId) (k : Which) (i : Fin 4) (q : Fin 32) : Got Unit :=
  let g := genOf s r k i
  if !g.loaded || g.chain || g.follow || g.hold != .none then .fault s 0x0A05
  else (takeHandle s r q).andThen fun h s1 => .ok () (onGen s1 r k i fun g => { g with hold := .handle h g.base q })

/-- A handle word (R332). -/
def makeHandle (r : RoomId) (slot size : Nat) (tag : Byte) : W32 :=
  BitVec.ofNat 32 (r.1 * 2 ^ 27 + slot % 2 ^ 14 * 2 ^ 13 + size % 16 * 2 ^ 9 + tag.toNat)

/-- HSEND: the generator's handle, or a new one at its position, is pushed (R379). -/
def sendGen (s : State) (r : RoomId) (k : Which) (i : Fin 4) (q : Fin 32) (make : Bool) (size : Nat) (tag : Byte) : Got Unit :=
  let g := genOf s r k i
  if make then
    let p := genUV (strmOf (s.room r) k) g
    (resolveAt s r k i p.1 p.2 0 1 false).andThen fun ps s1 =>
      match ps with
      | a :: _ => giveHandle s1 r q (makeHandle r (a.addr / 64) size tag)
      | [] => .fault s1 0x0A05
  else match g.hold with
    | .handle h _ _ => (giveHandle s r q h).andThen fun _ s1 => .ok () (onGen s1 r k i fun g => { g with hold := .none })
    | _ => .fault s 0x0A05

/-! ### Pantry operands (R304-R306, R377, R423) -/

/-- Bytes of a piece. -/
def pieceBytes (x : Room) (p : Piece) : List Byte :=
  match p.pad with
  | some w => (List.range p.n).map fun i => BitVec.ofNat 8 (w.toNat / 2 ^ (8 * (i % 4)))
  | none => zread x.pantry p.addr p.n

/-- Slots of an operand. -/
def pieceSlots (ps : List Piece) : List Nat := (ps.map (·.slots)).flatten

/-- Tags of some slots set or cleared. -/
def tagSlots (x : Room) (slots : List Nat) (full : Bool) : Room := slots.foldl (fun x k => setTag x k full) x

/-- A read of an operand: class 0 plain, 1 keep, 2 drain; in token mode it waits until every slot is full (R304-R306). -/
def readPieces (x : Room) (token : Bool) (cls : Nat) (ps : List Piece) : Tried (List Byte × Room) :=
  let slots := pieceSlots ps
  if token && cls != 0 && slots.any fun k => !tagFull x k then .wait .pantryTag
  else .done ((ps.map (pieceBytes x)).flatten, if cls = 2 then tagSlots x slots false else x)

/-- Bytes of an operand stored over its pieces; padding drops them (R377). -/
def storePieces (x : Room) : List Piece → List Byte → Room
  | [], _ => x
  | p :: ps, bs => storePieces (if p.pad.isSome then x else pantryWrite x p.addr (bs.take p.n)) ps (bs.drop p.n)

/-- A write of a whole operand: a fill write waits in token mode until every slot is empty, and sets them full. -/
def writePieces (x : Room) (token fill : Bool) (ps : List Piece) (bs : List Byte) : Tried Room :=
  let slots := pieceSlots ps
  if token && fill && slots.any (tagFull x) then .wait .pantryTag
  else .done (let y := storePieces x ps bs; if fill then tagSlots y slots true else y)

/-! ### Loops and skips (R373, R374) -/

/-- A LOOP opens a level, or is refused; with CQ the count is popped, and a count of 0 skips the body. `stop` is the byte
offset past the body. -/
def openLoop (s : State) (r : RoomId) (k : Which) (cq : Bool) (count len start stop limit : Nat) (tag : Byte) : Got (Option Nat) :=
  let t := strmOf (s.room r) k
  if 4 ≤ t.loops.length ∨ len = 0 ∨ limit < stop ∨ (t.loops.head?.any fun l => decide (l.stop < stop)) = true
      ∨ (count = 0 ∧ cq = false) then .fault s 0x0A02
  else
    let enter (n : Nat) (s : State) : Got (Option Nat) :=
      if n = 0 then .ok (some stop) s
      else .ok (some start) (onStrm s r k fun t => { t with loops := { start := start, stop := stop, count := n, i := 0 } :: t.loops })
    if cq then (popQ s r k (if k = .a then 0 else 2) tag).andThen fun v s1 => enter (v.toNat % 65536) s1
    else enter count s

/-- A SKIP to an offset: not past the innermost open body (R374). -/
def skipTo (s : State) (r : RoomId) (k : Which) (target : Nat) : Got (Option Nat) :=
  if (strmOf (s.room r) k).loops.head?.any fun l => decide (l.stop < target) then .fault s 0x0A02 else .ok (some target) s

/-- PSET: bits of p1-p7 set from a mask and a value (R372). -/
def setPreds (s : State) (r : RoomId) (k : Which) (mask value : Byte) : State :=
  onStrm s r k fun t => { t with preds := (t.preds &&& ~~~mask) ||| (value &&& mask) ||| 1 }

/-- PLOOP: a predicate set on the first or last iteration of a level (R372). -/
def loopPred (s : State) (r : RoomId) (k : Which) (p level : Nat) (last : Bool) : State :=
  onStrm s r k fun t =>
    let v : Bool := match t.loops.reverse[level]? with
      | some l => decide (l.i = if last then l.count - 1 else 0)
      | none => false
    let m : Byte := 1 <<< p
    { t with preds := (if v then t.preds ||| m else t.preds &&& ~~~m) ||| 1 }

/-- WAITPH: complete at once when the target is reached, with the mark at the target; else it waits (R386). -/
def waitPhase (s : State) (r : RoomId) (k : Which) (target : W48) (next : Nat) : Got (Option Nat) :=
  if reached s.phase.time target then .ok (some next) (onStrm s r k fun t => { t with mark := target })
  else .ok none (onStrm s r k fun t => { t with wait := .waitph target })

/-- A stream that waits at a WAITPH or a rendezvous goes on behind its command. -/
def resumeStrm (t : Strm) (size : Nat) : Strm := stepStrm t (t.pc + size)

/-- Bytes of the long word at an offset of X-stream memory (R392). -/
def xWordSize (mem : List Host.Cell) (pc : Nat) : Nat := 2 + 4 * popCount (BitVec.ofNat 4 (zword mem pc 2))

/-- Bytes of the current command of a stream. -/
def cmdSize (x : Room) : Which → Nat
  | .a => 8
  | .x => xWordSize x.xstream.mem x.xstream.pc

/-- WAITPH_DONE: the phase copy has reached the target of a stream's WAITPH, and the mark becomes the target (R185, R186,
R386). `xs` names the X-stream. -/
def execWaitphDone (r : RoomId) (xs : Bool) (s : State) : Res :=
  let k : Which := if xs then .x else .a
  let x := s.room r
  match (strmOf x k).wait with
  | .waitph target =>
    if roomGoes s r && (strmOf x k).running && reached s.phase.time target then
      .next ((onStrm s r k fun t => { resumeStrm t (cmdSize x k) with mark := target }).onRoom r fun y =>
        { y with xIssued := if xs then false else y.xIssued })
    else .next s
  | _ => .next s

/-- SYNC_RENDEZVOUS: both streams wait at rendezvous SYNCs: with equal TAGs they leave together, else both halt with 0x0A06,
the A-stream recorded (R385, R389). -/
def execSyncRendezvous (r : RoomId) (s : State) : Res :=
  let x := s.room r
  match x.astream.strm.wait, x.xstream.wait with
  | .rdv ta, .rdv tx =>
    if !roomGoes s r then .next s
    else if ta = tx then
      .next (s.onRoom r fun x =>
        { roomStrm (roomStrm x .a fun t => resumeStrm t 8) .x fun t => resumeStrm t (cmdSize x .x) with xIssued := false })
    else .next (haltRoom s r 0x0A06 (FaultAt.astream x))
  | _, _ => .next s

/-! ### The A-stream's commands (R390, R391) -/

/-- An A-stream command word in its fields (R390). -/
structure ACmd where
  op : Nat
  psel : Nat
  pneg : Bool
  tag : Byte
  arg : Nat
  deriving DecidableEq, Repr

def aDecode (w : Nat) : ACmd :=
  { op := bitsOf w 63 58, psel := bitsOf w 57 55, pneg := bitOf w 54, tag := BitVec.ofNat 8 (bitsOf w 53 46), arg := w % 2 ^ 46 }

/-- A run of ones from bit `lo` to bit `hi`. -/
def ones (hi lo : Nat) : Nat := 2 ^ (hi + 1) - 2 ^ lo

/-- Operand bits that an operation lists; `none` for an undefined operation (R391). -/
def aMask : Nat → Option Nat
  | 0x00 => some 0
  | 0x01 => some (ones 45 27)
  | 0x02 => some (ones 45 27)
  | 0x03 => some (ones 45 44)
  | 0x04 => some (ones 45 44 + ones 31 0)
  | 0x05 => some (ones 45 41 + ones 31 0)
  | 0x06 => some (ones 45 44)
  | 0x08 => some (ones 45 44 + ones 19 6)
  | 0x10 => some (ones 45 45 + ones 42 32 + ones 15 0)
  | 0x11 => some (ones 10 0)
  | 0x12 => some (ones 15 0)
  | 0x13 => some 0
  | 0x14 => some (ones 45 40)
  | 0x18 => some (ones 45 44 + ones 19 5)
  | 0x19 => some (ones 45 44)
  | 0x1A => some (ones 45 39)
  | 0x1B => some (ones 45 34)
  | 0x20 => some (ones 45 43 + ones 31 0)
  | 0x21 => some (ones 45 44)
  | 0x3F => some 0
  | _ => none

/-- A command that does not fault with 0x0A01 as it stands (R371, R389, R391). -/
def aLegal (c : ACmd) : Bool :=
  match aMask c.op with
  | none => false
  | some m =>
    (c.arg &&& m == c.arg) && !(c.psel == 0 && c.pneg) && !(c.op == 5 && bitsOf c.arg 43 42 == 3)
      && !(c.op == 0x1B && !bitOf c.arg 38 && bitsOf c.arg 37 34 != 0)

/-- A two-bit operand. -/
def ACmd.two (c : ACmd) (lo : Nat) : Fin 4 := ⟨c.arg / 2 ^ lo % 4, Nat.mod_lt _ (by decide)⟩
def ACmd.hq (c : ACmd) : Fin 32 := ⟨c.arg / 2 ^ 39 % 32, Nat.mod_lt _ (by decide)⟩

/-- One A-stream command at the stream's pc (R365, R371, R388, R389): `act` gives where execution goes on. The command of
another row leaves the state as it is. -/
def aRow (r : RoomId) (op : Nat) (act : ACmd → Nat → State → Got (Option Nat)) (s : State) : Res :=
  let x := s.room r
  let t := x.astream.strm
  if !strmGoes s r .a then .next s
  else if t.pc % 8 ≠ 0 ∨ 0x4000 < t.pc + 8 then .next (haltRoom s r 0x0A03 (FaultAt.astream x))
  else
    let c := aDecode (zword t.mem t.pc 8)
    if x.astream.issued = 0 ∧ strmHalts s r c.tag t then .next (debugHaltStrm s r .a)
    else if !aLegal c then .next (haltRoom s r 0x0A01 (FaultAt.astream x))
    else if c.op ≠ op then .next s
    else if predOn t c.psel c.pneg then strmResult r .a (act c (t.pc + 8) s)
    else if op = 0x10 then strmResult r .a (skipTo s r .a (t.pc + 8 + 8 * bitsOf c.arg 42 32))
    else strmResult r .a (.ok (some (t.pc + 8)) s)

/-- An attempt that goes on with the next command. -/
def thenNext {α : Type} (g : Got α) (next : Nat) : Got (Option Nat) := g.andThen fun _ s => .ok (some next) s

def setAdr (s : State) (r : RoomId) (k : Fin 4) (v : W48) : State :=
  s.onRoom r fun x => { x with astream := { x.astream with adr := vset x.astream.adr k v } }

def adrOf (s : State) (r : RoomId) (k : Fin 4) : W48 := (s.room r).astream.adr.get k

/-! ### Larder lines (R382, R383) -/

/-- The parts of a 64-byte transfer at byte `a`: one for each line it touches. -/
def lineParts (a : Nat) : List LinePart :=
  (linesOf a 64).map fun l =>
    let lo := max a (64 * l)
    { at_ := lo, first := lo - a, len := min (a + 64) (64 * l + 64) - lo, answer := none }

/-- The parts of a transfer at a wing offset of this device (R26). -/
def wingParts (s : State) (w : WingId) (o : Nat) : List LinePart :=
  (wingRuns s w o 64).map fun p => { at_ := p.1, first := p.2.1, len := p.2.2, answer := none }

/-- One request of a line goes out: to its home agent, or in a packet to another device (R282, R465, R472). -/
def sendPart (s : State) (r : RoomId) (l : LineXfer) (data : List Byte) (p : LinePart) (k : Nat) : State :=
  let bs := List.replicate (p.at_ % 64) (0 : Byte) ++ (data.drop p.first).take p.len
  let w := roomOwner s r
  match l.dev with
  | none =>
    postReq s { kind := if l.store then .ncWr ((bs ++ List.replicate 64 0).take 64) (beOf (p.at_ % 64) p.len) else .ncRd,
                line := p.at_ / 64, src := .astream r (2 * l.id + k) }
  | some dev =>
    let typ : PktType := if l.store then .wrReq else .rdReq
    let t := newRequest s (.aLine r (2 * l.id + k)) dev typ
    let flit := leBytes 2 t.1.toNat ++ [0, 0] ++ leBytes 5 (p.at_ / 64 * 64) ++ List.replicate 7 (0 : Byte) ++
      (if l.store then leBytes 8 (beOf (p.at_ % 64) p.len).toNat else List.replicate 8 0) ++ List.replicate 8 0
    postPacket t.2 (wingPacket t.2 typ 3 w dev t.1 (if l.store then flit ++ (bs ++ List.replicate 64 0).take 64 else flit))

/-- Every part of a line goes out; a store of a lockstep checker is discarded (R324). -/
def sendLineParts (s : State) (r : RoomId) (l : LineXfer) (data : List Byte) : State :=
  if l.store && isChecker s r then
    s.onRoom r fun x => { x with astream := { x.astream with lines := x.astream.lines.map fun y =>
      if y.id = l.id then { y with parts := y.parts.map fun p => { p with answer := some ([], false, 0) } } else y } }
  else l.parts.zipIdx.foldl (fun s p => sendPart s r l data p.1 p.2) s

/-- A store line's slots are read when their tags allow, and its writes go out (R304, R305, R382). -/
def sendStore (s : State) (r : RoomId) (l : LineXfer) : State :=
  let x := s.room r
  match readPieces x x.astream.strm.token (if l.tagged then 2 else 0) l.pieces with
  | .done (data, y) =>
    let s1 := s.onRoom r fun _ => { y with astream := { y.astream with lines := y.astream.lines.map fun z =>
      if z.id = l.id then { z with sent := true } else z } }
    sendLineParts s1 r l data
  | _ => s

/-- A line enters the in-flight entries; a load's requests go out, a store's once its slots can be read. -/
def enterLine (s : State) (r : RoomId) (store tagged : Bool) (dev : Option DevAddr) (ps : List Piece) (parts : List LinePart) : State :=
  let x := s.room r
  let l : LineXfer := { id := x.astream.nextLine, store := store, tagged := tagged, dev := dev, pieces := ps, sent := false,
                        parts := parts, pc := x.astream.strm.pc, count := x.astream.strm.count }
  let s1 := s.onRoom r fun x => { x with astream := { x.astream with
    lines := x.astream.lines ++ [l], nextLine := x.astream.nextLine + 1 } }
  if store then sendStore s1 r l else sendLineParts s1 r l []

/-- A line whose target is neither Larder nor another device is moved at once (R23, R24, R34). -/
def plainLine (s : State) (r : RoomId) (store tagged : Bool) (t : DevTarget) (ps : List Piece) : Got Unit :=
  let x := s.room r
  let token := x.astream.strm.token
  if store then
    match readPieces x token (if tagged then 2 else 0) ps with
    | .done (data, y) => .ok () (plainWrite (s.onRoom r fun _ => y) t data)
    | .wait w => .wait s w
    | .fault c => .fault s c
  else
    let rd := plainRead s t 64
    match writePieces (rd.2.room r) token tagged ps rd.1 with
    | .done y => .ok () (rd.2.onRoom r fun _ => y)
    | .wait w => .wait s w
    | .fault c => .fault s c

/-- One line of an LDT or STT is issued, or refused (R23-R28, R382). -/
def issueLine (s : State) (r : RoomId) (store tagged : Bool) (a : Nat) (ps : List Piece) : Got Unit :=
  let w := roomOwner s r
  match devDecode s a 64 with
  | none => .fault s 0x0701
  | some (.remote dev off) =>
    if dev = s.fabric.devAddr then
      if !wingRange s w off 64 then .fault s 0x0102
      else if !larderOpen s w then .fault s 0x0203
      else .ok () (enterLine s r store tagged none ps (wingParts s w off))
    else if remoteRefused s w dev ≠ 0 then .fault s (remoteRefused s w dev)
    else .ok () (enterLine s r store tagged (some dev) ps (lineParts off))
  | some t =>
    let c := localRefuse s w false store t 64
    if c ≠ 0 then .fault s c
    else match t with
      | .larder b => .ok () (enterLine s r store tagged none ps (lineParts b))
      | _ => plainLine s r store tagged t ps

/-- Lines are issued until the command has issued all, the in-flight bound holds it, or one is refused (R29, R383). -/
def issueLines : Nat → State → RoomId → Bool → Bool → Fin 4 → Nat → Got Unit
  | 0, s, _, _, _, _, _ => .ok () s
  | fuel + 1, s, r, store, tagged, g, a =>
    let x := s.room r
    let i := x.astream.issued
    if 64 ≤ x.astream.lines.length then
      .wait (s.onSys fun y => { y with stallRoom := vmod y.stallRoom r fun c => satAdd c 1 }) .inflight
    else (resolve s r .a g (64 * i) 64).andThen fun ps s1 =>
      (issueLine s1 r store tagged ((a + 64 * i) % 2 ^ 48) ps).andThen fun _ s2 =>
        issueLines fuel (s2.onRoom r fun x => { x with astream := { x.astream with issued := i + 1 } }) r store tagged g a

/-- LDT and STT: NLINES lines between ADR and the generator's slots (R382). -/
def xferLines (r : RoomId) (store : Bool) (c : ACmd) (next : Nat) (s : State) : Got (Option Nat) :=
  let g := c.two 44
  let tagged := bitOf c.arg 43
  let k := c.two 41
  let n := bitsOf c.arg 39 27 + 1
  let a := (adrOf s r k).toNat
  if store && tagged && (genOf s r .a g).half then .fault s 0x0A01
  else (issueLines (n - (s.room r).astream.issued) s r store tagged g a).andThen fun _ s1 =>
    let s2 := s1.onRoom r fun x => { x with astream := { x.astream with issued := 0 } }
    .ok (some next) (if bitOf c.arg 40 then setAdr s2 r k (BitVec.ofNat 48 (a + 64 * n)) else s2)

/-- LDT. -/
def execLdt (r : RoomId) (s : State) : Res := aRow r 0x01 (xferLines r false) s
/-- STT. -/
def execStt (r : RoomId) (s : State) : Res := aRow r 0x02 (xferLines r true) s

/-- A line leaves the in-flight entries. -/
def dropLine (x : Room) (id : Nat) : Room :=
  { x with astream := { x.astream with lines := x.astream.lines.filter fun l => l.id != id } }

/-- The bytes that the parts of a load brought. -/
def lineData (l : LineXfer) : List Byte :=
  (l.parts.map fun p => match p.answer with
    | some (d, _, _) => (d.drop (p.at_ % 64)).take p.len
    | none => []).flatten

/-- A part came back poisoned. -/
def linePoison (l : LineXfer) : Bool := l.parts.any fun p => match p.answer with | some (_, q, _) => q | none => false

/-- Lines in flight go on while the Room runs, is frozen or halted by a debugger (R42). -/
def linesMove (x : Room) : Bool := x.st == .running || x.st == .frozen || x.st == .debugHalt

/-- LDT_LINE_DONE: an answered line is written into its slots when their tags allow; a poisoned one halts the Room (R267,
R305, R382). -/
def execLdtLineDone (r : RoomId) (id : Nat) (s : State) : Res :=
  let x := s.room r
  match x.astream.lines.find? fun l => l.id == id && !l.store && l.answered with
  | none => .next s
  | some l =>
    if !linesMove x then .next s
    else if linePoison l then .next (haltRoom s r 0x0703 ⟨2, BitVec.ofNat 32 l.pc, l.count⟩)
    else match writePieces x x.astream.strm.token l.tagged l.pieces (lineData l) with
      | .done y => .next (s.onRoom r fun _ => dropLine y id)
      | _ => .next s

/-- STT_LINE_DONE: a line whose write is acknowledged ends; one that waited for its slots tries again (R305, R382). -/
def execSttLineDone (r : RoomId) (id : Nat) (s : State) : Res :=
  let x := s.room r
  match x.astream.lines.find? fun l => l.id == id && l.store with
  | none => .next s
  | some l =>
    if !linesMove x then .next s
    else if l.answered then .next (s.onRoom r fun x => dropLine x id)
    else if !l.sent ∧ roomGoes s r = true then .next (sendStore s r l)
    else .next s

/-! ### The other A-stream commands (R384-R387) -/

/-- NOP. -/
def execAsNop (r : RoomId) (s : State) : Res := aRow r 0x00 (fun _ next s => .ok (some next) s) s

/-- POPA: AQ into an ADR (R384). -/
def execPopa (r : RoomId) (s : State) : Res :=
  aRow r 0x03 (fun c next s => (popQ s r .a 0 c.tag).andThen fun v s1 => .ok (some next) (setAdr s1 r (c.two 44) (v.setWidth 48))) s

/-- ADDA: a signed byte increment of an ADR (R391). -/
def execAdda (r : RoomId) (s : State) : Res :=
  aRow r 0x04 (fun c next s =>
    .ok (some next) (setAdr s r (c.two 44) (adrOf s r (c.two 44) + (BitVec.ofNat 32 c.arg).signExtend 48))) s

/-- QPUSH: an ADR or an immediate to DQ0, DQ1 or NQ (R384, R391). -/
def execQpush (r : RoomId) (s : State) : Res :=
  aRow r 0x05 (fun c next s =>
    let q : Fin 6 := match bitsOf c.arg 43 42 with | 0 => 2 | 1 => 3 | _ => 5
    let v : W64 := if bitOf c.arg 41 then BitVec.ofNat 64 (c.arg % 2 ^ 32) else (adrOf s r (c.two 44)).setWidth 64
    thenNext (pushQ s r .a q c.tag v) next) s

/-- QPOP: DQ2 into an ADR (R384). -/
def execQpop (r : RoomId) (s : State) : Res :=
  aRow r 0x06 (fun c next s => (popQ s r .a 4 c.tag).andThen fun v s1 => .ok (some next) (setAdr s1 r (c.two 44) (v.setWidth 48))) s

/-- GLOAD. -/
def execAsGload (r : RoomId) (s : State) : Res :=
  aRow r 0x08 (fun c next s => thenNext (loadGen s r .a (c.two 44) (c.arg % 2 ^ 20)) next) s

/-- LOOP. -/
def execAsLoop (r : RoomId) (s : State) : Res :=
  aRow r 0x10 (fun c next s =>
    let len := bitsOf c.arg 42 32
    openLoop s r .a (bitOf c.arg 45) (bitsOf c.arg 15 0) len next (next + 8 * len) 0x4000 c.tag) s

/-- SKIP. -/
def execAsSkip (r : RoomId) (s : State) : Res :=
  aRow r 0x11 (fun c next s => skipTo s r .a (next + 8 * bitsOf c.arg 10 0)) s

/-- PSET. -/
def execAsPset (r : RoomId) (s : State) : Res :=
  aRow r 0x12 (fun c next s =>
    .ok (some next) (setPreds s r .a (BitVec.ofNat 8 (bitsOf c.arg 15 8)) (BitVec.ofNat 8 (bitsOf c.arg 7 0)))) s

/-- PPOP: p1-p7 from AQ (R372). -/
def execAsPpop (r : RoomId) (s : State) : Res :=
  aRow r 0x13 (fun c next s => (popQ s r .a 0 c.tag).andThen fun v s1 =>
    .ok (some next) (setPreds s1 r .a 0xFF (v.setWidth 8))) s

/-- PLOOP. -/
def execAsPloop (r : RoomId) (s : State) : Res :=
  aRow r 0x14 (fun c next s =>
    .ok (some next) (loopPred s r .a (bitsOf c.arg 45 43) (bitsOf c.arg 42 41) (bitOf c.arg 40))) s

/-- A bind record in its fields with its check for reserved bits and values (R236). -/
def bindOk (b : List Byte) : Bool :=
  let f := fieldAt b
  decide (f 0 1 < 32 ∧ f 1 1 < 2 ∧ f 2 2 < 4096 ∧ (f 1 1 = 1 ∨ f 2 2 = 0) ∧ f 8 2 ≠ 0 ∧ f 10 2 ≠ 0 ∧ f 16 1 < 32 ∧ f 17 1 < 32
    ∧ f 18 2 < 4096) && zeroAt b 20 12

/-- A queue of a bind record is held by the binding task (R225). -/
def bindQueueOk (x : Room) (b : Byte) : Bool :=
  (x.hqs.get (queueOf b)).kind != .off && (x.hqs.get (queueOf b)).task == x.task

/-- The condition that refuses a bind, and the stream number it gets (R225, R231). -/
def bindCheck (s : State) (r : RoomId) (b : List Byte) : Except Cond (Fin 64) :=
  let x := s.room r
  let w := roomOwner s r
  let img : Fin 32 := ⟨fieldAt b 0 1 % 32, Nat.mod_lt _ (by decide)⟩
  let g := s.image w img
  let remote := (b.getD 1 0).getLsbD 0 && fieldAt b 2 2 != s.fabric.devAddr.toNat
  let dev : DevAddr := BitVec.ofNat 12 (fieldAt b 2 2)
  let last := fieldAt b 4 4 + (fieldAt b 10 2 - 1) * fieldAt b 12 4 + fieldAt b 8 2
  match lowest s.cellar.streams fun _ y => y.st == .free with
  | none => .error 0x0608
  | some n =>
    if !bindOk b || !bindQueueOk x (b.getD 16 0) || !bindQueueOk x (b.getD 17 0) then .error 0x0609
    else if remote then
      if remoteRefused s w dev ≠ 0 then .error (remoteRefused s w dev) else .ok n
    else if g.st ≠ .committed ∨ 4 * g.quarterPages.toNat < last then .error 0x0609
    else if !keyFilled s (cellarSlot w) then .error 0x0203
    else .ok n

/-- The stream that a bind record asks for (R225, R226, R230). -/
def bindStream (s : State) (r : RoomId) (b : List Byte) (n : Fin 64) : State :=
  let w := roomOwner s r
  let img : Fin 32 := ⟨fieldAt b 0 1 % 32, Nat.mod_lt _ (by decide)⟩
  let remote := (b.getD 1 0).getLsbD 0 && fieldAt b 2 2 != s.fabric.devAddr.toNat
  let hint := fieldAt b 18 2
  let st : CelStream :=
    { CelStream.init with
      st := .running, wing := w, room := r, image := img, remote := remote, source := BitVec.ofNat 12 (fieldAt b 2 2),
      startPage := fieldAt b 4 4, runPages := fieldAt b 8 2, runs := fieldAt b 10 2, runStride := fieldAt b 12 4,
      freeQ := b.getD 16 0, fullQ := b.getD 17 0, rate := if hint = 0 then 256 else hint }
  (if remote then s else s.onCellar fun c =>
    { c with images := vmod c.images w fun v => vmod v img fun i => { i with streams := i.streams + 1 } }).onStream n fun _ => st

/-- A refused bind of an image of this device leaves its code in LAST_COND (R235). -/
def noteBindRefusal (s : State) (r : RoomId) (b : List Byte) (c : Cond) : State :=
  if (b.getD 1 0).getLsbD 0 && fieldAt b 2 2 != s.fabric.devAddr.toNat then s
  else noteImageCond s (roomOwner s r) ⟨fieldAt b 0 1 % 32, Nat.mod_lt _ (by decide)⟩ c

/-- BIND: a Cellar stream is bound to an empty bind slot (R225, R387). -/
def execBind (r : RoomId) (s : State) : Res :=
  aRow r 0x18 (fun c next s =>
    let x := s.room r
    let ss := c.two 44
    if (x.astream.bind.get ss).isSome then .fault s 0x0A08
    else match windowAddr x (c.arg % 2 ^ 20) 32 with
      | none => .fault s 0x0802
      | some a =>
        let b := zread x.pantry a 32
        match bindCheck s r b with
        | .error e => .fault (noteBindRefusal s r b e) e
        | .ok n => .ok (some next) ((bindStream s r b n).onRoom r fun x =>
            { x with astream := { x.astream with bind := vset x.astream.bind ss (some n) } })) s

/-- UNBIND: the stream of a bind slot is unbound and the slot is empty (R227, R387). -/
def execUnbind (r : RoomId) (s : State) : Res :=
  aRow r 0x19 (fun c next s =>
    let ss := c.two 44
    match (s.room r).astream.bind.get ss with
    | none => .fault s 0x0A08
    | some n => .ok (some next) ((unbindStream s n).onRoom r fun x =>
        { x with astream := { x.astream with bind := vset x.astream.bind ss none } })) s

/-- HRECV. -/
def execAsHrecv (r : RoomId) (s : State) : Res :=
  aRow r 0x1A (fun c next s => thenNext (recvGen s r .a (c.two 44) c.hq) next) s

/-- HSEND. -/
def execAsHsend (r : RoomId) (s : State) : Res :=
  aRow r 0x1B (fun c next s =>
    thenNext (sendGen s r .a (c.two 44) c.hq (bitOf c.arg 38) (bitsOf c.arg 37 34) c.tag) next) s

/-- WAITPH. -/
def execAsWaitph (r : RoomId) (s : State) : Res :=
  aRow r 0x20 (fun c next s =>
    let target : W48 := if bitOf c.arg 45 then (s.room r).astream.strm.mark + BitVec.ofNat 48 (c.arg % 2 ^ 32)
      else adrOf s r (c.two 43)
    waitPhase s r .a target next) s

/-- SYNC: DRAIN waits for the stream's lines, RDV for the X-stream; with neither it is a NOP (R385). -/
def execAsSync (r : RoomId) (s : State) : Res :=
  aRow r 0x21 (fun c next s =>
    if bitOf c.arg 45 && !(s.room r).astream.lines.isEmpty then .wait s .sync
    else if bitOf c.arg 44 then .ok none (onStrm s r .a fun t => { t with wait := .rdv c.tag })
    else .ok (some next) s) s

/-- END: the stream ends once its own lines have completed (R365). -/
def execAsEnd (r : RoomId) (s : State) : Res :=
  aRow r 0x3F (fun _ _ s =>
    if !(s.room r).astream.lines.isEmpty then .wait s .none
    else .ok none (endStrm (onStrm s r .a fun t => { t with count := t.count + 1 }) r .a)) s

end Sys2Proof.Machine
end

