-- ==== Sys2Proof/Machine/Compute.lean ====
section
/-!
DEFINITION. Machine/Compute.lean: the X-stream's long words (R392-R395) and what they start: Hearth operations (R406-R414, R427),
Scullery operations (R415-R421, R428), Pantry moves and control operations.
-/
namespace Sys2Proof.Machine
open Sys2Proof

/-! ### Long words (R392-R395) -/

/-- A Hearth or Scullery slot word in its fields (R392). -/
structure Slot where
  op : Nat
  fmt : Nat
  sa : Nat
  sb : Nat
  dst : Nat
  ca : Nat
  cb : Nat
  cd : Bool
  aux : Nat
  deriving DecidableEq, Repr

def slotOf (w : Nat) : Slot :=
  { op := bitsOf w 31 24, fmt := bitsOf w 23 20, sa := bitsOf w 19 17, sb := bitsOf w 16 14, dst := bitsOf w 13 11,
    ca := bitsOf w 10 9, cb := bitsOf w 8 7, cd := bitOf w 6, aux := bitsOf w 5 0 }

/-- A long word: its size, header fields and slot words (R392). -/
structure XCmd where
  size : Nat
  tag : Byte
  psel : Nat
  pneg : Bool
  h : Option Nat
  s : Option Nat
  m : Option Nat
  c : Option Nat
  deriving DecidableEq, Repr

/-- The slot word of a MASK bit: absent slots are omitted (R392). -/
def xSlot (mem : List Host.Cell) (pc mask bit : Nat) : Option Nat :=
  if bitOf mask bit then some (zword mem (pc + 2 + 4 * popCount (BitVec.ofNat 4 (mask % 2 ^ bit))) 4) else none

def xDecode (mem : List Host.Cell) (pc : Nat) : XCmd :=
  let w := zword mem pc 2
  let mask := w % 16
  { size := xWordSize mem pc, tag := BitVec.ofNat 8 (bitsOf w 11 4), psel := bitsOf w 14 12, pneg := bitOf w 15,
    h := xSlot mem pc mask 0, s := xSlot mem pc mask 1, m := xSlot mem pc mask 2, c := xSlot mem pc mask 3 }

/-- The offset `n` long words further on; beyond the memory once a word would extend past its end. -/
def xWalk (mem : List Host.Cell) : Nat → Nat → Nat
  | 0, pc => pc
  | n + 1, pc => if 0x8000 < pc + 2 then 0x8002 else xWalk mem n (pc + xWordSize mem pc)

/-! ### Element formats (R393, R400-R402) -/

inductive Elem where
  | int4 | int8 | e4m3 | e5m2 | bf16 | f32 | int32
  deriving DecidableEq, Repr

def elemOf : Nat → Option Elem
  | 0 => some .int4 | 1 => some .int8 | 2 => some .e4m3 | 3 => some .e5m2 | 4 => some .bf16 | 5 => some .f32 | 6 => some .int32
  | _ => none

/-- Bytes of `n` elements. -/
def Elem.size (e : Elem) (n : Nat) : Nat :=
  match e with | .int4 => n / 2 | .int8 => n | .e4m3 => n | .e5m2 => n | .bf16 => 2 * n | .f32 => 4 * n | .int32 => 4 * n

/-- Bytes in groups of `k`, as values. -/
def words (k : Nat) (bs : List Byte) : List Nat := (List.range (bs.length / k)).map fun i => fieldAt bs (i * k) k

/-- Elements of a byte run (R402). -/
def elems (e : Elem) (bs : List Byte) : List Num :=
  match e with
  | .int4 => (bs.map fun b => [intNum (intOf 4 (b.toNat % 16)), intNum (intOf 4 (b.toNat / 16))]).flatten
  | .int8 => bs.map fun b => intNum b.toInt
  | .e4m3 => bs.map fun b => fpNum .e4m3 b.toNat
  | .e5m2 => bs.map fun b => fpNum .e5m2 b.toNat
  | .bf16 => (words 2 bs).map (fpNum .bf16)
  | .f32 => (words 4 bs).map (fpNum .f32)
  | .int32 => (words 4 bs).map fun v => intNum (intOf 32 v)

/-- One result in its destination format (R404, R405). -/
def intoElem (e : Elem) (rtz satf : Bool) (v : Num) : Rounded :=
  match e with
  | .int4 => roundInt 4 rtz v | .int8 => roundInt 8 rtz v | .int32 => roundInt 32 rtz v
  | .e4m3 => roundFp .e4m3 rtz satf v | .e5m2 => roundFp .e5m2 rtz satf v
  | .bf16 => roundFp .bf16 rtz satf v | .f32 => roundFp .f32 rtz satf v

/-! ### ROOM_HX_CFG (R429) -/

def cfgKH (c : W32) : Nat := bitsOf c.toNat 31 28
def cfgKW (c : W32) : Nat := bitsOf c.toNat 27 24
def cfgDY (c : W32) : Nat := bitsOf c.toNat 23 20
def cfgDX (c : W32) : Nat := bitsOf c.toNat 19 16
def cfgSV (c : W32) : Nat := bitsOf c.toNat 15 12
def cfgRows (c : W32) : Nat := bitsOf c.toNat 11 8 + 1
def cfgShift (c : W32) : Nat := bitsOf c.toNat 7 5
def cfgGroup (c : W32) : Nat := 2 ^ bitsOf c.toNat 4 3
def cfgRtz (c : W32) : Bool := c.getLsbD 2
def cfgSatf (c : W32) : Bool := c.getLsbD 0

/-- A value without a reserved field (R413, R429). -/
def cfgOk (c : W32) : Bool :=
  decide (cfgKH c ≠ 0 ∧ cfgKW c ≠ 0 ∧ cfgDY c ≠ 0 ∧ cfgDX c ≠ 0 ∧ cfgSV c ≠ 0 ∧ cfgShift c ≤ 4) && !c.getLsbD 1

/-! ### Legality of slot words (R389, R394, R395, R400, R401, R408, R409, R415, R427, R428) -/

/-- The activation format of AFMT (R409). -/
def actFmt (fmt af : Nat) : Option Elem :=
  match fmt, af with
  | 0, 0 => some .int8 | 1, 0 => some .int8
  | 2, 0 => some .e4m3 | 3, 0 => some .e5m2
  | 2, 1 => some .e4m3 | 3, 1 => some .e4m3 | 2, 2 => some .e5m2 | 3, 2 => some .e5m2 | 2, 3 => some .bf16 | 3, 3 => some .bf16
  | 4, 0 => some .bf16 | 4, 3 => some .bf16
  | _, _ => none

/-- A Hearth slot word that is no command fault. -/
def hLegal (w : Slot) : Bool :=
  w.dst == 6 && !w.cd && w.ca != 3 && w.cb != 3 &&
    (if w.op = 0x10 ∨ w.op = 0x11 then w.sa ≤ 3 && w.sb ≤ 3 && (actFmt w.fmt (w.aux / 16)).isSome
     else if w.op = 0x18 then w.sa ≤ 3 && w.sb ≤ 3 && (actFmt w.fmt (w.aux / 16)).isSome && w.aux / 2 % 4 == 0
     else if w.op = 0x1F then w.fmt == 0 && (w.sa == 4 || w.sa == 5) && w.sb == 7 && w.aux == 0
     else false)

/-- Kinds of Scullery operations. -/
inductive SKind where
  | elem | cvt | red | sld | sst | rsq | tkclr | topk | tkout | tkmrg | sample | dw
  deriving DecidableEq, Repr

/-- The kind of a Scullery operation (R428). -/
def sKind (op : Nat) : Option SKind :=
  if (0x40 ≤ op ∧ op ≤ 0x46) ∨ (0x48 ≤ op ∧ op ≤ 0x4C) then some .elem
  else if 0x50 ≤ op ∧ op ≤ 0x55 then some .cvt
  else if 0x58 ≤ op ∧ op ≤ 0x5B then some .red
  else match op with
    | 0x60 => some .sld | 0x61 => some .sst | 0x62 => some .rsq | 0x63 => some .rsq | 0x68 => some .tkclr | 0x69 => some .topk
    | 0x6A => some .tkout | 0x6B => some .tkmrg | 0x6C => some .sample | 0x70 => some .dw
    | _ => none

def isGen (n : Nat) : Bool := n ≤ 3
def isQueue (n : Nat) : Bool := n == 4 || n == 5

/-- SA, SB and DST that an operation takes (R408, R415, R420, R428). -/
def sOperands (k : SKind) (w : Slot) : Bool :=
  let dataA := isGen w.sa || isQueue w.sa || w.sa == 6
  let dataB := isGen w.sb || isQueue w.sb
  let optB := dataB || w.sb == 7
  match k with
  | .elem =>
    dataA && (isGen w.dst || w.dst == 7) &&
      (if w.op = 0x45 ∨ w.op = 0x46 ∨ w.op = 0x4C then dataB
       else if w.op = 0x49 ∨ w.op = 0x4A ∨ w.op = 0x4B then w.sb == 7 else optB)
  | .cvt => dataA && (isGen w.dst || w.dst == 7) && optB
  | .red => dataA && w.dst == 7 && (if w.op = 0x5B then dataB else w.sb == 7)
  | .sld => (isGen w.sa || isQueue w.sa) && w.sb == 7 && w.dst == 7
  | .sst => w.sa == 7 && w.sb == 7 && isQueue w.dst
  | .rsq => isQueue w.sa && isQueue w.sb && w.dst == 7
  | .tkclr => isQueue w.sa && w.sb == 7 && w.dst == 7
  | .topk => dataA && w.sb == 7 && w.dst == 7
  | .tkout => w.sa == 7 && w.sb == 7 && isGen w.dst
  | .tkmrg => isGen w.sa && w.sb == 7 && w.dst == 7
  | .sample => isQueue w.sa && w.sb == 7 && isQueue w.dst
  | .dw => isGen w.sa && isGen w.sb && isGen w.dst

/-- Operations whose AUX is reserved (R428). -/
def auxReserved : SKind → Bool
  | .sld => true | .sst => true | .rsq => true | .tkclr => true | .tkout => true | .sample => true | _ => false

/-- Formats that an operation takes; a read of ACC takes its own by R408. -/
def sFormat (k : SKind) (w : Slot) : Bool :=
  match k with
  | .cvt => 1 ≤ w.fmt && w.fmt ≤ 6
  | .dw => w.fmt == 4
  | _ => w.fmt == 4 || w.fmt == 5

/-- A Scullery slot word that is no command fault. -/
def sLegal (w : Slot) : Bool :=
  match sKind w.op with
  | none => false
  | some k => w.ca != 3 && w.cb != 3 && sFormat k w && sOperands k w && !(auxReserved k && w.aux != 0)

/-- A Pantry-move slot word that is no command fault (R394). -/
def mLegal (w : Nat) : Bool :=
  decide (bitsOf w 31 28 ≤ 1 ∧ bitsOf w 23 22 ≠ 3 ∧ w % 2 ^ 19 = 0) && !(bitsOf w 31 28 == 1 && bitsOf w 27 26 != 0)

/-- Bits that a control operation lists (R395). -/
def cMask : Nat → Option Nat
  | 1 => some (ones 27 16 + ones 15 0)
  | 2 => some (ones 10 0)
  | 3 => some (ones 15 0)
  | 4 => some 0
  | 5 => some (ones 27 22)
  | 6 => some (ones 27 26 + ones 13 0)
  | 7 => some (ones 27 21)
  | 8 => some (ones 27 16)
  | 9 => some (ones 27 0)
  | 10 => some 0
  | 11 => some 0
  | _ => none

def cLegal (w : Nat) : Bool :=
  match cMask (w / 2 ^ 28 % 16) with
  | none => false
  | some m => (w % 2 ^ 28 &&& m == w % 2 ^ 28) && !(w / 2 ^ 28 % 16 == 8 && !bitOf w 20 && bitsOf w 19 16 != 0)

/-- Drain reads through generators with HALF = 1, which are reserved (R377). -/
def halfDrain (t : Strm) (sel cls : Nat) : Bool :=
  cls == 2 && (match idx 4 sel with | some i => (t.gens.get i).half | none => false)

def slotHalfDrain (t : Strm) (w : Slot) : Bool := halfDrain t w.sa w.ca || halfDrain t w.sb w.cb

/-- A long word that does not fault with 0x0A01 (R371, R377, R389). -/
def xLegal (t : Strm) (c : XCmd) : Bool :=
  !(c.psel == 0 && c.pneg)
    && c.h.all (fun w => hLegal (slotOf w) && !slotHalfDrain t (slotOf w))
    && c.s.all (fun w => sLegal (slotOf w) && !slotHalfDrain t (slotOf w))
    && c.m.all (fun w => mLegal w && !halfDrain t (bitsOf w 27 26) (bitsOf w 23 22))
    && c.c.all cLegal

/-! ### Operands of an operation (R376, R406, R407, R411, R415, R416, R420) -/

/-- A wanted run of bytes: generator, coordinates, offset and length. -/
structure Want where
  g : Fin 4
  u : Int
  v : Int
  off : Nat
  n : Nat
  deriving DecidableEq, Repr

/-- The wanted runs of an operation, by beat. -/
structure PlanBeat where
  a : List Want
  b : List Want
  d : List Want
  deriving DecidableEq, Repr

structure Plan where
  beats : List PlanBeat
  scale : List Want
  deriving DecidableEq, Repr

/-- A run from a generator's current position; none when the operand is no generator. -/
def wantAt (t : Strm) (sel off n : Nat) : List Want :=
  match idx 4 sel with
  | none => []
  | some i => let p := genUV t (t.gens.get i); [{ g := i, u := p.1, v := p.2, off := off, n := n }]

/-- Offsets (ky, kx) of a kernel, in order. -/
def kernel (c : W32) : List (Nat × Nat) :=
  ((List.range (cfgKH c)).map fun y => (List.range (cfgKW c)).map fun x => (y, x)).flatten

/-- Units of a feature map at a kernel's offsets, `step` positions along x from the current one (R411, R420). -/
def unitWants (t : Strm) (cfg : W32) (sel step n : Nat) : List Want :=
  match idx 4 sel with
  | none => []
  | some i =>
    let p := genUV t (t.gens.get i)
    (kernel cfg).map fun k =>
      { g := i, u := p.1 + ((k.1 * cfgDY cfg : Nat) : Int), v := p.2 + ((k.2 * cfgDX cfg + step : Nat) : Int), off := 0, n := n }

/-- What a Hearth operation reads (R406, R410, R411). CONV reads, for each row, the units of the kernel. -/
def hPlan (t : Strm) (cfg : W32) (w : Slot) : Plan :=
  let ae := (actFmt w.fmt (w.aux / 16)).getD .int8
  let we := (elemOf w.fmt).getD .int8
  if w.op = 0x18 then
    { beats := [{ a := ((List.range (cfgRows cfg)).map fun r => unitWants t cfg w.sa (r * cfgSV cfg) (ae.size 32)).flatten,
                  b := wantAt t w.sb 0 (cfgKH cfg * cfgKW cfg * we.size 256), d := [] }], scale := [] }
  else
    { beats := [{ a := wantAt t w.sa 0 (ae.size 256), b := wantAt t w.sb 0 (we.size 256), d := [] }],
      scale := if bitOf w.aux 0 then wantAt t (bitsOf w.aux 2 1) 0 64 else [] }

/-- The destination format of a Scullery operation (R428). -/
def dstElem (w : Slot) : Elem :=
  match w.op with
  | 0x50 => .int8 | 0x51 => .e4m3 | 0x52 => .e5m2 | 0x53 => .bf16 | 0x54 => .f32 | 0x55 => .int32
  | _ => (elemOf w.fmt).getD .f32

/-- Elements of beat `j`: 32, or two rows of ACC (R415, R416). -/
def beatElems (w : Slot) (rows j : Nat) : Nat := if w.sa = 6 then 16 * min 2 (rows - 2 * j) else 32

/-- What a Scullery operation reads and writes, by beat (R415, R416, R419, R420, R430). -/
def sPlan (t : Strm) (cfg : W32) (topK : Option Nat) (k : SKind) (w : Slot) : Plan :=
  let e := (elemOf w.fmt).getD .f32
  let be : Elem := if k = .cvt then .f32 else e
  let de := dstElem w
  let rows := cfgRows cfg
  match k with
  | .dw =>
    { beats := (List.range (w.aux + 1)).map fun n =>
        { a := unitWants t cfg w.sa (n * cfgSV cfg) 64, b := [], d := wantAt t w.dst (64 * n) 64 },
      scale := wantAt t w.sb 0 (64 * cfgKH cfg * cfgKW cfg * cfgGroup cfg) }
  | .sld => { beats := [{ a := wantAt t w.sa 0 (e.size 1), b := [], d := [] }], scale := [] }
  | .tkout => { beats := [{ a := [], b := [], d := wantAt t w.dst 0 (8 * topK.getD 0) }], scale := [] }
  | .tkmrg => { beats := (List.range (w.aux + 1)).map fun j => { a := wantAt t w.sa (64 * j) 64, b := [], d := [] }, scale := [] }
  | .sst | .rsq | .tkclr | .sample => { beats := [{ a := [], b := [], d := [] }], scale := [] }
  | _ =>
    let n := if w.sa = 6 then (rows + 1) / 2 else w.aux + 1
    { beats := (List.range n).map fun j =>
        { a := wantAt t w.sa (e.size 32 * j) (e.size 32),
          b := wantAt t w.sb (be.size 32 * j) (be.size (beatElems w rows j)),
          d := if w.sa = 6 then
              ((List.range (min 2 (rows - 2 * j))).map fun i =>
                wantAt t w.dst ((2 * j + i) * (1 + w.aux) * de.size 16) (de.size 16)).flatten
            else wantAt t w.dst (de.size 32 * j) (de.size 32) },
      scale := [] }

def PlanBeat.wants (p : PlanBeat) : List Want := p.a ++ p.b ++ p.d
def Plan.wants (p : Plan) : List Want := (p.beats.map PlanBeat.wants).flatten ++ p.scale

/-- Runs resolved in one pass: those through chain leaders first, then all others (R381). -/
def resolvePass (r : RoomId) (lead : Bool) (ws : List (Want × Option (List Piece))) (s : State) :
    Got (List (Want × Option (List Piece))) :=
  ws.foldl (fun acc w => acc.andThen fun ps s =>
    if w.2.isSome || (genOf s r .x w.1.g).chain != lead then .ok (ps ++ [w]) s
    else (resolveAt s r .x w.1.g w.1.u w.1.v w.1.off w.1.n true).andThen fun p s1 => .ok (ps ++ [(w.1, some p)]) s1) (.ok [] s)

/-- The pieces of wanted runs, in order. -/
def resolveWants (s : State) (r : RoomId) (ws : List Want) : Got (List (List Piece)) :=
  ((resolvePass r true (ws.map fun w => (w, none)) s).andThen fun ps s1 => resolvePass r false ps s1).andThen
    fun ps s1 => .ok (ps.map fun p => p.2.getD []) s1

/-- Resolved runs back in the beats they belong to. -/
def fillBeats : List PlanBeat → List (List Piece) → List XBeat
  | [], _ => []
  | p :: ps, rs =>
    let na := p.a.length
    let nb := p.b.length
    let nd := p.d.length
    { a := (rs.take na).flatten, b := ((rs.drop na).take nb).flatten, d := ((rs.drop (na + nb)).take nd).flatten }
      :: fillBeats ps (rs.drop (na + nb + nd))

/-! ### Flags (R403-R405, R424) -/

def addFlags (c : Compute) (rs : List Rounded) : Compute :=
  { c with ovf := c.ovf || rs.any (·.ovf), nan := c.nan || rs.any (·.nan) }

def onCompute (x : Room) (f : Compute → Compute) : Room := { x with compute := f x.compute }

/-! ### Hearth operations (R404, R408-R411) -/

/-- The integer that an exact integer number is. -/
def numInt : Num → Int
  | .fin neg m e => signed neg (m * 2 ^ e.toNat)
  | _ => 0

/-- An entry of ACC as a number (R408). -/
def accNum (c : Compute) (i : Nat) : Num :=
  let v := (c.acc.toList[i]?).getD 0
  match c.accType with
  | .empty => .fin false 0 0
  | .int => intNum v.toInt
  | .float => fpNum .f32 v.toNat

/-- ACC becomes EMPTY (R408). -/
def emptyAcc (c : Compute) : Compute := { c with accType := .empty, acc := Vector.replicate 256 0 }

/-- The type that a Hearth operation gives ACC (R408). -/
def accTypeOf (w : Slot) : AccType :=
  if (w.fmt = 0 ∨ w.fmt = 1) ∧ (w.op = 0x18 ∨ bitOf w.aux 0 = false) then .int else .float

/-- ACC with an addend for each row below ROWS and each column: an exact sum in INT, one rounding in FLOAT (R404). -/
def accumulate (c : Compute) (cfg : W32) (t : AccType) (addend : Nat → Nat → Num) : Compute :=
  let rows := cfgRows cfg
  if t = .int then
    let vs := (List.range 256).map fun i =>
      if i / 16 < rows then satInt32 (numInt (accNum c i) + numInt (addend (i / 16) (i % 16))) else ((c.acc.toList[i]?).getD 0, false)
    { c with accType := .int, acc := Vector.ofFn fun i => (((vs.toArray)[i.1]?).map (·.1)).getD 0,
             isat := c.isat || vs.any (·.2) }
  else
    let vs := (List.range 256).map fun i =>
      if i / 16 < rows then roundFp .f32 (cfgRtz cfg) true (numAdd (addend (i / 16) (i % 16)) (accNum c i))
      else ⟨((c.acc.toList[i]?).getD 0).toNat, false, false⟩
    addFlags { c with accType := .float, acc := Vector.ofFn fun i => BitVec.ofNat 32 ((((vs.toArray)[i.1]?).map (·.bits)).getD 0) } vs

/-- Σ over i < 16 of A[ai i] × W[wi i], exact. -/
def dot16 (a w : Array Num) (ai wi : Nat → Nat) : Num :=
  numSum ((List.range 16).map fun i => numMul (a.getD (ai i) .nan) (w.getD (wi i) .nan))

/-- A Hearth operation on the bytes it read (R404, R406, R409-R411). -/
def hearthCompute (c : Compute) (o : XOp) (w : Slot) (ab bb sb : List Byte) : Compute :=
  let ae := (actFmt w.fmt (w.aux / 16)).getD .int8
  let a := (elems ae ab).toArray
  let b := (elems ((elemOf w.fmt).getD .int8) bb).toArray
  let c := if bitOf w.aux 3 then emptyAcc c else c
  let t := accTypeOf w
  if w.op = 0x18 then
    let n := cfgKH o.cfg * cfgKW o.cfg
    accumulate c o.cfg t fun r q =>
      numSum ((List.range n).map fun k =>
        dot16 a b (fun i => 32 * (r * n + k) + 16 * b2n (bitOf w.aux 0) + i) (fun i => 256 * k + 16 * q + i))
  else
    let sc := (elems .bf16 sb).toArray
    let wi (q i : Nat) : Nat := if w.op = 0x11 then 16 * i + q else 16 * q + i
    accumulate c o.cfg t fun r q =>
      let d := dot16 a b (fun i => 16 * r + i) (wi q)
      if bitOf w.aux 0 then numMul (sc.getD (16 * (o.loop / 2 ^ cfgShift o.cfg % 2) + q) .nan) d else d

/-- A Hearth operation starts when its operands can be read (R305, R408, R422). -/
def runHearth (x : Room) (o : XOp) : Tried Room :=
  let w := slotOf o.word.toNat
  let beat := o.beats.head?.getD { a := [], b := [], d := [] }
  if !bitOf w.aux 3 && x.compute.accType != .empty && x.compute.accType != accTypeOf w then .fault 0x0A09
  else match readPieces x o.token w.ca beat.a with
    | .wait why => .wait why
    | .fault c => .fault c
    | .done (ab, x1) => match readPieces x1 o.token w.cb beat.b with
      | .wait why => .wait why
      | .fault c => .fault c
      | .done (bb, x2) =>
        let sb := (o.scale.map (pieceBytes x2)).flatten
        .done (onCompute x2 fun c => hearthCompute c o w ab bb sb)

/-! ### Scullery operations (R415-R420, R428, R430) -/

/-- A name for an exact value, for the free values of the functions. -/
def numKey : Num → Nat
  | .nan => 0
  | .inf neg => 1 + b2n neg
  | .fin neg m e => 3 + ((m * 2 + b2n neg) * 4096 + (e + 2048).toNat)

/-- A function's binary32 result within 4 ulp of the exact value, or the free value where the spec states none. -/
def nearValue (fn : Nat) (rtz : Bool) (arg : Num) (v : Option Num) : Rounded :=
  match v with
  | some v => nearBits fn (numKey arg) (roundFp .f32 rtz true v)
  | none => ⟨(Config.openFn fn (numKey arg)).toNat, false, false⟩

/-- SREG as a number. -/
def sregNum (c : Compute) : Num := fpNum .f32 c.sreg.toNat

/-- Elements of SA in beat `j`. -/
def aElems (c : Compute) (w : Slot) (rows j : Nat) (qa : W32) (bs : List Byte) : List Num :=
  if w.sa = 6 then (List.range (beatElems w rows j)).map fun i => accNum c (32 * j + i)
  else if isQueue w.sa then List.replicate 32 (fpNum .f32 qa.toNat)
  else elems ((elemOf w.fmt).getD .f32) bs

/-- Elements of SB in beat `j`: a queue's value or SREG broadcast, 1.0 for a conversion without SB (R415, R428). -/
def bElems (c : Compute) (w : Slot) (k : SKind) (n : Nat) (qb : W32) (bs : List Byte) : List Num :=
  if isQueue w.sb then List.replicate n (fpNum .f32 qb.toNat)
  else if w.sb = 7 then List.replicate n (if k = .cvt then .fin false 1 0 else sregNum c)
  else elems (if k = .cvt then .f32 else (elemOf w.fmt).getD .f32) bs

/-- SA with its neighbour of an even and odd pair. -/
def ropePairs : List Num → List Num → List Num
  | a :: b :: as, c :: s :: bs =>
    numAdd (numMul a c) (numNeg (numMul b s)) :: numAdd (numMul a s) (numMul b c) :: ropePairs as bs
  | _, _ => []

/-- Exact results of an element operation, and the roundings of its functions (R428). -/
def elemResults (op : Nat) (rtz : Bool) (sreg : Num) (as bs : List Num) : List Num × List Rounded :=
  let two (f : Num → Num → Num) : List Num × List Rounded := (List.zipWith f as bs, [])
  let fn (l : List (Num × Rounded)) : List Num × List Rounded := (l.map fun p => fpNum .f32 p.2.bits, l.map (·.2))
  match op with
  | 0x40 => two numAdd
  | 0x41 => two fun a b => numAdd a (numNeg b)
  | 0x42 => two numMul
  | 0x43 => two numMax
  | 0x44 => two numMin
  | 0x45 => two fun a b => numMul (numMul a b) sreg
  | 0x46 => (ropePairs as bs, [])
  | 0x48 => fn (List.zipWith (fun a b => let d := numAdd a (numNeg b); (d, nearValue 0 rtz d (some (expNum d)))) as bs)
  | 0x49 => fn (as.map fun a => (a, nearValue 1 rtz a (some (siluNum a))))
  | 0x4A => fn (as.map fun a => (a, nearValue 2 rtz a (some (geluNum a))))
  | 0x4B => fn (as.map fun a => (a, nearValue 3 rtz a (some (tanhNum a))))
  | 0x4C =>
    let l := as.map fun a => nearValue 1 rtz a (some (siluNum a))
    (List.zipWith (fun p b => numMul (fpNum .f32 p.bits) b) l bs, l)
  | _ => two numMul

/-- Results as bytes of the destination, with their roundings (R404, R405). -/
def resultBytes (e : Elem) (cfg : W32) (vs : List Num) : List Byte × List Rounded :=
  let rs := vs.map (intoElem e (cfgRtz cfg) (cfgSatf cfg))
  ((rs.map fun r => leBytes (e.size 1) r.bits).flatten, rs)

/-- A beat's results are stored; slots that no later beat writes get their tags set by a fill write (R423). -/
def storeBeat (x : Room) (token fill : Bool) (ps : List Piece) (later : List Nat) (bs : List Byte) : Tried Room :=
  let slots := pieceSlots ps
  if token && fill && slots.any (tagFull x) then .wait .pantryTag
  else .done (let y := storePieces x ps bs; if fill then tagSlots y (slots.filter fun k => !later.contains k) true else y)

/-- A value ranks above an entry: by value, descending, then by index, ascending (R419). -/
def ranksAbove (v : Num) (i : W32) (e : W32 × W32) : Bool :=
  let ev := fpNum .f32 e.1.toNat
  numLess ev v || (!numLess v ev && decide (i.toNat < e.2.toNat))

/-- An entry in its place of the list. -/
def rankIn (bits i : W32) : List (W32 × W32) → List (W32 × W32)
  | [] => [(bits, i)]
  | e :: l => if ranksAbove (fpNum .f32 bits.toNat) i e then (bits, i) :: e :: l else e :: rankIn bits i l

/-- An element is offered to the list (R419). -/
def offerTop (c : Compute) (bits i : W32) : Compute :=
  if (fpNum .f32 bits.toNat).isNan then c
  else { c with topList := (rankIn bits i c.topList).take (c.topK.getD 0) }

/-- TOPK of an element: it gets the index INDEX_BASE + count (R419). -/
def topkOne (c : Compute) (bits : W32) : Compute :=
  { offerTop c bits (c.indexBase.setWidth 32 + c.topCount) with topCount := c.topCount + 1 }

/-- binary32 bits of the elements of SA in beat `j` (R419, R430). -/
def aBits (c : Compute) (w : Slot) (rows j : Nat) (qa : W32) (bs : List Byte) : List W32 :=
  if w.sa = 6 then (List.range (beatElems w rows j)).map fun i => (c.acc.toList[32 * j + i]?).getD 0
  else if isQueue w.sa then List.replicate 32 qa
  else if w.fmt = 4 then (words 2 bs).map fun v => BitVec.ofNat 32 (v * 65536)
  else (words 4 bs).map fun v => BitVec.ofNat 32 v

/-- A reduction of one beat (R418). -/
def reduceBeat (op : Nat) (rtz : Bool) (sreg : Num) (as bs : List Num) : Rounded :=
  match op with
  | 0x58 => roundFp .f32 rtz true (as.foldl numMax sreg)
  | 0x59 => roundFp .f32 rtz true (numAdd sreg (numSum as))
  | 0x5A => roundFp .f32 rtz true (numAdd sreg (numSum (as.map fun a => numMul a a)))
  | _ => roundFp .f32 rtz true (numAdd sreg (numSum (List.zipWith numMul as bs)))

/-- One output of DWCONV: 32 channels (R420). -/
def dwOutput (cfg : W32) (ab wb : List Byte) : List Num :=
  let a := (elems .bf16 ab).toArray
  let w := (elems .bf16 wb).toArray
  let g := cfgGroup cfg
  (List.range 32).map fun ch =>
    numSum ((List.range (cfgKH cfg * cfgKW cfg * g)).map fun n =>
      numMul (a.getD (32 * (n / g) + g * (ch / g) + n % g) .nan) (w.getD (32 * n + ch) .nan))

/-- One beat of a Scullery operation (R415-R420, R423). -/
def sculleryBeat (x : Room) (o : XOp) (k : SKind) (w : Slot) (qa qb : W32) (extra : List Byte) (j : Nat) (b : XBeat)
    (later : List Nat) : Tried Room :=
  let rows := cfgRows o.cfg
  let rtz := cfgRtz o.cfg
  match readPieces x o.token w.ca b.a with
  | .wait why => .wait why
  | .fault c => .fault c
  | .done (ab, x1) => match readPieces x1 o.token w.cb b.b with
    | .wait why => .wait why
    | .fault c => .fault c
    | .done (bb, x2) =>
      let c := x2.compute
      let as := aElems c w rows j qa ab
      let bs := bElems c w k (beatElems w rows j) qb bb
      match k with
      | .elem | .cvt =>
        let rs := elemResults w.op rtz (sregNum c) as bs
        let out := resultBytes (dstElem w) o.cfg rs.1
        storeBeat (onCompute x2 fun c => addFlags c (rs.2 ++ out.2)) o.token w.cd b.d later out.1
      | .dw =>
        let out := resultBytes .bf16 o.cfg (dwOutput o.cfg ab extra)
        storeBeat (onCompute x2 fun c => addFlags c out.2) o.token w.cd b.d later out.1
      | .red =>
        let v := reduceBeat w.op rtz (sregNum c) as bs
        .done (onCompute x2 fun c => addFlags { c with sreg := BitVec.ofNat 32 v.bits } [v])
      | .sld =>
        let v := roundFp .f32 rtz true (as.head?.getD .nan)
        .done (onCompute x2 fun c => addFlags { c with sreg := BitVec.ofNat 32 v.bits } [v])
      | .topk => .done (onCompute x2 fun c => (aBits c w rows j qa ab).foldl topkOne c)
      | .tkmrg =>
        .done (onCompute x2 fun c => (List.range 8).foldl (fun c i =>
          offerTop c (BitVec.ofNat 32 (fieldAt ab (8 * i) 4)) (BitVec.ofNat 32 (fieldAt ab (8 * i + 4) 4))) c)
      | .tkout =>
        let es := (c.topList ++ List.replicate (c.topK.getD 0) ((0xFF800000 : W32), (0xFFFFFFFF : W32))).take (c.topK.getD 0)
        storeBeat x2 o.token w.cd b.d later ((es.map fun e => leBytes 4 e.1.toNat ++ leBytes 4 e.2.toNat).flatten)
      | .rsq =>
        let v := numAdd (numMul (sregNum c) (fpNum .f32 qa.toNat)) (fpNum .f32 qb.toNat)
        let q := if w.op = 0x62 then nearValue 4 rtz v (rsqNum v) else nearValue 5 rtz v (rcpNum v)
        .done (onCompute x2 fun c => addFlags { c with sreg := BitVec.ofNat 32 q.bits } [q])
      | .tkclr =>
        .done (onCompute x2 fun c =>
          { c with topK := some (qa.toNat % 128), indexBase := (qa >>> 8).setWidth 24, topCount := 0, topList := [] })
      | _ => .done x2

/-- All beats in order; `none` of a later beat's slots gets its tag early. -/
def sculleryBeats (o : XOp) (k : SKind) (w : Slot) (qa qb : W32) (extra : List Byte) : Nat → List XBeat → Room → Tried Room
  | _, [], x => .done x
  | j, b :: rest, x =>
    match sculleryBeat x o k w qa qb extra j b (pieceSlots ((rest.map (·.d)).flatten)) with
    | .done y => sculleryBeats o k w qa qb extra (j + 1) rest y
    | .wait why => .wait why
    | .fault c => .fault c

/-- Running sums of a list of binary32 terms, each rounded (R419). -/
def runningSums (rtz : Bool) : Num → List Num → List Rounded
  | _, [] => []
  | t, p :: ps => let v := roundFp .f32 rtz true (numAdd t p); v :: runningSums rtz (fpNum .f32 v.bits) ps

/-- The entry that SAMPLE picks: the first whose running sum exceeds (u / 2^32) × T (R419). Where none does, the spec
states no pick: a free value. Its roundings come with it, for the flags (R403, R405). -/
def samplePick (c : Compute) (cfg : W32) (u : W32) : (W32 × W32) × List Rounded :=
  let rtz := cfgRtz cfg
  let v0 := fpNum .f32 (c.topList.head?.getD (0, 0)).1.toNat
  let ps := c.topList.map fun e =>
    let d := numMul (sregNum c) (numAdd (fpNum .f32 e.1.toNat) (numNeg v0))
    nearValue 0 rtz d (some (expNum d))
  let rs := runningSums rtz (.fin false 0 0) (ps.map fun p => fpNum .f32 p.bits)
  let sums := rs.map fun p => fpNum .f32 p.bits
  let limit := numMul (.fin false u.toNat (-32)) (sums.getLast?.getD (.fin false 0 0))
  let free := (Config.openFn 6 (u.toNat + c.sreg.toNat * 2 ^ 32)).toNat % max 1 c.topList.length
  let i := ((sums.zipIdx.find? fun p => numLess limit p.1).map (·.2)).getD free
  ((c.topList[i]?).getD (0, 0), ps ++ rs)

/-- The queue of SA or SB, and of DST. -/
def srcQueue (sel : Nat) : Fin 6 := if sel = 4 then 2 else 3
def dstQueue (sel : Nat) : Fin 6 := if sel = 4 then 4 else 5

/-- An operand that is a queue is popped, once per operation (R415). -/
def popOperand (x : Room) (o : XOp) (sel : Nat) : Tried (W32 × Room) :=
  if !isQueue sel then .done (0, x)
  else match dqPop x (srcQueue sel) (if o.token then some o.tag else none) (!o.token) with
    | .done (v, y) => .done (v.setWidth 32, y)
    | .wait w => .wait w
    | .fault c => .fault c

/-- A value is pushed to DQ2 or NQ by the X-stream (R311, R369). -/
def pushResult (x : Room) (o : XOp) (sel : Nat) (v : W64) : Tried Room :=
  let v : W64 := if dstQueue sel = 5 then v ||| 0x8000000000000000 else v
  dqPush x (dstQueue sel) v o.tag (!o.token)

/-- What a Scullery operation faults with at its start (R408, R419). -/
def sculleryFault (c : Compute) (k : SKind) (w : Slot) (qa : W32) : Cond :=
  let wrong : Bool := match c.accType with
    | .empty => w.fmt != 5 && w.fmt != 6
    | .int => w.fmt != 6
    | .float => w.fmt != 5
  if w.sa = 6 ∧ wrong = true then 0x0A09
  else match k with
    | .tkclr => if qa.toNat % 128 = 0 ∨ 64 < qa.toNat % 128 then 0x0A0A else 0
    | .topk | .tkmrg | .tkout => if c.topK.isNone then 0x0A0A else 0
    | .sample => if c.topK.isNone || c.topList.isEmpty then 0x0A0A else 0
    | _ => 0

/-- A Scullery operation starts when its operands can be had (R305, R422). -/
def runScullery (x : Room) (o : XOp) : Tried Room :=
  let w := slotOf o.word.toNat
  let k := (sKind w.op).getD .elem
  match popOperand x o w.sa with
  | .wait why => .wait why
  | .fault c => .fault c
  | .done (qa, x1) => match popOperand x1 o w.sb with
    | .wait why => .wait why
    | .fault c => .fault c
    | .done (qb, x2) =>
      let f := sculleryFault x2.compute k w qa
      if f ≠ 0 then .fault f
      else match readPieces x2 o.token w.cb o.scale with
        | .wait why => .wait why
        | .fault c => .fault c
        | .done (extra, x3) =>
          match k with
          | .sst => pushResult x3 o w.dst (x3.compute.sreg.setWidth 64)
          | .sample =>
            let p := samplePick x3.compute o.cfg qa
            pushResult (onCompute x3 fun c => addFlags c p.2) o w.dst (BitVec.ofNat 64 (p.1.2.toNat + p.1.1.toNat * 2 ^ 32))
          | _ => sculleryBeats o k w qa qb extra 0 o.beats x3

/-! ### The two units (R367, R408, R414, R421, R422) -/

/-- An operation writes or reads ACC. -/
def readsAcc (o : XOp) : Bool := (slotOf o.word.toNat).sa == 6

/-- The operation of a unit that waits to be performed: one at a time, so none while an earlier one is executing (R417,
R422). -/
def firstWaiting : List XOp → Option XOp
  | [] => none
  | o :: _ => if o.ran then none else some o

/-- An operation is marked as performed. -/
def markRan (l : List XOp) : List XOp :=
  match l with
  | [] => []
  | o :: rest => if o.ran then o :: markRan rest else { o with ran := true } :: rest

/-- The next operation of a unit is performed when it can be; a fault halts the Room with its long word (R389). -/
def startUnit (s : State) (r : RoomId) (hearth : Bool) : State :=
  let x := s.room r
  match firstWaiting (if hearth then x.compute.hearth else x.compute.scullery) with
  | none => s
  | some o =>
    match (if hearth then runHearth x o else runScullery x o) with
    | .done y => s.onRoom r fun _ => onCompute y fun c =>
        if hearth then { c with hearth := markRan c.hearth } else { c with scullery := markRan c.scullery }
    | .wait _ => s
    | .fault c => haltRoom s r c ⟨3, BitVec.ofNat 32 o.pc, o.count⟩

/-- HEARTH_OP_DONE: the executing operation finishes and the next one starts (R414). -/
def execHearthOpDone (r : RoomId) (s : State) : Res :=
  if !roomGoes s r then .next s
  else
    let s1 := startUnit s r true
    match (s1.room r).compute.hearth with
    | o :: rest =>
      if o.ran then .next (startUnit (s1.onRoom r fun x => onCompute x fun c => { c with hearth := rest }) r true)
      else .next s1
    | [] => .next s1

/-- SCULLERY_OP_DONE: the executing operation finishes, a drain read of ACC empties it, and the next one starts (R408,
R421). -/
def execSculleryOpDone (r : RoomId) (s : State) : Res :=
  if !roomGoes s r then .next s
  else
    let s1 := startUnit s r false
    match (s1.room r).compute.scullery with
    | o :: rest =>
      if o.ran then
        .next (startUnit (s1.onRoom r fun x => onCompute x fun c =>
          let d := { c with scullery := rest }
          if readsAcc o && (slotOf o.word.toNat).ca == 2 then emptyAcc d else d) r false)
      else .next s1
    | [] => .next s1

/-- BLOCK_REASON while a unit is not free: that of the operation that waits in it. -/
def unitReason (x : Room) : BlockReason :=
  let why (t : Tried Room) : BlockReason := match t with | .wait w => w | _ => .none
  match firstWaiting x.compute.hearth, firstWaiting x.compute.scullery with
  | some o, _ => why (runHearth x o)
  | none, some o => why (runScullery x o)
  | none, none => .none

/-! ### Issue of a long word (R367, R371, R389, R392, R422) -/

/-- Every unit that the word names can take it: a free issue buffer, ACC free for it (R367), idle units for SETH (R413), and
for TKOUT the list settled. -/
def unitsFree (c : Compute) (x : XCmd) : Bool :=
  let h := x.h.map slotOf
  let s := x.s.map slotOf
  let seth := h.any fun w => w.op == 0x1F
  (h.isNone || decide (c.hearth.length < 2)) && (s.isNone || decide (c.scullery.length < 2))
    && (!(s.any fun w => w.sa == 6) || c.hearth.isEmpty)
    && (!(h.any fun w => w.op != 0x1F) || !(c.scullery.any readsAcc))
    && (!seth || (c.hearth.isEmpty && c.scullery.isEmpty))
    && (!(s.any fun w => w.op == 0x6A) || c.scullery.all (·.ran))

/-- Operator configuration that is refused at issue (R411, R420, R431). -/
def configFault (t : Strm) (cfg : W32) (x : XCmd) : Bool :=
  (match x.h.map slotOf with
   | some w => w.op == 0x18 && (match idx 4 w.sa with
      | some i => (t.gens.get i).half == (actFmt w.fmt (w.aux / 16) == some .bf16)
      | none => false)
   | none => false) ||
  (match x.s.map slotOf with
   | some w => w.op == 0x70 && (decide (7 < cfgKH cfg) || decide (7 < cfgKW cfg))
   | none => false)

/-- The plan of the Hearth slot; SETH reads no Pantry operand. -/
def planH (t : Strm) (cfg : W32) (x : XCmd) : Plan :=
  match x.h.map slotOf with
  | some w => if w.op = 0x1F then { beats := [], scale := [] } else hPlan t cfg w
  | none => { beats := [], scale := [] }

def planS (t : Strm) (c : Compute) (x : XCmd) : Plan :=
  match x.s.map slotOf with
  | some w => sPlan t c.cfg c.topK ((sKind w.op).getD .elem) w
  | none => { beats := [], scale := [] }

/-- The runs of the Pantry-move slot: source and destination (R394). -/
def planM (t : Strm) (x : XCmd) : List Want × List Want :=
  match x.m with
  | some w =>
    let n := 64 * (bitsOf w 20 19 + 1)
    (if bitsOf w 31 28 = 0 then wantAt t (bitsOf w 27 26) 0 n else [], wantAt t (bitsOf w 25 24) 0 n)
  | none => ([], [])

/-- An operation as it enters its unit. -/
def newOp (t : Strm) (c : Compute) (x : XCmd) (word : Nat) (p : Plan) (rs : List (List Piece)) : XOp :=
  let nb := ((p.beats.map PlanBeat.wants).flatten).length
  { word := BitVec.ofNat 32 word, tag := x.tag, token := t.token, loop := (t.loops.head?.map (·.i)).getD 0, cfg := c.cfg,
    beats := fillBeats p.beats rs, scale := (rs.drop nb).flatten, ran := false, pc := t.pc, count := t.count }

/-- A Pantry move on its resolved runs (R394). -/
def moveSlots (x : Room) (t : Strm) (w : Nat) (src dst : List Piece) : Tried Room :=
  let pad := match idx 4 (bitsOf w 25 24) with
    | some i => (t.gens.get i).pad
    | none => 0
  let n := 64 * (bitsOf w 20 19 + 1)
  if bitsOf w 31 28 = 1 then writePieces x t.token (bitOf w 21) dst (pieceBytes x { addr := 0, n := n, pad := some pad })
  else match readPieces x t.token (bitsOf w 23 22) src with
    | .done (bs, y) => writePieces y t.token (bitOf w 21) dst bs
    | .wait why => .wait why
    | .fault c => .fault c

/-- SETH: the popped value becomes ROOM_HX_CFG, or is refused (R413). -/
def setCfg (s : State) (r : RoomId) (x : XCmd) : Got Unit :=
  match x.h.map slotOf with
  | some w =>
    if w.op ≠ 0x1F then .ok () s
    else (popQ s r .x (srcQueue w.sa) x.tag).andThen fun v s1 =>
      if cfgOk (v.setWidth 32) then .ok () (s1.onRoom r fun y => onCompute y fun c => { c with cfg := v.setWidth 32 })
      else .fault s1 0x0A0A
  | none => .ok () s

/-- The slots of a long word issue together, or none of them (R367, R422). -/
def issueSlots (s : State) (r : RoomId) (x : XCmd) : Got Unit :=
  let t := (s.room r).xstream
  let c := (s.room r).compute
  if !unitsFree c x then .wait s (unitReason (s.room r))
  else if configFault t c.cfg x then .fault s 0x0A0A
  else
    let ph := planH t c.cfg x
    let ps := planS t c x
    let pm := planM t x
    let nh := ph.wants.length
    let ns := ps.wants.length
    (resolveWants s r (ph.wants ++ ps.wants ++ pm.1 ++ pm.2)).andThen fun rs s1 =>
      let addH (c : Compute) : Compute := match x.h with
        | some w => if (slotOf w).op = 0x1F then c else { c with hearth := c.hearth ++ [newOp t c x w ph (rs.take nh)] }
        | none => c
      let addS (c : Compute) : Compute := match x.s with
        | some w => { c with scullery := c.scullery ++ [newOp t c x w ps ((rs.drop nh).take ns)] }
        | none => c
      let s2 := s1.onRoom r fun y => onCompute y fun c => addS (addH c)
      let s3 := startUnit (startUnit s2 r false) r true
      if (s3.room r).st ≠ .running then .ok () s3
      else
        let src := ((rs.drop (nh + ns)).take pm.1.length).flatten
        let dst := (rs.drop (nh + ns + pm.1.length)).flatten
        let moved : Tried Room := match x.m with
          | some w => moveSlots (s3.room r) t w src dst
          | none => .done (s3.room r)
        match moved with
        | .wait why => .wait s1 why
        | .fault e => .fault s1 e
        | .done y =>
          match setCfg (s3.onRoom r fun _ => y) r x with
          | .ok () s4 => .ok () s4
          | .wait _ why => .wait s1 why
          | .fault s4 e => .fault s4 e

/-- The control slot of a long word (R395). -/
def control (s : State) (r : RoomId) (x : XCmd) (next : Nat) : Got (Option Nat) :=
  match x.c with
  | none => .ok (some next) s
  | some w =>
    let mem := (s.room r).xstream.mem
    let g : Fin 4 := ⟨w / 2 ^ 26 % 4, Nat.mod_lt _ (by decide)⟩
    let q : Fin 32 := ⟨w / 2 ^ 21 % 32, Nat.mod_lt _ (by decide)⟩
    match w / 2 ^ 28 % 16 with
    | 1 =>
      let len := bitsOf w 26 16
      openLoop s r .x (bitOf w 27) (bitsOf w 15 0) len next (xWalk mem len next) 0x8000 x.tag
    | 2 => skipTo s r .x (xWalk mem (bitsOf w 10 0) next)
    | 3 => .ok (some next) (setPreds s r .x (BitVec.ofNat 8 (bitsOf w 15 8)) (BitVec.ofNat 8 (bitsOf w 7 0)))
    | 4 => (popQ s r .x 1 x.tag).andThen fun v s1 => .ok (some next) (setPreds s1 r .x 0xFF (v.setWidth 8))
    | 5 => .ok (some next) (loopPred s r .x (bitsOf w 27 25) (bitsOf w 24 23) (bitOf w 22))
    | 6 => thenNext (loadGen s r .x g (64 * bitsOf w 13 0)) next
    | 7 => thenNext (recvGen s r .x g q) next
    | 8 => thenNext (sendGen s r .x g q (bitOf w 20) (bitsOf w 19 16) x.tag) next
    | 9 => waitPhase s r .x ((s.room r).xstream.mark + BitVec.ofNat 48 (w % 2 ^ 28)) next
    | 10 => .ok none (onStrm s r .x fun t => { t with wait := .rdv x.tag })
    | _ =>
      let c := (s.room r).compute
      if !c.hearth.isEmpty || !c.scullery.isEmpty then .wait s (unitReason (s.room r))
      else .ok none ((endStrm (onStrm s r .x fun t => { t with count := t.count + 1 }) r .x).onRoom r fun y => { y with xIssued := false })

/-- A long word whose predicate is 1 (R367, R395): its slots issue, then its control slot acts. -/
def issueWord (s : State) (r : RoomId) (x : XCmd) (next : Nat) : Got (Option Nat) :=
  if (s.room r).xIssued then control s r x next
  else (issueSlots s r x).andThen fun _ s1 =>
    if (s1.room r).st ≠ .running then .ok none s1
    else control (s1.onRoom r fun y => { y with xIssued := true }) r x next

/-- The outcome of a long word; the next one has issued nothing. -/
def wordResult (r : RoomId) (g : Got (Option Nat)) : Res :=
  strmResult r .x (g.andThen fun pc s => .ok pc (if pc.isSome then s.onRoom r fun y => { y with xIssued := false } else s))

/-- A long word whose predicate is 0: it counts; a LOOP skips its body (R371). -/
def skipWord (s : State) (r : RoomId) (x : XCmd) (next : Nat) : Got (Option Nat) :=
  match x.c with
  | some w =>
    if w / 2 ^ 28 % 16 = 1 then skipTo s r .x (xWalk (s.room r).xstream.mem (bitsOf w 26 16) next) else .ok (some next) s
  | none => .ok (some next) s

/-- One X-stream command: the whole long word at the stream's pc issues if it names the command (R365, R367, R388, R389). -/
def xRow (r : RoomId) (is : XCmd → Bool) (s : State) : Res :=
  let y := s.room r
  let t := y.xstream
  if !strmGoes s r .x then .next s
  else if t.pc % 2 ≠ 0 ∨ 0x8000 < t.pc + 2 ∨ 0x8000 < t.pc + xWordSize t.mem t.pc then
    .next (haltRoom s r 0x0A03 (FaultAt.xstream y))
  else
    let x := xDecode t.mem t.pc
    let next := t.pc + x.size
    if !y.xIssued && strmHalts s r x.tag t then .next (debugHaltStrm s r .x)
    else if !y.xIssued && !xLegal t x then .next (haltRoom s r 0x0A01 (FaultAt.xstream y))
    else if !is x then .next s
    else if y.xIssued || predOn t x.psel x.pneg then wordResult r (issueWord s r x next)
    else wordResult r (skipWord s r x next)

/-- The word names a Hearth operation, a Scullery operation, a Pantry move, a control operation. -/
def hasH (op : Nat) (x : XCmd) : Bool := x.h.any fun w => (slotOf w).op == op
def hasS (op : Nat) (x : XCmd) : Bool := x.s.any fun w => (slotOf w).op == op
def hasM (op : Nat) (x : XCmd) : Bool := x.m.any fun w => bitsOf w 31 28 == op
def hasC (op : Nat) (x : XCmd) : Bool := x.c.any fun w => w / 2 ^ 28 % 16 == op

/-- EMPTY_LONG_WORD: a MASK that names no slot (R365). -/
def execEmptyLongWord (r : RoomId) (s : State) : Res :=
  xRow r (fun x => x.h.isNone && x.s.isNone && x.m.isNone && x.c.isNone) s

/-! Control operations (R395). -/

/-- LOOP. -/
def execXsLoop (r : RoomId) (s : State) : Res := xRow r (hasC 1) s
/-- SKIP. -/
def execXsSkip (r : RoomId) (s : State) : Res := xRow r (hasC 2) s
/-- PSET. -/
def execXsPset (r : RoomId) (s : State) : Res := xRow r (hasC 3) s
/-- PPOP: p1-p7 from PQ (R372). -/
def execXsPpop (r : RoomId) (s : State) : Res := xRow r (hasC 4) s
/-- PLOOP. -/
def execXsPloop (r : RoomId) (s : State) : Res := xRow r (hasC 5) s
/-- GLOAD. -/
def execXsGload (r : RoomId) (s : State) : Res := xRow r (hasC 6) s
/-- HRECV. -/
def execXsHrecv (r : RoomId) (s : State) : Res := xRow r (hasC 7) s
/-- HSEND. -/
def execXsHsend (r : RoomId) (s : State) : Res := xRow r (hasC 8) s
/-- WAITPH. -/
def execXsWaitph (r : RoomId) (s : State) : Res := xRow r (hasC 9) s
/-- SYNC. -/
def execXsSync (r : RoomId) (s : State) : Res := xRow r (hasC 10) s
/-- END: the stream ends once its operations have finished (R365). -/
def execXsEnd (r : RoomId) (s : State) : Res := xRow r (hasC 11) s

/-! Pantry moves (R394). -/

/-- COPY. -/
def execCopy (r : RoomId) (s : State) : Res := xRow r (hasM 0) s
/-- FILLC. -/
def execFillc (r : RoomId) (s : State) : Res := xRow r (hasM 1) s

/-! Hearth operations (R427). -/

/-- MMA. -/
def execMma (r : RoomId) (s : State) : Res := xRow r (hasH 0x10) s
/-- MMAT. -/
def execMmat (r : RoomId) (s : State) : Res := xRow r (hasH 0x11) s
/-- CONV. -/
def execConv (r : RoomId) (s : State) : Res := xRow r (hasH 0x18) s
/-- SETH. -/
def execSeth (r : RoomId) (s : State) : Res := xRow r (hasH 0x1F) s

/-! Scullery operations (R428). -/

/-- ADD. -/
def execSculleryAdd (r : RoomId) (s : State) : Res := xRow r (hasS 0x40) s
/-- SUB. -/
def execScullerySub (r : RoomId) (s : State) : Res := xRow r (hasS 0x41) s
/-- MUL. -/
def execSculleryMul (r : RoomId) (s : State) : Res := xRow r (hasS 0x42) s
/-- MAX. -/
def execMax (r : RoomId) (s : State) : Res := xRow r (hasS 0x43) s
/-- MIN. -/
def execMin (r : RoomId) (s : State) : Res := xRow r (hasS 0x44) s
/-- MULG. -/
def execMulg (r : RoomId) (s : State) : Res := xRow r (hasS 0x45) s
/-- ROPE. -/
def execRope (r : RoomId) (s : State) : Res := xRow r (hasS 0x46) s
/-- EXP. -/
def execExp (r : RoomId) (s : State) : Res := xRow r (hasS 0x48) s
/-- SILU. -/
def execSilu (r : RoomId) (s : State) : Res := xRow r (hasS 0x49) s
/-- GELU. -/
def execGelu (r : RoomId) (s : State) : Res := xRow r (hasS 0x4A) s
/-- TANH. -/
def execTanh (r : RoomId) (s : State) : Res := xRow r (hasS 0x4B) s
/-- SWIGLU. -/
def execSwiglu (r : RoomId) (s : State) : Res := xRow r (hasS 0x4C) s
/-- CVT.I8. -/
def execCvtI8 (r : RoomId) (s : State) : Res := xRow r (hasS 0x50) s
/-- CVT.E4M3. -/
def execCvtE4m3 (r : RoomId) (s : State) : Res := xRow r (hasS 0x51) s
/-- CVT.E5M2. -/
def execCvtE5m2 (r : RoomId) (s : State) : Res := xRow r (hasS 0x52) s
/-- CVT.BF16. -/
def execCvtBf16 (r : RoomId) (s : State) : Res := xRow r (hasS 0x53) s
/-- CVT.F32. -/
def execCvtF32 (r : RoomId) (s : State) : Res := xRow r (hasS 0x54) s
/-- CVT.I32. -/
def execCvtI32 (r : RoomId) (s : State) : Res := xRow r (hasS 0x55) s
/-- RMAX. -/
def execRmax (r : RoomId) (s : State) : Res := xRow r (hasS 0x58) s
/-- RSUM. -/
def execRsum (r : RoomId) (s : State) : Res := xRow r (hasS 0x59) s
/-- RSSQ. -/
def execRssq (r : RoomId) (s : State) : Res := xRow r (hasS 0x5A) s
/-- RDOT. -/
def execRdot (r : RoomId) (s : State) : Res := xRow r (hasS 0x5B) s
/-- SLD. -/
def execSld (r : RoomId) (s : State) : Res := xRow r (hasS 0x60) s
/-- SST. -/
def execSst (r : RoomId) (s : State) : Res := xRow r (hasS 0x61) s
/-- RSQF. -/
def execRsqf (r : RoomId) (s : State) : Res := xRow r (hasS 0x62) s
/-- RCPF. -/
def execRcpf (r : RoomId) (s : State) : Res := xRow r (hasS 0x63) s
/-- TKCLR. -/
def execTkclr (r : RoomId) (s : State) : Res := xRow r (hasS 0x68) s
/-- TOPK. -/
def execTopk (r : RoomId) (s : State) : Res := xRow r (hasS 0x69) s
/-- TKOUT. -/
def execTkout (r : RoomId) (s : State) : Res := xRow r (hasS 0x6A) s
/-- TKMRG. -/
def execTkmrg (r : RoomId) (s : State) : Res := xRow r (hasS 0x6B) s
/-- SAMPLE. -/
def execSample (r : RoomId) (s : State) : Res := xRow r (hasS 0x6C) s
/-- DWCONV. -/
def execDwconv (r : RoomId) (s : State) : Res := xRow r (hasS 0x70) s

end Sys2Proof.Machine
end

