-- ==== Sys2Proof/Machine/Host.lean ====
section
/-!
DEFINITION. Machine/Host.lean: the PCIe function (R147-R153), the rings and their dispatchers (R158-R164), the jobs
(R178-R180, R221-R224), MSI-X hold-off (R169) and the Hatches (R170-R175).
-/
namespace Sys2Proof.Machine
open Sys2Proof

/-! ### The PCIe function -/

/-- Pending vectors that may be sent now are sent, lowest first (R169). -/
def sendPending (s : State) : State :=
  (List.finRange 32).foldl (fun s v => if (s.host.msix.get v).pending then signalVector s v else s) s

/-- The value of a configuration item (R147, R148). -/
def cfgValue (s : State) : CfgReg → Nat
  | .vendorId => 0x1F7C
  | .deviceId => if s.sys.part064 then 0x4F06 else 0x4F28
  | .revisionId => 0xB0
  | .classCode => 0x120000
  | .subVendor => if s.sys.boardValid then s.sys.subVendor.toNat else 0x1F7C
  | .subDevice => if s.sys.boardValid then s.sys.subDevice.toNat else if s.sys.part064 then 0x4F06 else 0x4F28
  | .interruptPin => 0
  | .serial => s.thr.fuses.serial.toNat
  | .command => 2 * b2n s.host.cfg.memEnable + 4 * b2n s.host.cfg.busMaster
  | .power => 3 * b2n s.host.cfg.d3hot
  | .deviceControl =>
    16 * b2n s.host.cfg.enableRelaxed + 32 * (Nat.log2 s.host.cfg.maxPayload - 7) + 4096 * (Nat.log2 s.host.cfg.maxReadReq - 7)
  | .msixControl => 31 + 32768 * b2n s.host.cfg.msixEnable + 16384 * b2n s.host.cfg.msixFuncMask
  | .bar0 => s.host.cfg.bar0.toNat
  | .bar2 => s.host.cfg.bar2.toNat

/-- The effect of a configuration write. The return to D0 sends the held mirror writes in order, then the pending
messages (R153). -/
def cfgWrite (s : State) : CfgWrite → State
  | .command m b => sendPending (s.onHost fun h => { h with cfg := { h.cfg with memEnable := m, busMaster := b } })
  | .power d3 =>
    if d3 then s.onHost fun h => { h with cfg := { h.cfg with d3hot := true } }
    else
      let held := s.host.heldSignals
      let s1 := s.onHost fun h => { h with cfg := { h.cfg with d3hot := false }, heldSignals := [] }
      sendPending (held.foldl (fun s x => s.send (.hostWrite x.1 x.2)) s1)
  | .deviceControl r p q =>
    s.onHost fun h => { h with cfg := { h.cfg with enableRelaxed := r, maxPayload := min p 512, maxReadReq := min q 4096 } }
  | .msixControl e k =>
    sendPending (s.onHost fun h => { h with cfg := { h.cfg with msixEnable := e, msixFuncMask := k } })
  | .bar0 v => s.onHost fun h => { h with cfg := { h.cfg with bar0 := v } }
  | .bar2 v => s.onHost fun h => { h with cfg := { h.cfg with bar2 := v } }

/-- The Foyer still brings the host interface up: configuration requests get retry status; in the failed states of
start-up retry has ended (R151). -/
def cfgRetry (s : State) : Bool := !s.host.ready && !s.sys.larderFailed && decide (s.sys.bootStage.toNat < 0xF0)

/-- CONFIG_REQUEST: retry status until the host interface is up, then completed; a function other than 0, I/O and
AtomicOps are Unsupported Requests (R148, R151). -/
def execConfigRequest (q : CfgReq) (s : State) : Res :=
  if s.sys.inReset then .next s
  else match q with
    | .io | .atomicOp => .next (s.send .unsupported)
    | .read fn r =>
      if cfgRetry s then .next (s.send .cfgRetry)
      else if fn ≠ 0 then .next (s.send .unsupported) else .next (s.send (.cfgData (cfgValue s r)))
    | .write fn w =>
      if cfgRetry s then .next (s.send .cfgRetry)
      else if fn ≠ 0 then .next (s.send .unsupported) else .next (cfgWrite s w)

/-- A mailbox transaction that a Function Level Reset closes: its slot shows 0x030D; a request not begun takes no effect
(R152); a write in NOR goes on, and its answer finds no transaction. -/
def flrMailbox (s : State) (w : WingId) (k : Fin 4) : State :=
  let who := Requester.mailbox w k
  match s.mgmt.txns.find? fun t => t.who == who with
  | some t =>
    let a : Answer := { req := parseRequest who 0 0 t.irq t.bytes, abort := 0x030D, value := [], isBlock := false, closes := true }
    (s.onMgmt fun m =>
      { m with txns := m.txns.filter fun t => t.who != who, ready := m.ready.filter fun r => r.1.who != who,
               answers := m.answers.filter fun a => a.req.who != who,
               norPending := m.norPending.map fun p => if p.req.who == who then { p with req := { p.req with seq := 1 } } else p,
               blockClaims := m.blockClaims.filter fun b => b.2.2.1 != who }).onMbx w k fun x =>
      { showSegment x 0 a.stream with irq := false }
  | none => s

/-- FUNCTION_LEVEL_RESET (R152). -/
def execFunctionLevelReset (s : State) : Res :=
  let s1 := s.onHost fun h =>
    { h with cfg := PcieCfg.init, msix := Vector.replicate 32 MsixVec.init, heldSignals := [],
             rings := h.rings.map fun r => { r with en := false, active := false } }
  let s2 := (List.finRange 16).foldl (fun s w =>
    let js := (s.host.jobs.filter fun j => j.ring == w).map (·.serial)
    if js.isEmpty then s
    else logCond (s.onRing w fun r => { r with lostSignals := js }) 0x040C (wingByte w) 0xFF 0) s1
  let s3 := (s2.host.jobs.filter fun j => j.kind == .hatchCopy).foldl (fun s j => failJob s j 0x0408 0xFF 0) s2
  let s4 := s3.onHost fun h => { h with hatches := h.hatches.map fun x => { Hatch.init with imageJob := x.imageJob } }
  .next ((List.finRange 16).foldl (fun s w => (List.finRange 4).foldl (fun s k => flrMailbox s w k) s) s4)

/-- MSIX_HOLDOFF_EXPIRY: the events of the interval go out as one message (R169). -/
def execMsixHoldoffExpiry (v : Fin 32) (s : State) : Res :=
  let s1 := s.onHost fun h => { h with msix := vmod h.msix v fun e => { e with holding := false } }
  .next (if (s.host.msix.get v).pending then signalVector s1 v else s1)

/-! ### Rings (R158-R162, R164) -/

/-- Entries of a ring of the given size. -/
def ringEntries (size : BitVec 4) : Nat := 2 ^ size.toNat

/-- The conditions under which a write of 1 to EN is accepted (R158). -/
def ringOk (s : State) (w : WingId) : Bool :=
  let r := s.ring w
  let sq := (r.sqBase.toNat, 64 * ringEntries r.sqSize)
  let cq := (r.cqBase.toNat, 32 * ringEntries r.cqSize)
  decide (4 ≤ r.sqSize.toNat ∧ r.sqSize.toNat ≤ 12 ∧ 4 ≤ r.cqSize.toNat ∧ r.cqSize.toNat ≤ 12) &&
  decide (sq.1 % 4096 = 0 ∧ cq.1 % 4096 = 0) && wingRange s w sq.1 sq.2 && wingRange s w cq.1 cq.2 &&
  !overlap sq cq && decide (r.cqMirror.toNat % 4096 = 0) && r.inflight == 0 &&
  (s.wing w).st != .free && (s.wing w).st != .clearing && (decide (w = 0) || keyFilled s (larderSlot w))

/-- RING_ENABLE: a write of 1 to EN is checked; accepted, all four indices are 0 and the completion slots are to be
zeroed (R158). With no trained Larder it is refused (R573). -/
def ringEnableOp (w : WingId) (s : State) : Res :=
  if (s.ring w).en then .next s
  else if !ringOk s w then .next (ringCond s w 0x0405)
  else .next (s.onRing w fun r =>
    { r with en := true, active := false, sqHead := 0, sqTail := 0, cqHead := 0, cqTail := 0, phase := true,
             unreleased := 0 })

/-- RING_ENABLE as a BAR access of the host (R151, R157, R549). -/
def execRingEnable (w : WingId) (s : State) : Res :=
  if s.sys.larderFailed ∧ !s.sys.inReset then .next (ringCond s w 0x0405) else barGo s (bar0 (0x10000 + w.1 * 0x1000) 1) 2
    (ringEnableOp w s)

/-- Mirror writes of zeros over the completion slots. -/
def zeroMirror (s : State) (w : WingId) : State :=
  let r := s.ring w
  if r.cqMirror = 0 then s
  else (List.range (ringEntries r.cqSize)).foldl (fun s i =>
    mirrorRecord s w (r.cqMirror.toNat + 32 * i) (List.replicate 32 0)) s

/-- RING_ENABLE_DONE: every completion slot holds zeros and ACTIVE becomes 1 (R158). -/
def execRingEnableDone (w : WingId) (s : State) : Res :=
  let r := s.ring w
  if !r.en || r.active then .next s
  else
    let s1 := postWrite s w r.cqBase.toNat (List.replicate (32 * ringEntries r.cqSize) 0)
    .next ((zeroMirror s1 w).onRing w fun r => { r with active := true })

/-- RING_DISABLE: a write of 0 to EN (R164). -/
def ringDisableOp (w : WingId) (s : State) : Res :=
  .next (s.onRing w fun r => { r with en := false, active := false })

/-- RING_DISABLE as a BAR access of the host (R151, R157, R549). -/
def execRingDisable (w : WingId) (s : State) : Res := barGo s (bar0 (0x10000 + w.1 * 0x1000) 0) 2 (ringDisableOp w s)

/-- SQ_DOORBELL: a write to FOY_SQ_TAIL (R159). -/
def sqDoorbellOp (w : WingId) (v : BitVec 12) (s : State) : Res :=
  let r := s.ring w
  let n := ringEntries r.sqSize
  if !r.en || (s.wing w).st == .free || (s.wing w).st == .clearing then .next s
  else if n ≤ v.toNat then .next (ringCond s w 0x0401)
  else
    let pend := (r.sqTail.toNat + n - r.sqHead.toNat) % n
    let added := (v.toNat + n - r.sqTail.toNat) % n
    if n - 1 < pend + added then .next (ringCond s w 0x0402)
    else .next (s.onRing w fun r => { r with sqTail := v })

/-- SQ_DOORBELL as a BAR access of the host (R151, R157, R549). -/
def execSqDoorbell (w : WingId) (v : BitVec 12) (s : State) : Res :=
  barGo s (bar0 (0x10014 + w.1 * 0x1000) v.toNat) 2 (sqDoorbellOp w v s)

/-- CQ_HEAD_WRITE: slots are released, at most those written (R162). -/
def cqHeadWriteOp (w : WingId) (v : BitVec 12) (s : State) : Res :=
  let r := s.ring w
  let n := ringEntries r.cqSize
  let moved := (v.toNat + n - r.cqHead.toNat) % n
  if n ≤ v.toNat ∨ r.unreleased < moved then .next (ringCond s w 0x0401)
  else .next (s.onRing w fun r => { r with cqHead := v, unreleased := r.unreleased - moved })

/-- CQ_HEAD_WRITE as a BAR access of the host (R151, R157, R549). -/
def execCqHeadWrite (w : WingId) (v : BitVec 12) (s : State) : Res :=
  barGo s (bar0 (0x10028 + w.1 * 0x1000) v.toNat) 2 (cqHeadWriteOp w v s)

/-! ### The dispatcher (R160, R161) -/

/-- The dispatcher may act: the wing is POPULATE, RUN or wing 0; a freeze holds it (R160). -/
def dispatchOpen (s : State) (w : WingId) : Bool :=
  (s.wing w).st == .populate || (s.wing w).st == .run || (s.wing w).st == .house

/-- DESCRIPTOR_COPY: the descriptor at SQ_HEAD is copied and the head moves; a poisoned one completes with 0x0703, TAG and
TYPE 0 (R160, R267). -/
def execDescriptorCopy (w : WingId) (s : State) : Res :=
  let r := s.ring w
  let at_ := r.sqBase.toNat + 64 * r.sqHead.toNat
  if !r.en || !r.active || !dispatchOpen s w || r.sqHead == r.sqTail || r.held.isSome || !larderOpen s w
      || !wingFree s w at_ 64 then .next s
  else
    let rd := wingRead s w at_ 64
    let next := if r.sqHead.toNat + 1 = ringEntries r.sqSize then 0 else r.sqHead + 1
    let bytes := if rd.2.1 then [] else rd.1
    .next (rd.2.2.onRing w fun r => { r with sqHead := next, held := some ⟨bytes, false⟩ })

def dType (b : List Byte) : Nat := fieldAt b 0 1
def dIrq (b : List Byte) : Bool := (fieldAt b 1 1).testBit 0
def dFence (b : List Byte) : Bool := (fieldAt b 1 1).testBit 1
def dTimed (b : List Byte) : Bool := (fieldAt b 1 1).testBit 2
def dSealed (b : List Byte) : Bool := (fieldAt b 1 1).testBit 3
def dTag (b : List Byte) : W32 := BitVec.ofNat 32 (fieldAt b 4 4)
def dStart (b : List Byte) : W48 := BitVec.ofNat 48 (fieldAt b 8 6)
def dMask (b : List Byte) : W32 := BitVec.ofNat 32 (fieldAt b 16 4)

/-- An 8-byte wing offset at `o` with [63:36] zero and the given alignment. -/
def offOk (b : List Byte) (o align : Nat) : Bool := decide (fieldAt b o 8 < 2 ^ 36 ∧ fieldAt b o 8 % align = 0)

/-- Lengths of the four images of a PROGRAM_LOAD, in bytes. -/
def loadLens (b : List Byte) : Nat × Nat × Nat × Nat :=
  (64 * fieldAt b 32 2, 64 * fieldAt b 34 2, 64 * fieldAt b 36 2, 64 * fieldAt b 38 2)
def loadTotal (b : List Byte) : Nat :=
  (loadLens b).1 + (loadLens b).2.1 + (loadLens b).2.2.1 + (loadLens b).2.2.2

/-- The mask names no checker of a lockstep pair (R324). -/
def noChecker (s : State) (m : W32) : Bool := (onesOf m).all fun r => !isChecker s r

/-- Every field of the descriptor is in range and every reserved one zero (R160, R163, R178, R179). -/
def descRange (s : State) (b : List Byte) : Bool :=
  let common := decide (fieldAt b 1 1 < 16) && zeroAt b 2 2 && zeroAt b 14 2 && (dTimed b || zeroAt b 8 6) &&
    (dSealed b || zeroAt b 48 16) && (dSealed b == (dType b == 6 || dType b == 7))
  common && match dType b with
    | 1 => zeroAt b 16 32
    | 2 => zeroAt b 20 4 && offOk b 24 64 && decide (fieldAt b 32 2 ≤ 512 ∧ fieldAt b 34 2 ≤ 512 ∧
        fieldAt b 36 2 ≤ 256 ∧ fieldAt b 38 2 ≤ 512) && zeroAt b 40 8 && noChecker s (dMask b)
    | 3 => decide (fieldAt b 20 4 < 32768 ∧ fieldAt b 20 4 % 4 = 0) && zeroAt b 32 16 && noChecker s (dMask b)
    | 4 => decide (fieldAt b 16 1 < 2) && zeroAt b 17 3 && decide (fieldAt b 20 4 ≠ 0 ∧ fieldAt b 20 4 % 4 = 0 ∧
        fieldAt b 24 8 % 4 = 0) && offOk b 32 4 && zeroAt b 40 8
    | 5 => decide (fieldAt b 16 1 < 32) && zeroAt b 17 3 && decide (fieldAt b 20 4 % 16384 = 0) && offOk b 24 4096 &&
        decide (fieldAt b 32 8 % 16384 = 0) && zeroAt b 40 8
    | 6 | 7 => decide (fieldAt b 16 1 < 32) && zeroAt b 17 31
    | 8 => !(fieldAt b 16 1).testBit 4 && decide (fieldAt b 18 1 < 2 ∧ fieldAt b 19 1 < 32) && zeroAt b 44 4 &&
        (if (fieldAt b 16 1).testBit 7 then fieldAt b 24 2 &&& 0xE0E0 == 0 && zeroAt b 28 4 && zeroAt b 36 4
         else offOk b 24 1 && offOk b 32 1)
    | _ => false

/-- Rooms that a job of a wing may name: its mask, or for wing 0 the Rooms that it holds, quarantined ones left out
(R160, R597). -/
def jobRooms (s : State) (w : WingId) : W32 :=
  (if w = 0 then houseRooms s else (s.wing w).roomMask) &&& ~~~s.wingTop.quarantined

/-- A resource that the descriptor names lies outside the wing: Rooms, or a wing-offset range (R160). -/
def descOutside (s : State) (w : WingId) (b : List Byte) : Bool :=
  match dType b with
  | 2 => decide (dMask b &&& ~~~jobRooms s w ≠ 0) || !wingRange s w (fieldAt b 24 8) (loadTotal b)
  | 3 => decide (dMask b &&& ~~~jobRooms s w ≠ 0)
  | 4 => !wingRange s w (fieldAt b 32 8) (fieldAt b 20 4)
  | 5 => !wingRange s w (fieldAt b 24 8) (fieldAt b 20 4)
  | _ => false

/-- A Room of a parked Storey is named (R544). -/
def descParked (s : State) (b : List Byte) : Bool :=
  (dType b == 2 || dType b == 3) && (onesOf (dMask b)).any fun r => s.sys.domGate.getLsbD (storeyOf r).1

/-- The refusal of a descriptor that is not sealed, or 0, in the order of R160. -/
def descCheck (s : State) (w : WingId) (b : List Byte) : Cond :=
  let t := dType b
  if b.length < 64 then 0x0703
  else if t = 0 ∨ 8 < t then 0x0403
  else if !descRange s b then 0x0404
  else if (s.wing w).st = .populate ∧ t ≠ 2 ∧ t ≠ 4 ∧ t ≠ 5 ∧ t ≠ 6 then 0x0101
  else 0

/-- P of a key follows its LAST in both NOR copies (R69). -/
def persistCounter (s : State) (k : Fin 16) : State :=
  let v := (s.thr.ca.get k).last
  let put (x : CaKey) : CaKey := { x with persisted := v }
  writeNor (s.onThr fun t => { t with ca := vmod t.ca k put }) fun c => { c with ca := vset c.ca k (put (s.thr.ca.get k)) }

/-- The seal of a descriptor (R87, R163). -/
def descSeal (b : List Byte) : Seal :=
  { keyId := BitVec.ofNat 8 (fieldAt b 48 1), ver := BitVec.ofNat 8 (fieldAt b 49 1),
    reserved := BitVec.ofNat 16 (fieldAt b 50 2), counter := BitVec.ofNat 32 (fieldAt b 52 4),
    tag := BitVec.ofNat 64 (fieldAt b 56 8) }

/-- The Threshold's part of the checks for a sealed descriptor: its refusal, or the state with the counter consumed and,
where R69 asks, persisted. -/
def descSealCheck (s : State) (w : WingId) (b : List Byte) : State × Cond :=
  if !dSealed b then (s, 0)
  else
    let img : List Byte := [BitVec.ofNat 8 (fieldAt b 16 1)]
    match thrCheck s (.mailbox w 0) w (some (descSeal b)) (BitVec.ofNat 16 (0x4100 + 16 * w.1))
        (if dType b = 6 then 5 else 6) img with
    | .refused s1 c => (s1, c)
    | .passed s1 k persist => (if persist then persistCounter s1 k else s1, 0)

/-- The tag fields that a record of this descriptor carries. -/
def descTag (b : List Byte) (late : Bool) : JobTag :=
  { tag := dTag b, typ := if dType b = 0 ∨ 8 < dType b then 0 else BitVec.ofNat 8 (dType b), irq := dIrq b, late := late,
    lost := false }

/-- The held descriptor completes at once with a condition (R160, R161). -/
def refuseDesc (s : State) (w : WingId) (b : List Byte) (c : Cond) : State :=
  (postRecord (s.onRing w fun r => { r with held := none }) w (descTag b false)
    ⟨c, openResult s, 0, 0xFF⟩).draw

/-- COMPLETION_SLOT_RESERVE: with a free completion slot the held descriptor is checked; a refused one completes at once
(R160, R162). -/
def execCompletionSlotReserve (w : WingId) (s : State) : Res :=
  let r := s.ring w
  match r.held with
  | some d =>
    if d.checked || !dispatchOpen s w || decide (ringEntries r.cqSize ≤ r.unreleased + r.inflight.toNat) then .next s
    else
      let s1 := s.onRing w fun r => { r with inflight := r.inflight + 1 }
      let c := descCheck s1 w d.bytes
      if c ≠ 0 then .next (refuseDesc s1 w d.bytes c)
      else
        let t := descSealCheck s1 w d.bytes
        if t.2 ≠ 0 then .next (refuseDesc t.1 w d.bytes t.2)
        else if descOutside t.1 w d.bytes then .next (refuseDesc t.1 w d.bytes 0x0102)
        else if descParked t.1 d.bytes then .next (refuseDesc t.1 w d.bytes 0x0E02)
        else .next (t.1.onRing w fun r => { r with held := some { d with checked := true } })
  | none => .next s

/-- A dispatched job of any ring still runs on a Room of the mask. -/
def roomsBusy (s : State) (m : W32) : Bool :=
  s.host.jobs.any fun j => match j.kind with
    | .run _ left => decide (left &&& m ≠ 0)
    | .programLoad k .. => decide (k &&& m ≠ 0)
    | _ => false

/-- Hatch w's copy engine serves a job (R174). -/
def engineBusy (s : State) (w : WingId) : Bool := (s.hatch w).copy.isSome || (s.hatch w).imageJob.isSome

/-- What the dispatcher of a ring waits at, as FOY_RING_STATUS.HOLD shows it (R177). -/
def holdCode (s : State) (w : WingId) : Nat :=
  let r := s.ring w
  if r.en && !r.active then 8
  else if (r.en || r.held.isSome) && !dispatchOpen s w then 1
  else match r.held with
    | none => 0
    | some d =>
      if !d.checked then 4
      else if dFence d.bytes && s.host.jobs.any (fun j => j.ring == w) then 2
      else if dTimed d.bytes && !reached s.phase.time (dStart d.bytes) then 3
      else match dType d.bytes with
        | 2 | 3 => if roomsBusy s (dMask d.bytes) then 5 else 0
        | 4 | 5 => if engineBusy s w then 6 else 0
        | 8 => if s.stair.ctxs.toList.all fun c => c.st != .free then 7 else 0
        | _ => 0

/-- The held job of a type that starts now: fence, time and resources are satisfied (R160). -/
def startable (s : State) (w : WingId) (typ : Nat) : Option (List Byte) :=
  match (s.ring w).held with
  | some d => if d.checked ∧ dType d.bytes = typ ∧ dispatchOpen s w ∧ holdCode s w = 0 then some d.bytes else none
  | none => none

/-- A job that starts while phase time is past START_PHASE is late (R161). -/
def lateNow (s : State) (b : List Byte) : Bool := dTimed b && s.phase.time != dStart b

/-- The held descriptor becomes a dispatched job of the ring. -/
def dispatch (s : State) (w : WingId) (b : List Byte) (k : JobKind) : Job × State :=
  let r := s.ring w
  let j : Job := { ring := w, serial := r.nextSerial, tag := dTag b, typ := BitVec.ofNat 8 (dType b), irq := dIrq b,
                   late := lateNow s b, kind := k }
  (j, (s.onRing w fun r => { r with held := none, nextSerial := r.nextSerial + 1 }).onHost fun h =>
    { h with jobs := h.jobs ++ [j] })

/-- A job that is over as it starts. -/
def endAtStart (s : State) (w : WingId) (b : List Byte) (e : JobEnd) : State :=
  let d := dispatch s w b .hatchCopy
  completeJob d.2 d.1 e

/-- A job refused as it starts: RESULT open. -/
def failAtStart (s : State) (w : WingId) (b : List Byte) (c : Cond) (unit : Byte) (detail : W32) : State :=
  let d := dispatch s w b .hatchCopy
  failJob d.2 d.1 c unit detail

/-- JOB_NOP (R179). -/
def execJobNop (w : WingId) (s : State) : Res :=
  match startable s w 1 with
  | some b => .next (endAtStart s w b ⟨0, 0, 0, 0xFF⟩)
  | none => .next s

/-- A mask with the checkers of its primaries (R324). -/
def withCheckers (s : State) (m : W32) : W32 :=
  (onesOf m).foldl (fun a r => match lockstepMate s r with
    | some q => a ||| (1 : W32) <<< q.1
    | none => a) m

/-- JOB_PROGRAM_LOAD: the Rooms are LOADING; HALTED and WATCHED ones return to IDLE first, one in DEBUG_HALT refuses the
job with 0x0A07 (R179, R327). -/
def execJobProgramLoad (w : WingId) (s : State) : Res :=
  match startable s w 2 with
  | some b =>
    let m := withCheckers s (dMask b)
    match (onesOf m).find? fun r => (s.room r).st == .debugHalt || (s.room r).st == .running with
    | some r => .next (failAtStart s w b 0x0A07 (BitVec.ofNat 8 r.1) 0)
    | none =>
      let l := loadLens b
      let d := dispatch s w b (.programLoad m (fieldAt b 24 8) l.1 l.2.1 l.2.2.1 l.2.2.2)
      .next ((onesOf m).foldl (fun s r =>
        let s1 := if (s.room r).st = .halted ∨ (s.room r).st = .watched then roomToIdle s r else s
        s1.onRoom r fun x => { x with st := .loading }) d.2)
  | none => .next s

/-- A memory image from offset 0, the rest zero. -/
def memOf (bs : List Byte) : List Host.Cell := zwrite [] 0 bs

/-- The four images in a Room's memories (R179). -/
def loadRoom (x : Room) (ni nd a xs : List Byte) : Room :=
  { x with st := .idle,
           newel := { x.newel with imem := memOf ni, dmem := memOf nd, fetchBuf := [] },
           astream := { x.astream with strm := { x.astream.strm with mem := memOf a } },
           xstream := { x.xstream with mem := memOf xs } }

/-- PROGRAM_LOAD_DONE: the images are read and loaded into every Room of the mask, which ends IDLE; RESULT is the bytes
read. A poisoned line completes the job with 0x0703 and loads nothing (R179, R267). -/
def execProgramLoadDone (w : WingId) (serial : Nat) (s : State) : Res :=
  match findJob s w serial with
  | some j =>
    match j.kind with
    | .programLoad m src ni nd a x =>
      if !wingFree s w src (ni + nd + a + x) || !larderOpen s w then .next s
      else
        let rd := wingRead s w src (ni + nd + a + x)
        if rd.2.1 then
          .next (failJob ((onesOf m).foldl (fun s r => s.onRoom r fun y => { y with st := .idle }) rd.2.2) j 0x0703 0xFF 0)
        else
          let part (o n : Nat) := (rd.1.drop o).take n
          let s1 := (onesOf m).foldl (fun s r => s.onRoom r fun y =>
            loadRoom y (part 0 ni) (part ni nd) (part (ni + nd) a) (part (ni + nd + a) x)) rd.2.2
          .next (completeJob s1 j ⟨0, ni + nd + a + x, 0, 0xFF⟩)
    | _ => .next s
  | none => .next s

/-- The Newel as a RUN starts it (R338): registers zero but c0, c1 and c2. -/
def startNewel (n : Newel) (entry c0 c1 c2 : W32) : Newel :=
  { Newel.init with
    pc := entry, wait := .ready, outs := vmod Newel.init.outs 15 fun o => vset (vset (vset o 0 c0) 1 c1) 2 c2,
    tpsr := n.tpsr, tpc := n.tpc, cause := n.cause, tval := n.tval, tcond := n.tcond, qhi := n.qhi,
    cycleHi := n.cycleHi, phaseHi := n.phaseHi, bkpt := n.bkpt, predictor := n.predictor, remoteOut := n.remoteOut,
    stores := n.stores, imem := n.imem, dmem := n.dmem }

/-- JOB_RUN: every Newel of the mask starts at ENTRY, with generators unloaded, ADRs zero and the units' registers at reset; a
Room that is not IDLE gives 0x0406 (R179, R324, R338, R364, R408, R413, R417, R419, R429). -/
def execJobRun (w : WingId) (s : State) : Res :=
  match startable s w 3 with
  | some b =>
    let m := withCheckers s (dMask b)
    match (onesOf m).find? fun r => (s.room r).st != .idle || (s.room r).zeroing || (s.room r).held with
    | some r => .next (failAtStart s w b 0x0406 (BitVec.ofNat 8 r.1) 0)
    | none =>
      let entry : W32 := BitVec.ofNat 32 (fieldAt b 20 4)
      let c0 : W32 := BitVec.ofNat 32 (fieldAt b 24 4)
      let c1 : W32 := BitVec.ofNat 32 (fieldAt b 28 4)
      let d := dispatch s w b (.run (dMask b) m)
      let s1 := (onesOf (dMask b)).zipIdx.foldl (fun s (x : RoomId × Nat) =>
        let start (s : State) (r : RoomId) : State := s.onRoom r fun y =>
          { y with st := .running, stBefore := .running, newel := startNewel y.newel entry c0 c1 (BitVec.ofNat 32 x.2),
                   watchCount := 0, compute := Compute.init,
                   astream := { y.astream with adr := Vector.replicate 4 0,
                                               strm := { y.astream.strm with gens := Vector.replicate 4 Gen.init } },
                   xstream := { y.xstream with gens := Vector.replicate 4 Gen.init } }
        match lockstepMate s x.1 with
        | some q => start (start s x.1) q
        | none => start s x.1) d.2
      if m = 0 then .next (completeJob s1 d.1 ⟨0, openResult s, 0, 0xFF⟩).draw else .next s1
  | none => .next s

/-! ### The copy engine (R149, R174) -/

/-- A stretch of host memory that one request may carry: at most `most` bytes, not across a 4 KiB boundary (R149). -/
def hostChunk (addr left most : Nat) : Nat := min left (min most (4096 - addr % 4096))

/-- The engine issues memory reads while fewer than 16 are outstanding (R174). -/
def issueReads : Nat → State → WingId → State
  | 0, s, _ => s
  | fuel + 1, s, w =>
    match (s.hatch w).copy with
    | some c =>
      if c.toHost || c.left == 0 || c.failed.isSome || decide (16 ≤ c.reads.length) then s
      else
        let n := hostChunk c.hostAddr c.left s.host.cfg.maxReadReq
        issueReads fuel ((s.onHatch w fun h =>
          { h with copy := some { c with hostAddr := c.hostAddr + n, wingOff := c.wingOff + n, left := c.left - n,
                                         nextTag := c.nextTag + 1,
                                         reads := c.reads ++ [⟨c.nextTag, c.wingOff, n⟩] } }).send
          (.hostRead c.nextTag c.hostAddr n)) w
    | none => s

/-- JOB_HATCH_COPY: the copy engine starts; with Bus Master Enable 0 the job completes with 0x0408 (R174, R179). -/
def execJobHatchCopy (w : WingId) (s : State) : Res :=
  match startable s w 4 with
  | some b =>
    if !s.host.cfg.busMaster then .next (failAtStart s w b 0x0408 0xFF 0)
    else
      let d := dispatch s w b .hatchCopy
      let c : CopyEngine :=
        { serial := d.1.serial, toHost := (fieldAt b 16 1).testBit 0, hostAddr := fieldAt b 24 8,
          wingOff := fieldAt b 32 8, left := fieldAt b 20 4, moved := 0, nextTag := 0, reads := [], failed := none }
      .next (issueReads 16 (d.2.onHatch w fun h => { h with lines := [], copy := some c }) w)
  | none => .next s

/-- A read of the copy engine ends: with its bytes, which are stored, or with a failure (R174). -/
def readEnds (s : State) (w : WingId) (tag : Nat) (data : Option (List Byte)) : State :=
  match (s.hatch w).copy with
  | some c =>
    match c.reads.find? fun r => r.tag == tag with
    | some r =>
      let c' := { c with reads := c.reads.erase r }
      match data with
      | some bs =>
        if bs.length = r.len then
          issueReads 16 ((postWrite s w r.wingOff bs).onHatch w fun h =>
            { h with copy := some { c' with moved := c.moved + r.len } }) w
        else s
      | none => s.onHatch w fun h => { h with copy := some { c' with failed := some (c.failed.getD 0x0407) } }
    | none => s
  | none => s

/-- PCIE_COMPLETION: the completion of a host read arrives; `ok` false is an Unsupported Request, a Completer Abort or
poisoned data. While Bus Master Enable is 0 the copy has failed with 0x0408 (R174, R182). -/
def execPcieCompletion (w : WingId) (tag : Nat) (data : List Byte) (ok : Bool) (s : State) : Res :=
  .next (readEnds s w tag (if ok then some data else none))

/-- PCIE_COMPLETION_TIMEOUT: the Completion Timeout of a host read expires: the copy fails with 0x0407 (R174). -/
def execPcieCompletionTimeout (w : WingId) (tag : Nat) (s : State) : Res := .next (readEnds s w tag none)

/-- The bytes go out as memory writes of at most Max_Payload_Size that cross no 4 KiB boundary (R149). -/
def hostWrites : Nat → State → Nat → List Byte → State
  | 0, s, _, _ => s
  | fuel + 1, s, a, bs =>
    if bs = [] then s
    else
      let n := hostChunk a bs.length (max s.host.cfg.maxPayload 4)
      hostWrites fuel (s.send (.hostWrite a (bs.take n))) (a + n) (bs.drop n)

/-- HATCH_COPY_DONE: the last byte is committed; the job completes, RESULT the bytes moved, or with its failure
(R174, R179). -/
def execHatchCopyDone (w : WingId) (s : State) : Res :=
  match (s.hatch w).copy with
  | some c =>
    match findJob s w c.serial with
    | some j =>
      match c.failed with
      | some e => if c.reads.isEmpty then .next (failJob s j e 0xFF 0) else .next s
      | none =>
        if !s.host.cfg.busMaster then .next (failJob s j 0x0408 0xFF 0)
        else if !c.toHost then
          if c.left = 0 ∧ c.reads = [] then .next (completeJob s j ⟨0, c.moved, 0, 0xFF⟩) else .next s
        else if !wingFree s w c.wingOff c.left || !larderOpen s w then .next s
        else
          let rd := wingRead s w c.wingOff c.left
          if rd.2.1 then .next (failJob rd.2.2 j 0x0703 0xFF 0)
          else .next (completeJob (hostWrites c.left rd.2.2 c.hostAddr rd.1) j ⟨0, c.left, 0, 0xFF⟩)
    | none => .next s
  | none => .next s

/-! ### Image jobs (R221-R224) -/

/-- The header page is well formed (R217, R222, R234). -/
def headerOk (s : State) (w : WingId) (img : Fin 32) (h : List Byte) : Bool :=
  let q := fieldAt h 8 4
  let name := bytesAt h 32 16
  let text := name.takeWhile (· != 0)
  decide (fieldAt h 0 4 = 0x4D494346 ∧ fieldAt h 4 1 = 1) && zeroAt h 5 3 && zeroAt h 28 4 && zeroAt h 56 8 &&
  zeroAt h 64 16320 && decide (1 ≤ q ∧ q ≤ (if s.sys.part064 then 1047552 else 2096640)) &&
  (text.all fun b => decide (0x20 ≤ b.toNat ∧ b.toNat ≤ 0x7E)) && decide (text.length < 16) &&
  ((name.drop text.length).all (· == 0)) && decide (fieldAt h 16 8 ≠ 0) &&
  (List.finRange 32).all fun i => decide (i = img) || (s.image w i).st == .empty ||
    decide ((s.image w i).salt.toNat ≠ fieldAt h 16 8)

/-- The image that a header opens: LOADING with its quota reserved (R217, R220, R234). -/
def openImage (h : List Byte) : Image :=
  let q := fieldAt h 8 4
  { Image.none with
    st := .loading, quarterPages := BitVec.ofNat 32 q, crc := BitVec.ofNat 32 (fieldAt h 12 4),
    salt := BitVec.ofNat 64 (fieldAt h 16 8), shardIndex := BitVec.ofNat 16 (fieldAt h 24 2),
    shardCount := BitVec.ofNat 16 (fieldAt h 26 2), name := bytesAt h 32 16, build := BitVec.ofNat 64 (fieldAt h 48 8),
    rows := BitVec.ofNat 16 ((q + 1535) / 1536), snaps := 15 }

/-- Data pages that the range [dest, dest + len) of an image covers. -/
def pagesOf (dest len : Nat) : List Nat :=
  (List.range (len / 16384)).filterMap fun i => if dest / 16384 + i = 0 then none else some (dest / 16384 + i - 1)

/-- A failed check of a load leaves its code in LAST_COND when it is of class 06 (R235). -/
def imageFail (s : State) (w : WingId) (b : List Byte) (img : Fin 32) (c : Cond) : State :=
  failAtStart (noteImageCond s w img c) w b c 0xFF 0

/-- JOB_IMAGE_LOAD: the checks of R222 in order; the pages not yet present are to be programmed from SRC (R221). -/
def execJobImageLoad (w : WingId) (s : State) : Res :=
  match startable s w 5 with
  | some b =>
    let img : Fin 32 := ⟨fieldAt b 16 1 % 32, by omega⟩
    let len := fieldAt b 20 4
    let src := fieldAt b 24 8
    let dest := fieldAt b 32 8
    let g := s.image w img
    if !keyFilled s (cellarSlot w) then .next (imageFail s w b img 0x0203)
    else if !((g.st == .empty && decide (dest = 0)) || ((g.st == .loading || g.st == .loaded) && decide (dest ≠ 0))) then
      .next (imageFail s w b img 0x0602)
    else if dest = 0 ∧ (!wingFree s w src 16384 || !larderOpen s w) = true then .next s
    else
      let rd := if dest = 0 ∧ len ≠ 0 then wingRead s w src 16384 else ([], false, s)
      let s := rd.2.2
      let g' := if dest = 0 then openImage rd.1 else g
      if rd.2.1 then .next (failAtStart s w b 0x0703 0xFF 0)
      else if dest = 0 ∧ (!headerOk s w img rd.1) = true then .next (imageFail s w b img 0x0601)
      else if dest = 0 ∧ (s.wing w).celQuota.toNat < quotaUsed s w + g'.rows.toNat ∧ w ≠ 0 then
        .next (imageFail s w b img 0x0603)
      else if dest = 0 ∧ quotaFree s < g'.rows.toNat ∧ w = 0 then .next (imageFail s w b img 0x0603)
      else if 16384 * (4 * g'.quarterPages.toNat + 1) < dest + len then .next (imageFail s w b img 0x0604)
      else
        let left := (pagesOf dest len).filter fun p => !(g'.pages.any fun q => q.1 == p)
        let s1 := if dest = 0 then (s.onImage w img fun _ => g').onCellar fun c =>
          { c with stk := c.stk.map fun k => { k with snapPending := true } } else s
        let d := dispatch s1 w b (.imageLoad img left src dest 0)
        .next (d.2.onHatch w fun h => { h with imageJob := some d.1.serial, lines := [] })
  | none => .next s

/-- IMAGE_LOAD_DONE: every page the job programs has been journalled; RESULT is the bytes programmed (R221). -/
def execImageLoadDone (w : WingId) (serial : Nat) (s : State) : Res :=
  match findJob s w serial with
  | some j =>
    match j.kind with
    | .imageLoad _ [] _ _ done => .next (completeJob s j ⟨0, done, 0, 0xFF⟩)
    | _ => .next s
  | none => .next s

/-- JOB_IMAGE_COMMIT: a LOADED image starts VERIFYING; the job completes when it leaves that state (R223). -/
def execJobImageCommit (w : WingId) (s : State) : Res :=
  match startable s w 6 with
  | some b =>
    let img : Fin 32 := ⟨fieldAt b 16 1 % 32, by omega⟩
    let c := commitCheck s w img
    if c ≠ 0 then .next (imageFail s w b img c)
    else
      let d := dispatch s w b (.imageCommit img)
      .next (startVerify d.2 w img (some d.1.serial))
  | none => .next s

/-- JOB_IMAGE_ERASE: the image enters ERASING and the job completes (R224). -/
def execJobImageErase (w : WingId) (s : State) : Res :=
  match startable s w 7 with
  | some b =>
    let img : Fin 32 := ⟨fieldAt b 16 1 % 32, by omega⟩
    let c := eraseCheck s w img
    if c ≠ 0 then .next (imageFail s w b img c)
    else .next (endAtStart (startImageErase s w img) w b ⟨0, 0, 0, 0xFF⟩)
  | none => .next s

/-! ### The Hatches (R170-R175) -/

/-- The wing's state lets its Hatch through (R39). -/
def hatchOpen (s : State) (w : WingId) : Bool :=
  match (s.wing w).st with
  | .house | .populate | .run | .freezing => true
  | .frozen => (s.wing w).frozenBy == .host
  | .free | .clearing => false

/-- An access refused by R175 is counted in HATCH_DISCARDS; a missing Larder key raises 0x0203 as well. -/
def hatchRefuse (s : State) (w : WingId) : Option State :=
  let count := s.onWing w fun x => { x with hatchDiscards := satAdd x.hatchDiscards 1 }
  if !hatchOpen s w then some count
  else if w ≠ 0 ∧ (!keyFilled s (larderSlot w)) = true then some (hatchCond count w 0x0203)
  else none

/-- A read answered with zeros. -/
def zeroAnswer (s : State) (n : Nat) : State := s.send (.barData (List.replicate n 0))

/-- Bytes stored where their byte enable is set. -/
def maskedBytes (old new : List Byte) (be : List Bool) : List Byte :=
  (List.range new.length).map fun i => if be.getD i false then new.getD i 0 else old.getD i 0

/-- Read-ahead lines that overlap a written stretch are dropped (R173). -/
def dropLines (h : Hatch) (off n : Nat) : Hatch :=
  { h with lines := h.lines.filter fun l => !(decide (l.off < off + n ∧ off < l.off + 4096)) }

/-- HATCH_WINDOW_WRITE: bytes at HATCH_WIN + offset, any byte enables (R170, R171, R175). -/
def hatchWindowWriteOp (w : WingId) (off : Nat) (bs : List Byte) (be : List Bool) (s : State) : Res :=
  if 0x8000 < off + bs.length then .next (hatchCond s w 0x0409)
  else match hatchRefuse s w with
    | some s1 => .next s1
    | none =>
      let o := (s.hatch w).win.toNat + off
      if !(s.hatch w).winEn then .next s
      else if !wingRange s w o bs.length then .next (hatchCond s w 0x0102)
      else
        let s1 := s.onHatch w fun h => dropLines h o bs.length
        let old := if be.all id ∧ be.length = bs.length then ([], false, s1) else wingRead s1 w o bs.length
        .next (postWrite old.2.2 w o (maskedBytes old.1 bs be))

/-- HATCH_WINDOW_WRITE as a BAR access of the host (R151, R157, R549). -/
def execHatchWindowWrite (w : WingId) (off : Nat) (bs : List Byte) (be : List Bool) (s : State) : Res :=
  barGo s (.winWrite w off bs be) 2 (hatchWindowWriteOp w off bs be s)

/-- HATCH_WINDOW_READ (R171, R175); poisoned data sets HATCH_STATUS.ERR with 0x0703 (R267). -/
def hatchWindowReadOp (w : WingId) (off n : Nat) (s : State) : Res :=
  if 0x8000 < off + n then .next (zeroAnswer (hatchCond s w 0x0409) n)
  else match hatchRefuse s w with
    | some s1 => .next (zeroAnswer s1 n)
    | none =>
      let o := (s.hatch w).win.toNat + off
      if !(s.hatch w).winEn then .next (zeroAnswer s n)
      else if !wingRange s w o n then .next (zeroAnswer (hatchCond s w 0x0102) n)
      else if !wingFree s w o n then .next s
      else
        let rd := wingRead s w o n
        .next ((if rd.2.1 then hatchCond rd.2.2 w 0x0703 else rd.2.2).send (.barData rd.1))

/-- HATCH_WINDOW_READ as a BAR access of the host (R151, R157, R549). -/
def execHatchWindowRead (w : WingId) (off n : Nat) (s : State) : Res :=
  barGo s (.winRead w off n) 2 (hatchWindowReadOp w off n s)

/-- HATCH_PORT_WRITE: the bytes go to HATCH_ADDR, which advances; read-ahead is dropped. `full` tells whether every byte
enable is set (R172). -/
def hatchPortWriteOp (w : WingId) (bs : List Byte) (full : Bool) (s : State) : Res :=
  if !full || decide (bs.length < 4 ∨ 512 < bs.length ∨ bs.length % 4 ≠ 0) then .next (hatchCond s w 0x0409)
  else match hatchRefuse s w with
    | some s1 => .next s1
    | none =>
      let o := (s.hatch w).addr.toNat
      if !wingRange s w o bs.length then .next (hatchCond s w 0x0102)
      else .next ((postWrite s w o bs).onHatch w fun h =>
        { h with addr := h.addr + BitVec.ofNat 36 bs.length, count := h.count + BitVec.ofNat 64 bs.length, lines := [] })

/-- HATCH_PORT_WRITE as a BAR access of the host (R151, R157, R549). -/
def execHatchPortWrite (w : WingId) (bs : List Byte) (full : Bool) (s : State) : Res :=
  barGo s (.portWrite w bs full) 2 (hatchPortWriteOp w bs full s)

/-- A byte of a read-ahead line, if the Hatch holds it. -/
def lineByte (h : Hatch) (o : Nat) : Option Byte :=
  (h.lines.find? fun l => l.off ≤ o && o < l.off + 4096).map fun l => l.bytes.getD (o - l.off) 0

/-- HATCH_PORT_READ: bytes from HATCH_ADDR, out of the read-ahead snapshot where a line is held; HATCH_ADDR advances and
lines behind it are consumed (R173). -/
def hatchPortReadOp (w : WingId) (n : Nat) (s : State) : Res :=
  if n < 4 ∨ 4096 < n ∨ n % 4 ≠ 0 then .next (zeroAnswer (hatchCond s w 0x0409) n)
  else match hatchRefuse s w with
    | some s1 => .next (zeroAnswer s1 n)
    | none =>
      let h := s.hatch w
      let o := h.addr.toNat
      if !wingRange s w o n then .next (zeroAnswer (hatchCond s w 0x0102) n)
      else if !wingFree s w o n then .next s
      else
        let rd := wingRead s w o n
        let bs := (List.range n).map fun i => (lineByte h (o + i)).getD (rd.1.getD i 0)
        let poison := rd.2.1 && !((List.range n).all fun i => (lineByte h (o + i)).isSome)
        .next (((if poison then hatchCond rd.2.2 w 0x0703 else rd.2.2).onHatch w fun h =>
          { h with addr := h.addr + BitVec.ofNat 36 n, count := h.count + BitVec.ofNat 64 n,
                   lines := h.lines.filter fun l => decide (o + n < l.off + 4096) }).send (.barData bs))

/-- HATCH_PORT_READ as a BAR access of the host (R151, R157, R549). -/
def execHatchPortRead (w : WingId) (n : Nat) (s : State) : Res := barGo s (.portRead w n) 2 (hatchPortReadOp w n s)

/-- HATCH_ADDR_WRITE: the port address is set, HATCH_COUNT restarts, read-ahead is dropped (R173, R181). -/
def hatchAddrWriteOp (w : WingId) (a : W64) (s : State) : Res :=
      let s1 := if a.toNat % 4 ≠ 0 ∨ 2 ^ 36 ≤ a.toNat then countReserved s 1 else s
    .next (s1.onHatch w fun h => { h with addr := (a.setWidth 36) &&& ~~~3, count := 0, lines := [] })

/-- HATCH_ADDR_WRITE as a BAR access of the host (R151, R157, R549). -/
def execHatchAddrWrite (w : WingId) (a : W64) (s : State) : Res :=
  barGo s (.write (0x40008 + w.1 * 0x1000) (leBytes 8 a.toNat)) 2 (hatchAddrWriteOp w a s)

/-- HATCH_CTRL as it reads (R181). -/
def hatchCtrl (h : Hatch) : Nat := h.raDepth.toNat * 256 + 2 * b2n h.winEn + b2n h.raEn

/-- HATCH_FLUSH: every read-ahead line is dropped (R173, R181). -/
def hatchFlushOp (w : WingId) (s : State) : Res :=
  .next (s.onHatch w fun h => { h with lines := [] })

/-- HATCH_FLUSH as a BAR access of the host (R151, R157, R549). -/
def execHatchFlush (w : WingId) (s : State) : Res :=
  barGo s (bar0 (0x40000 + w.1 * 0x1000) (hatchCtrl (s.hatch w) + 4)) 2 (hatchFlushOp w s)

/-- HATCH_READAHEAD_FILL: with RA_EN and an idle copy engine the next 4 KiB line ahead of HATCH_ADDR is fetched, up to
RA_DEPTH lines; a line that is not wholly in the wing's windows is not fetched (R173). -/
def execHatchReadaheadFill (w : WingId) (s : State) : Res :=
  let h := s.hatch w
  if !h.raEn || engineBusy s w || !hatchOpen s w || !larderOpen s w then .next s
  else if h.raDepth.toNat ≤ h.lines.length then
    .next (if h.lines.length < 16 then s
      else s.onSys fun y => { y with stallHatch := vmod y.stallHatch w fun k => satAdd k 1 })
  else
    let first := h.addr.toNat / 4096 * 4096
    match ((List.range 16).map fun i => first + 4096 * i).find? fun o => !(h.lines.any fun l => l.off == o) with
    | some o =>
      if !wingRange s w o 4096 || !wingFree s w o 4096 then .next s
      else
        let rd := wingRead s w o 4096
        if rd.2.1 then .next rd.2.2 else .next (rd.2.2.onHatch w fun h => { h with lines := h.lines ++ [⟨o, rd.1⟩] })
    | none => .next s

end Sys2Proof.Machine
end

