-- ==== Sys2Proof/Machine/PorchOps.lean ====
section
/-!
DEFINITION. Machine/PorchOps.lean: Porch requests (R510-R513, R523, R530, R531), capture (R507, R514, R515) and the
delivery of results (R522, R533).
-/
namespace Sys2Proof.Machine
open Sys2Proof

/-! ### Stream records (R531) -/

/-- Fields of a stream record, at their offsets in the request record. -/
def srPort (r : List Byte) : Nat := fieldAt r 9 1
def srLanes (r : List Byte) : Nat := fieldAt r 10 1
def srVc (r : List Byte) : Nat := fieldAt r 11 1
def srDt (r : List Byte) : Nat := fieldAt r 12 1
def srWidth (r : List Byte) : Nat := fieldAt r 14 2
def srHeight (r : List Byte) : Nat := fieldAt r 16 2
def srDecim (r : List Byte) : Nat := fieldAt r 18 1
def srMode (r : List Byte) : Nat := fieldAt r 10 1
def srSlots (r : List Byte) : Nat := fieldAt r 11 1
def srSlotBits (r : List Byte) : Nat := fieldAt r 12 1
def srSampleBits (r : List Byte) : Nat := fieldAt r 13 1
def srMask (r : List Byte) : Nat := fieldAt r 14 2
def srFsHz (r : List Byte) : Nat := fieldAt r 16 4
def srMclk (r : List Byte) : Nat := fieldAt r 20 2
def srSamples (r : List Byte) : Nat := fieldAt r 22 2
def srBus (r : List Byte) : Nat := fieldAt r 10 1
def srSpeed (r : List Byte) : Nat := fieldAt r 12 1
def srTarget (r : List Byte) : Nat := fieldAt r 13 1
def srWrLen (r : List Byte) : Nat := fieldAt r 14 1
def srRdLen (r : List Byte) : Nat := fieldAt r 15 1
def srPeriod (r : List Byte) : Nat := fieldAt r 16 4
def srBuf (r : List Byte) : Nat := fieldAt r 24 4
def srNbuf (r : List Byte) : Nat := fieldAt r 28 1
def srBufLen (r : List Byte) : Nat := fieldAt r 30 2 * 64
def srList (r : List Byte) : Nat := fieldAt r 32 4
def srTimeout (r : List Byte) : Nat := fieldAt r 36 4
def srRing (r : List Byte) : Nat := fieldAt r 40 8
def srRingLog (r : List Byte) : Nat := fieldAt r 48 1

/-- The stream runs no list (R515). -/
def srRaw (r : List Byte) : Bool := srList r == 0xFFFFFFFF

/-- SOURCE is well formed for its KIND (R531, check 1). -/
def sourceOk (r : List Byte) : Bool :=
  match fieldAt r 8 1 with
  | 1 => decide (srPort r < 2 ∧ srVc r < 4 ∧ 1 ≤ srLanes r ∧ srLanes r ≤ 4) && zeroAt r 13 1 && decide (srDecim r < 16) &&
      zeroAt r 19 5
  | 2 => decide (srPort r < 4 ∧ srMode r < 16 ∧ 1 ≤ srSlots r ∧ srSlots r ≤ 16 ∧ 1 ≤ srSampleBits r ∧ 0 < srMask r ∧
      srMask r < 2 ^ srSlots r ∧ 1 ≤ srSamples r ∧ srSamples r ≤ 4096) && ((srMclk r == 0) == !bitOf (srMode r) 0)
  | 3 => decide (srPort r < 4) && (srBus r == 0) && decide (fieldAt r 11 1 < 2 ∧ srTarget r < 2) && sensorOk r
  | 4 => decide (srPort r < 4) && (srBus r == 1) && decide (fieldAt r 11 1 < 2 ∧ srSpeed r < 3 ∧ srTarget r < 128) && sensorOk r
  | _ => false
where
  sensorOk (r : List Byte) : Bool := decide (srWrLen r ≤ 4 ∧ 1 ≤ srRdLen r ∧ srRdLen r ≤ 64 ∧ 64 ≤ srPeriod r)

/-- Result-ring fields are in range (R531). -/
def ringFieldsOk (r : List Byte) : Bool :=
  decide (srRing r % 4096 = 0 ∧ srRing r < 2 ^ 36 ∧ 4 ≤ srRingLog r ∧ srRingLog r ≤ 12)

/-- Check 1 of R512: fields in range, reserved bytes zero. -/
def streamFieldsOk (r : List Byte) : Bool :=
  sourceOk r && decide (srBuf r % 64 = 0 ∧ 2 ≤ srNbuf r ∧ srNbuf r ≤ 16 ∧ 0 < srBufLen r) && zeroAt r 29 1 &&
    (srRaw r || decide (srList r % 32 = 0)) && ringFieldsOk r && zeroAt r 49 15 && zeroAt r 1 7

/-- Check 2 of R512: the options are supported (R506). -/
def streamOptionsOk (r : List Byte) : Bool :=
  match fieldAt r 8 1 with
  | 1 => srLanes r != 3 && [0x1E, 0x2A, 0x2B, 0x2C].contains (srDt r)
  | 2 => [16, 24, 32].contains (srSlotBits r) && decide (srSampleBits r ≤ srSlotBits r) &&
      decide (8000 ≤ srFsHz r ∧ srFsHz r ≤ 48000 ∧ srSlots r * srSlotBits r * srFsHz r ≤ 24576000) &&
      (!bitOf (srMode r) 1 || srSlots r == 2)
  | 3 => decide (2 ≤ srSpeed r ∧ srSpeed r ≤ 254 ∧ srSpeed r % 2 = 0)
  | _ => true

/-- Check 3 of R512: BUF, its ring and LIST in pages that the wing holds, RING in its windows. -/
def streamReach (s : State) (w : WingId) (r : List Byte) : Bool :=
  holdsPages s w (srBuf r) (srNbuf r * srBufLen r) && (srRaw r || holdsPages s w (srList r) 32) &&
    wingRange s w (srRing r) (32 * 2 ^ srRingLog r)

/-- Family of ports that a KIND uses: CSI-2, TDM or sensor. -/
def portFamily (kind : Nat) : Nat := if kind ≤ 2 then kind else 3

/-- The streams held on the port of a record. -/
def onPort (s : State) (r : List Byte) : List PStream :=
  s.porch.streams.toList.filter fun k =>
    k.st != .free && portFamily k.kind.toNat == portFamily (fieldAt r 8 1) && srPort k.record == srPort r

/-- The pins of the record's port are another wing's (R512). -/
def pinsTaken (s : State) (w : WingId) (r : List Byte) : Bool :=
  let other (c : PortClaim) : Bool := c.held && c.wing != w
  match portFamily (fieldAt r 8 1) with
  | 1 => (idx 2 (srPort r)).any fun p => other (s.porch.csi.get p)
  | 2 => (idx 4 (srPort r)).any fun p => other (s.porch.tdm.get p)
  | _ => (idx 4 (srPort r)).any fun p => other (s.porch.sensors.get p)

/-- Two streams of one port want the same VC, slots, or chip select or address (R512). -/
def sourceClash (a b : List Byte) : Bool :=
  match portFamily (fieldAt a 8 1) with
  | 1 => srVc a == srVc b
  | 2 => srMask a &&& srMask b != 0
  | _ => srBus a == srBus b && srTarget a == srTarget b

/-- The port configurations are equal (R512). -/
def samePort (a b : List Byte) : Bool :=
  match portFamily (fieldAt a 8 1) with
  | 1 => srLanes a == srLanes b
  | 2 => srMode a == srMode b && srSlots a == srSlots b && srSlotBits a == srSlotBits b && srFsHz a == srFsHz b &&
      srMclk a == srMclk b
  | _ => srBus a == srBus b && srSpeed a == srSpeed b

/-- The condition that refuses a CLAIM_STREAM, or the stream it takes, in the order of R512. -/
def claimCheck (s : State) (w : WingId) (r : List Byte) : Except Cond (Fin 16) :=
  if !streamFieldsOk r then .error 0x0D01
  else if !streamOptionsOk r then .error 0x0D02
  else if !streamReach s w r then .error 0x0102
  else match lowest s.porch.streams fun _ k => k.st == .free with
    | none => .error 0x0D03
    | some k =>
      let ks := onPort s r
      if pinsTaken s w r || ks.any (fun x => sourceClash r x.record) || decide (4 ≤ ks.length) then .error 0x0D03
      else if ks.any fun x => !samePort r x.record then .error 0x0D04
      else .ok k

/-- The pins of a record's port are claimed or released. -/
def setPins (p : Porch) (r : List Byte) (c : PortClaim) : Porch :=
  match portFamily (fieldAt r 8 1) with
  | 1 => match idx 2 (srPort r) with
    | some i => { p with csi := vset p.csi i c, headers := vset p.headers i none }
    | none => p
  | 2 => match idx 4 (srPort r) with | some i => { p with tdm := vset p.tdm i c } | none => p
  | _ => match idx 4 (srPort r) with | some i => { p with sensors := vset p.sensors i c } | none => p

/-! ### Mailboxes (R510) -/

/-- A request is answered: CONDITION, VALUE, READY and GEN change together. -/
def answerPorch (s : State) (w : WingId) (c : Cond) (value : W32) : State :=
  s.onPorch fun p =>
    { p with mailboxes := vmod p.mailboxes w fun m =>
               { m with cond := c, value := value, ready := true, busy := false, gen := m.gen + 1 },
             arrivals := p.arrivals.drop 1 }

/-- The request record of a wing's mailbox. -/
def porchRequest (s : State) (w : WingId) : List Byte :=
  ((s.porch.mailboxes.get w).request ++ List.replicate 64 0).take 64

/-- The header of a request is well formed for its TYPE: STREAM for types 2 to 4 only, reserved bytes and ARG bits zero
(R530). -/
def requestOk (r : List Byte) : Bool :=
  let t := fieldAt r 0 1
  let arg := fieldAt r 4 4
  zeroAt r 2 2 && (if 2 ≤ t ∧ t ≤ 4 then decide (fieldAt r 1 1 < 16) else zeroAt r 1 1) &&
    (if t = 5 ∨ t = 6 then decide (bitsOf arg 7 6 = 0 ∧ arg < 16384 ∧ 1 ≤ bitsOf arg 13 8 ∧ bitsOf arg 13 8 ≤ 60)
     else if t = 7 then true
     else if t = 9 then decide (arg < 65536)
     else decide (arg = 0))

/-- A request row: it acts on the request that arrived first when that is of its TYPE; a reserved TYPE or a malformed
record is answered with 0x0D01 (R510, R530). `f` answers the condition, the value and the state. -/
def requestRow (t : Nat) (f : WingId → List Byte → State → Cond × W32 × State) (s : State) : Res :=
  match s.porch.arrivals with
  | [] => .next s
  | w :: _ =>
    let r := porchRequest s w
    let typ := fieldAt r 0 1
    if typ = 0 ∨ 10 < typ then .next (answerPorch s w 0x0D01 0)
    else if typ ≠ t then .next s
    else if typ ≠ 1 ∧ (!requestOk r) = true then .next (answerPorch s w 0x0D01 0)
    else if !((s.wing w).st.exists_ || w == 0) || (s.wing w).st == .clearing then .next (answerPorch s w 0x0102 0)
    else
      let x := f w r s
      .next (answerPorch x.2.2 w x.1 x.2.1)

/-- CLAIM_STREAM (R512). -/
def execClaimStream (s : State) : Res :=
  requestRow 1 (fun w r s =>
    match claimCheck s w r with
    | .error c => (c, 0, s)
    | .ok k =>
      let s1 := s.onPorch fun p =>
        let p1 := if (onPort s r).isEmpty then setPins p r ⟨true, w⟩ else p
        let fresh : PStream :=
          { PStream.init with st := .claimed, owner := w, kind := BitVec.ofNat 8 (fieldAt r 8 1), record := r }
        { p1 with streams := vset p1.streams k fresh }
      (0, BitVec.ofNat 32 k.1, s1)) s

/-- A stream leaves the engine and the ready lists. -/
def dropList (p : Porch) (e : EngineBy) : Porch :=
  { p with running := p.running.filter (· != e), queue := p.queue.filter (· != e) }

/-- A stream that the wing holds, named by a request. -/
def ownStream (s : State) (w : WingId) (r : List Byte) : Option (Fin 16) :=
  (idx 16 (fieldAt r 1 1)).filter fun k => (s.porch.streams.get k).st != .free && (s.porch.streams.get k).owner == w

/-- RELEASE_STREAM: to FREE from any state; the last stream of a port releases its pins (R512, R513). -/
def execReleaseStream (s : State) : Res :=
  requestRow 2 (fun w r s =>
    match ownStream s w r with
    | none => (0x0102, 0, s)
    | some k =>
      let rec_ := (s.porch.streams.get k).record
      let s1 := s.onPStream k freePStream
      let s2 := if (onPort s1 rec_).isEmpty then s1.onPorch fun p => setPins p rec_ ⟨false, 0⟩ else s1
      (0, 0, s2.onPorch fun p => dropList p (.stream k))) s

/-- Capture and list start: counts from START are 0, the marks are at the start (R513, R516, R522). -/
def startPStream (s : State) (x : PStream) : PStream :=
  { x with st := .running, frames := 0, samples := 0, resHead := 0, resTail := 0, resPhase := true, unreleased := 0,
           gen := 0, ready := false, pc := srList x.record, listOn := !srRaw x.record, sampleMark := 0, frameMark := 0,
           phaseMark := s.phase.time, wait := .none, waitStamp := s.phase.time, issued := false, hops := 0,
           capture := none, starts := 0, lines := 0, nextBuf := 0, unread := [] }

/-- A stream runs: its list, if it has one, is ready to issue (R513, R520). -/
def runStream (s : State) (k : Fin 16) : State :=
  let s1 := s.onPStream k (startPStream s)
  if (s1.porch.streams.get k).listOn then
    s1.onPorch fun p => let q := dropList p (.stream k); { q with queue := q.queue ++ [.stream k] }
  else s1

/-- START: RUNNING in RUN, HELD in POPULATE, PAUSED while the wing is frozen; only from CLAIMED or STOPPED (R513). -/
def execStart (s : State) : Res :=
  requestRow 3 (fun w r s =>
    match ownStream s w r with
    | none => (0x0102, 0, s)
    | some k =>
      let st := (s.porch.streams.get k).st
      if st ≠ .claimed ∧ st ≠ .stopped then (0x0D04, 0, s)
      else match (s.wing w).st with
        | .populate => (0, 0, s.onPStream k fun x => { startPStream s x with st := .held, listOn := false })
        | .freezing | .frozen =>
          let before : PStreamSt := if (s.wing w).recorded = .populate then .held else .running
          (0, 0, s.onPStream k fun x => { startPStream s x with st := .paused, before := before })
        | _ => (0, 0, runStream s k)) s

/-- STOP: back to CLAIMED (R513). -/
def execStop (s : State) : Res :=
  requestRow 4 (fun w r s =>
    match ownStream s w r with
    | none => (0x0102, 0, s)
    | some k =>
      (0, 0, (s.onPStream k fun x =>
        { x with st := .claimed, capture := none, listOn := false, issued := false, wait := .none }).onPorch fun p =>
          dropList p (.stream k))) s

/-- The pages that a request names: first and count; `none` when one lies outside 4-63 (R511). -/
def pageRange (r : List Byte) : Option (Nat × Nat) :=
  let a := fieldAt r 4 4
  if 4 ≤ bitsOf a 5 0 ∧ bitsOf a 5 0 + bitsOf a 13 8 ≤ 64 then some (bitsOf a 5 0, bitsOf a 13 8) else none

/-- Pages of a range. -/
def porchPages (p : Nat × Nat) : List (Fin 64) := (List.range p.2).filterMap fun i => idx 64 (p.1 + i)

/-- A page is named by a started stream of the wing or by its Parlour window (R511). -/
def pageInUse (s : State) (w : WingId) (g : Fin 64) : Bool :=
  (s.porch.streams.toList.any fun k =>
    k.owner == w && (k.st == .running || k.st == .held || k.st == .paused) &&
      (decide (srBuf k.record / 65536 ≤ g.1 ∧ g.1 ≤ (srBuf k.record + srNbuf k.record * srBufLen k.record - 1) / 65536) ||
        (!srRaw k.record && srList k.record / 65536 == g.1))) ||
  (s.porch.parlour.st != .free && s.porch.parlour.owner == w && s.porch.parlour.base.toNat == g.1)

/-- CLAIM_PAGES (R511). -/
def execClaimPages (s : State) : Res :=
  requestRow 5 (fun w r s =>
    match pageRange r with
    | none => (0x0D01, 0, s)
    | some pr =>
      if (porchPages pr).any fun g => (s.porch.pages.get g).held || (s.porch.pages.get g).zeroing then (0x0D03, 0, s)
      else (0, 0, s.onPorch fun p => { p with pages := (porchPages pr).foldl (fun v g => vset v g ⟨true, w, false⟩) p.pages })) s

/-- RELEASE_PAGES: the pages are zeroed before they can be claimed again (R511). -/
def execReleasePages (s : State) : Res :=
  requestRow 6 (fun w r s =>
    match pageRange r with
    | none => (0x0D01, 0, s)
    | some pr =>
      if (porchPages pr).any fun g => !holdsPage s w g.1 then (0x0102, 0, s)
      else if (porchPages pr).any fun g => pageInUse s w g then (0x0D04, 0, s)
      else (0, 0, s.onPorch fun p =>
        { p with pages := (porchPages pr).foldl (fun v g => vset v g ⟨false, 0, true⟩) p.pages })) s

/-- PAGE_ZEROED: the page holds zeros and can be claimed (R511). -/
def execPageZeroed (g : Fin 64) (s : State) : Res :=
  if (s.porch.pages.get g).zeroing then
    .next (s.onPorch fun p => { p with pages := vset p.pages g ⟨false, 0, false⟩, sram := cellClear p.sram (g.1 * 65536) 65536 })
  else .next s

/-! ### Delivery of results (R522, R533) -/

/-- The 32 bytes of a result record (R533). -/
def resultRecord (stream kind cls : Nat) (score : W32) (stamp : W48) (frame detail cond : Nat) (ph : Bool) : List Byte :=
  [BitVec.ofNat 8 stream, BitVec.ofNat 8 kind] ++ leBytes 2 cls ++ leBytes 4 score.toNat ++ leBytes 6 stamp.toNat ++ [0, 0] ++
    leBytes 4 frame ++ leBytes 4 detail ++ leBytes 2 cond ++ [0, 0, 0, 0, 0, BitVec.ofNat 8 (128 * b2n ph)]

/-- A Porch condition of a wing reaches the log (R538, path L). -/
def porchLog (s : State) (w : WingId) (c : Cond) : State := logCond s c (wingByte w) 0xFF 0

/-- A condition of a stream that does not stop it: LAST_COND and the log. -/
def streamNote (s : State) (k : Fin 16) (c : Cond) : State :=
  porchLog (s.onPStream k fun x => { x with lastCond := c }) (s.porch.streams.get k).owner c

/-- The stream becomes STOPPED: no capture, the list has ended, LAST_COND holds the code (R513). -/
def stopStream (s : State) (k : Fin 16) (c : Cond) : State :=
  let s1 := s.onPStream k fun x =>
    { x with st := .stopped, lastCond := c, capture := none, listOn := false, issued := false, wait := .none }
  let s2 := s1.onPorch fun p => dropList p (.stream k)
  porchLog s2 (s.porch.streams.get k).owner c

/-- The slot after a ring slot, with the PHASE that flips at the wrap. -/
def nextSlot (tail : W16) (ph : Bool) (log : Nat) : W16 × Bool :=
  if tail.toNat + 1 < 2 ^ log then (tail + 1, ph) else (0, !ph)

/-- A stream delivers a result: the result word is updated; the record goes into the next slot of the ring, or is lost
and counted with 0x0D05 when no slot is released (R522). -/
def deliverResult (s : State) (k : Fin 16) (cls : Nat) (score : W32) (stamp : W48) (frame detail : Nat) : State :=
  let s1 := s.onPStream k fun x =>
    { x with cls := BitVec.ofNat 16 cls, score := score, ready := true, gen := x.gen + 1 }
  let x := s.porch.streams.get k
  if 2 ^ srRingLog x.record ≤ x.unreleased then streamNote (s1.onPStream k fun x => { x with dropped := satAdd x.dropped 1 }) k 0x0D05
  else
    let nx := nextSlot x.resTail x.resPhase (srRingLog x.record)
    let bs := resultRecord k.1 x.kind.toNat cls score stamp frame detail 0 x.resPhase
    postWrite (s1.onPStream k fun x =>
      { x with resTail := nx.1, resPhase := nx.2, unreleased := x.unreleased + 1, delivered := satAdd x.delivered 1 })
      x.owner (srRing x.record + 32 * x.resTail.toNat) bs

/-- RES_HEAD_WRITE: the owner of the stream, or wing 0, writes RES_HEAD (R509, R522, R532). -/
def execResHeadWrite (w : WingId) (k : Fin 16) (v : W16) (s : State) : Res :=
  let x := s.porch.streams.get k
  if x.st ≠ .free ∧ (x.owner = w ∨ w = 0) then .next (s.onPStream k fun x => writeResHead x v) else .next s

/-- PORCH_PAR_RESULT_READ: the value, after which RDY is cleared, for wing 0 and the holder of the context (R509, R529). -/
def execPorchParResultRead (w : WingId) (s : State) : Res :=
  let p := s.porch.parlour
  if w = 0 ∨ (p.st ≠ .free ∧ p.owner = w) then
    .next ((s.onPorch fun q => { q with parlour := { q.parlour with rdy := false } }).send
      (.porchValue (BitVec.ofNat 32 (parResult p))))
  else .next s

/-! ### Capture (R507, R514) -/

/-- Byte position of buffer `b` of a stream's ring. -/
def bufferAt (r : List Byte) (b : Nat) : Nat := srBuf r + b * srBufLen r

/-- Bytes of a stored pixel row, and of the row on the wire (R514; the packing of RAW10, RAW12 is CSI-2's). -/
def lineStored (r : List Byte) : Nat :=
  match srDt r with | 0x2A => srWidth r | _ => 2 * srWidth r
def lineWire (r : List Byte) : Nat :=
  match srDt r with
  | 0x2A => srWidth r
  | 0x2B => srWidth r * 10 / 8
  | 0x2C => srWidth r * 12 / 8
  | _ => 2 * srWidth r

/-- A long packet's payload as stored pixels (R514). -/
def unpackLine (dt : Nat) (bs : List Byte) : List Byte :=
  match dt with
  | 0x2B => raw10 bs
  | 0x2C => raw12 bs
  | _ => bs
where
  raw10 : List Byte → List Byte
    | a :: b :: c :: d :: e :: rest =>
      leBytes 2 (a.toNat * 4 + bitsOf e.toNat 1 0) ++ leBytes 2 (b.toNat * 4 + bitsOf e.toNat 3 2) ++
        leBytes 2 (c.toNat * 4 + bitsOf e.toNat 5 4) ++ leBytes 2 (d.toNat * 4 + bitsOf e.toNat 7 6) ++ raw10 rest
    | _ => []
  raw12 : List Byte → List Byte
    | a :: b :: c :: rest =>
      leBytes 2 (a.toNat * 16 + bitsOf c.toNat 3 0) ++ leBytes 2 (b.toNat * 16 + bitsOf c.toNat 7 4) ++ raw12 rest
    | _ => []

/-- Bytes of one sample in the buffer (R514). -/
def sampleBytes (r : List Byte) : Nat := if srSlotBits r = 16 then 2 else 4

/-- Bytes of a whole frame in its buffer (R514). -/
def frameBytes (r : List Byte) : Nat :=
  match fieldAt r 8 1 with
  | 1 => srHeight r * lineStored r
  | 2 => srSamples r * popCount (BitVec.ofNat 16 (srMask r)) * sampleBytes r
  | _ => srRdLen r

/-- Bytes land at an offset of the buffer of the frame in progress; what exceeds BUF_LEN is not stored. -/
def landBytes (s : State) (k : Fin 16) (o : Nat) (bs : List Byte) : State :=
  let x := s.porch.streams.get k
  s.onPorch fun p => { p with sram := zwrite p.sram (bufferAt x.record x.nextBuf + o) (bs.take (srBufLen x.record - o)) }

/-- A frame starts: its stamp, and the loss of an unread frame whose buffer it takes (R514, R526). -/
def startFrame (s : State) (k : Fin 16) : State :=
  let s1 := s.onPStream k fun x =>
    { x with capture := some ⟨s.phase.time, 0, false⟩, framePhase := s.phase.time, starts := x.starts + 1, lines := 0 }
  let x := s.porch.streams.get k
  if x.unread.any fun u => u.buffer == x.nextBuf then
    streamNote (s1.onPStream k fun x =>
      { x with unread := x.unread.filter (fun u => u.buffer != x.nextBuf), dropped := satAdd x.dropped 1 }) k 0x0D05
  else s1

/-- The frame in progress is discarded: DROPPED and 0x0D07 (R507, R514). -/
def discardFrame (s : State) (k : Fin 16) : State :=
  streamNote (s.onPStream k fun x => { x with capture := none, dropped := satAdd x.dropped 1 }) k 0x0D07

/-- The frame in progress has landed whole (R514); a stream with no list gives a result record (R515), and the Parlour's
input stream an unread frame. -/
def landFrame (s : State) (k : Fin 16) : State :=
  let x := s.porch.streams.get k
  let stamp := (x.capture.map (·.stamp)).getD 0
  let feeds := s.porch.parlour.st != .free && s.porch.parlour.stream == some k && s.porch.parlour.owner == x.owner
  let s1 := s.onPStream k fun y =>
    { y with frames := y.frames + 1, nextBuf := (y.nextBuf + 1) % max 1 (srNbuf y.record), capture := none,
             unread := if feeds then y.unread ++ [⟨y.nextBuf, stamp⟩] else y.unread }
  if srRaw x.record then deliverResult s1 k 0 0 stamp (x.frames.toNat + 1) x.nextBuf else s1

/-- The running stream of a CSI-2 port and virtual channel. -/
def csiStream (s : State) (port : Fin 2) (vc : Fin 4) : Option (Fin 16) :=
  lowest s.porch.streams fun _ k =>
    k.st == .running && k.kind == 1 && srPort k.record == port.1 && srVc k.record == vc.1

/-- CSI_BURST_START: the byte after the sync sequence is taken as a packet header; `errs` counts its bit errors: one is
corrected, more end the burst with 0x0D07 (R507). -/
def execCsiBurstStart (port : Fin 2) (vc : Fin 4) (dt : Byte) (wc : W16) (errs : Nat) (s : State) : Res :=
  if !(s.porch.csi.get port).held then .next s
  else if errs ≤ 1 then .next (s.onPorch fun p => { p with headers := vset p.headers port (some ⟨vc, dt, wc⟩) })
  else .next (porchLog (s.onPorch fun p => { p with headers := vset p.headers port none }) (s.porch.csi.get port).wing 0x0D07)

/-- The packet of the header on a port is taken, and with it the stream that captures its virtual channel. -/
def takeHeader (s : State) (port : Fin 2) (p : CsiHeader → Bool) : Option (CsiHeader × Fin 16 × State) :=
  match s.porch.headers.get port with
  | none => none
  | some h =>
    if !p h then none
    else (csiStream s port h.vc).map fun k => (h, k, s.onPorch fun q => { q with headers := vset q.headers port none })

/-- FRAME_START: a Frame Start short packet. A frame still in progress lacks its Frame End and is discarded; DECIM keeps one
frame in 2^DECIM (R507, R531). -/
def execFrameStart (port : Fin 2) (s : State) : Res :=
  match takeHeader s port fun h => h.dt == 0 with
  | none => .next s
  | some (_, k, s1) =>
    let s2 := if (s.porch.streams.get k).capture.isSome then discardFrame s1 k else s1
    let x := s2.porch.streams.get k
    if x.starts % 2 ^ srDecim x.record = 0 then .next (startFrame s2 k)
    else .next (s2.onPStream k fun x => { x with starts := x.starts + 1, lines := 0 })

/-- CSI_LINE: a long packet with its payload and whether its CRC is good. Line Start and Line End packets and other data
types are ignored; before the Frame Start everything is discarded (R506, R507, R514). -/
def execCsiLine (port : Fin 2) (bs : List Byte) (crcOk : Bool) (s : State) : Res :=
  match takeHeader s port fun h => decide (2 ≤ h.dt.toNat) with
  | none => .next s
  | some (h, k, s1) =>
    let x := s1.porch.streams.get k
    match x.capture with
    | none => .next s1
    | some c =>
      if h.dt.toNat ≠ srDt x.record then .next s1
      else
        let ok := crcOk && h.wc.toNat == lineWire x.record && bs.length == lineWire x.record
        let s2 := if ok ∧ c.count < srHeight x.record then
            landBytes s1 k (c.count * lineStored x.record) (unpackLine (srDt x.record) bs) else s1
        .next (s2.onPStream k fun x =>
          { x with capture := some { c with count := c.count + 1, bad := c.bad || !ok }, lines := c.count + 1 })

/-- FRAME_END: the frame is kept, or discarded for a CRC error, a wrong line length or a line count other than HEIGHT
(R507). -/
def execFrameEnd (port : Fin 2) (s : State) : Res :=
  match takeHeader s port fun h => h.dt == 1 with
  | none => .next s
  | some (_, k, s1) =>
    let x := s1.porch.streams.get k
    match x.capture with
    | none => .next s1
    | some c => if c.bad ∨ c.count ≠ srHeight x.record then .next (discardFrame s1 k) else .next (landFrame s1 k)

/-- The samples of a stream's slots as stored: ascending slots, sign-extended (R514). -/
def slotBytes (r : List Byte) (slots : List W32) : List Byte :=
  ((onesOf (BitVec.ofNat 16 (srMask r))).map fun i =>
    let n := srSampleBits r
    let v := ((slots.getD i.1 0).toNat : Int)
    let m : Int := v % 2 ^ n
    let x : Int := if m < 2 ^ (n - 1) then m else m - 2 ^ n
    leBytes (sampleBytes r) (x % 2 ^ (8 * sampleBytes r)).toNat).flatten

/-- One stream takes the samples of a frame sync (R514). -/
def tdmSample (s : State) (slots : List W32) (k : Fin 16) : State :=
  let s1 := if (s.porch.streams.get k).capture.isNone then startFrame s k else s
  let x := s1.porch.streams.get k
  match x.capture with
  | none => s1
  | some c =>
    let bs := slotBytes x.record slots
    let s2 := (landBytes s1 k (c.count * bs.length) bs).onPStream k fun x =>
      { x with capture := some { c with count := c.count + 1 }, samples := x.samples + 1 }
    if srSamples x.record ≤ c.count + 1 then landFrame s2 k else s2

/-- TDM_FS: every running stream of the port takes one sample of each of its slots. `slots` holds the sample that each slot
carries, SAMPLE_BITS wide (R514). -/
def execTdmFs (port : Fin 4) (slots : List W32) (s : State) : Res :=
  .next ((List.finRange 16).foldl (fun s k =>
    let x := s.porch.streams.get k
    if x.st = .running ∧ x.kind = 2 ∧ srPort x.record = port.1 then tdmSample s slots k else s) s)

/-- SENSOR_PERIOD: at a multiple of PERIOD phase ticks the stream starts its transaction (R514). -/
def execSensorPeriod (k : Fin 16) (s : State) : Res :=
  let x := s.porch.streams.get k
  if x.st = .running ∧ (x.kind = 3 ∨ x.kind = 4) ∧ x.capture = none ∧ phaseRuns s = true ∧
      s.phase.time.toNat % max 1 (srPeriod x.record) = 0 then .next (startFrame s k)
  else .next s

/-- SENSOR_TRANSACTION_DONE: the bytes read land as a frame, or a NACK or lost arbitration discards it (R514). -/
def execSensorTransactionDone (k : Fin 16) (rd : List Byte) (ok : Bool) (s : State) : Res :=
  let x := s.porch.streams.get k
  if x.st = .running ∧ (x.kind = 3 ∨ x.kind = 4) ∧ x.capture.isSome = true then
    if ok then .next (landFrame (landBytes s k 0 ((rd ++ List.replicate 64 0).take (srRdLen x.record))) k)
    else .next (discardFrame s k)
  else .next s

end Sys2Proof.Machine
end

