-- ==== Sys2Proof/Machine/PorchEngine.lean ====
section
/-!
DEFINITION. Machine/PorchEngine.lean: the Porch engine with its native lists (R516-R521, R534) and the Parlour (R523-R529,
R535).
-/
namespace Sys2Proof.Machine
open Sys2Proof

/-! ### Arithmetic on C16 and C8 maps (R519-R521, R525) -/

/-- Position of channel `c` at (y, x) of an H × W map with units of `u` bytes (R519, R525). -/
def mapAt (u h w base y x c : Nat) : Nat := base + (c / u * (h * w) + y * w + x) * u + c % u

/-- Bytes of a map. -/
def mapBytes (u h w c : Nat) : Nat := (c + u - 1) / u * (h * w) * u

/-- An output dimension (R521). -/
def outDim (pad : Bool) (n k st : Nat) : Nat := if pad then (n + st - 1) / st else if n < k then 0 else (n - k) / st + 1

/-- Rows or columns of padding before the map: half of what the outputs need (R521). -/
def padLead (pad : Bool) (n k st : Nat) : Nat :=
  if pad then
    let total := (outDim true n k st - 1) * st + k - n
    total / 2 + (if total % 2 = 1 ∧ Config.padBefore = true then 1 else 0)
  else 0

/-- An operator's geometry and its conversion to int8. -/
structure OpShape where
  /-- bytes of a unit: 16 for C16, 8 for C8 -/
  u : Nat
  h : Nat
  w : Nat
  cin : Nat
  cout : Nat
  kh : Nat
  kw : Nat
  sy : Nat
  sx : Nat
  pad : Bool
  relu : Bool
  dw : Bool
  avg : Bool
  mult : Nat
  shift : Nat
  deriving DecidableEq, Repr

/-- The operands' addresses. -/
structure OpAddr where
  inp : Nat
  wt : Nat
  bias : Nat
  out : Nat
  deriving DecidableEq, Repr

def OpShape.ho (g : OpShape) : Nat := outDim g.pad g.h g.kh g.sy
def OpShape.wo (g : OpShape) : Nat := outDim g.pad g.w g.kw g.sx
/-- Channels of the output. -/
def OpShape.co (g : OpShape) : Nat := if g.dw then g.cin else g.cout
/-- Input channels of one output channel's weights, as stored. -/
def OpShape.ci (g : OpShape) : Nat := (g.cin + g.u - 1) / g.u * g.u

def sat8 (v : Int) : Int := max (-128) (min 127 v)
def relu8 (on : Bool) (v : Int) : Int := if on then max 0 v else v
def byteOf (v : Int) : Byte := BitVec.ofInt 8 v

/-- v ÷ n with halves toward +∞. -/
def roundUpHalf (v : Int) (n : Nat) : Int := (2 * v + n) / (2 * n)

/-- A sum fits int32. -/
def fits32 (v : Int) : Bool := decide (-(2 : Int) ^ 31 ≤ v ∧ v < 2 ^ 31)

/-- Conversion of an accumulator to int8 (R520); the result for a sum outside int32 is a free value. -/
def convert8 (g : OpShape) (acc bias : Int) : Int :=
  if fits32 acc && fits32 (acc + bias) then relu8 g.relu (sat8 (roundUpHalf ((acc + bias) * g.mult) (2 ^ g.shift)))
  else (BitVec.ofNat 8 (Config.openFn 0x520 (BitVec.ofInt 32 (acc + bias)).toNat).toNat).toInt

/-- An element of the input map; a padded position reads 0 (R520). -/
def inputAt (g : OpShape) (rd : Nat → Byte) (base : Nat) (oy ox ky kx c : Nat) : Int :=
  let y := oy * g.sy + ky
  let x := ox * g.sx + kx
  let py := padLead g.pad g.h g.kh g.sy
  let px := padLead g.pad g.w g.kw g.sx
  if y < py ∨ g.h + py ≤ y ∨ x < px ∨ g.w + px ≤ x then 0
  else (rd (mapAt g.u g.h g.w base (y - py) (x - px) c)).toInt

/-- The taps of a kernel, row by row. -/
def taps (g : OpShape) : List (Nat × Nat) :=
  ((List.range g.kh).map fun ky => (List.range g.kw).map fun kx => (ky, kx)).flatten

def sumInt (l : List Int) : Int := l.foldl (· + ·) 0

/-- One output of CONV, with or without DW (R519, R520). -/
def convAt (g : OpShape) (a : OpAddr) (rd : Nat → Byte) (oy ox o : Nat) : Int :=
  let acc := sumInt ((taps g).map fun t =>
    if g.dw then
      inputAt g rd a.inp oy ox t.1 t.2 o * (rd (a.wt + (o * g.kh + t.1) * g.kw + t.2)).toInt
    else
      sumInt ((List.range g.cin).map fun i =>
        inputAt g rd a.inp oy ox t.1 t.2 i * (rd (a.wt + ((o * g.kh + t.1) * g.kw + t.2) * g.ci + i)).toInt))
  convert8 g acc (BitVec.ofNat 32 (leNat ((List.range 4).map fun j => rd (a.bias + 4 * o + j)))).toInt

/-- One output of POOL: the largest element or the mean with halves toward +∞ (R520). -/
def poolAt (g : OpShape) (a : OpAddr) (rd : Nat → Byte) (oy ox c : Nat) : Int :=
  let vs := (taps g).map fun t => inputAt g rd a.inp oy ox t.1 t.2 c
  relu8 g.relu (if g.avg then roundUpHalf (sumInt vs) (max 1 vs.length) else (vs.drop 1).foldl max (vs.headD 0))

/-- One output of ADD (R534). -/
def addAt (g : OpShape) (a : OpAddr) (rd : Nat → Byte) (y x c : Nat) : Int :=
  relu8 g.relu (sat8 ((rd (mapAt g.u g.h g.w a.inp y x c)).toInt + (rd (mapAt g.u g.h g.w a.wt y x c)).toInt))

/-- The bytes of an output map; channels at or above its count are zero (R519). -/
def outMap (u ho wo co : Nat) (f : Nat → Nat → Nat → Int) : List Byte :=
  ((List.range ((co + u - 1) / u)).map fun b => ((List.range ho).map fun y => ((List.range wo).map fun x =>
    (List.range u).map fun j => if b * u + j < co then byteOf (f y x (b * u + j)) else 0).flatten).flatten).flatten

/-- The index of the largest of the int8 values and that value, the lowest on a tie (R12, R529). -/
def argMax8 (bs : List Byte) : Nat × Int :=
  ((List.range bs.length).zip (bs.map (·.toInt))).foldl (fun m p => if m.2 < p.2 then p else m) (0, (bs.headD 0).toInt)

/-- The operand ranges of a CONV or an FC: first byte and length. -/
def convRanges (g : OpShape) (a : OpAddr) : List (Nat × Nat) :=
  [(a.inp, mapBytes g.u g.h g.w g.cin), (a.wt, if g.dw then g.cin * g.kh * g.kw else g.cout * g.kh * g.kw * g.ci),
   (a.bias, 4 * g.co), (a.out, mapBytes g.u g.ho g.wo g.co)]

/-- The operand ranges of a POOL. -/
def poolRanges (g : OpShape) (a : OpAddr) : List (Nat × Nat) :=
  [(a.inp, mapBytes g.u g.h g.w g.cin), (a.out, mapBytes g.u g.ho g.wo g.cin)]

/-! ### The engine (R520) -/

/-- The list whose command is on the engine or comes next: of the ready ones, the one whose wait ended earliest. -/
def engineTake (s : State) : Option (EngineBy × State) :=
  match s.porch.running with
  | some e => some (e, s)
  | none => match s.porch.queue with
    | [] => none
    | e :: q => some (e, s.onPorch fun p => { p with running := some e, queue := q })

/-- The engine is left to the next list. -/
def engineLeave (s : State) : State := s.onPorch fun p => { p with running := none }

/-! ### Native commands (R534) -/

/-- A native command in its fields. -/
structure NCmd where
  op : Nat
  flags : Nat
  kern : Nat
  stride : Nat
  a : Nat
  wt : Nat
  bias : Nat
  out : Nat
  h : Nat
  w : Nat
  cin : Nat
  cout : Nat
  mult : Nat
  shift : Nat
  last : Nat
  deriving DecidableEq, Repr

def NCmd.of (bs : List Byte) : NCmd :=
  { op := fieldAt bs 0 1, flags := fieldAt bs 1 1, kern := fieldAt bs 2 1, stride := fieldAt bs 3 1, a := fieldAt bs 4 4,
    wt := fieldAt bs 8 4, bias := fieldAt bs 12 4, out := fieldAt bs 16 4, h := fieldAt bs 20 2, w := fieldAt bs 22 2,
    cin := fieldAt bs 24 2, cout := fieldAt bs 26 2, mult := fieldAt bs 28 2, shift := fieldAt bs 30 1, last := fieldAt bs 31 1 }

/-- The command is no command fault (R520, R534). -/
def NCmd.ok (c : NCmd) : Bool :=
  [1, 2, 3, 4, 5, 6, 7, 8, 9, 10, 15].contains c.op &&
    decide (c.flags < 32 ∧ c.kern / 16 ≤ 6 ∧ c.kern % 16 ≤ 6 ∧ c.stride / 16 ≤ 1 ∧ c.stride % 16 ≤ 1 ∧ c.shift ≤ 47 ∧ c.last = 0) &&
    (decide (2 < c.op) || decide (0 < c.mult)) && (c.op != 5 || decide (1 ≤ c.cout ∧ c.cout ≤ 64 ∧ 1 ≤ c.h)) &&
    (c.op != 9 || c.a % 32 == 0)

/-- Geometry of a native command. -/
def NCmd.shape (c : NCmd) : OpShape :=
  { u := 16, h := c.h, w := c.w, cin := c.cin, cout := c.cout, kh := c.kern / 16 + 1, kw := c.kern % 16 + 1,
    sy := c.stride / 16 + 1, sx := c.stride % 16 + 1, pad := bitOf c.flags 2, relu := bitOf c.flags 0,
    dw := bitOf c.flags 1, avg := bitOf c.flags 3, mult := c.mult, shift := c.shift }

def NCmd.addr (c : NCmd) : OpAddr := { inp := c.a, wt := c.wt, bias := c.bias, out := c.out }

/-- Every operand range lies in pages that the wing holds. -/
def rangesHeld (s : State) (w : WingId) (l : List (Nat × Nat)) : Bool := l.all fun r => r.2 == 0 || holdsPages s w r.1 r.2

/-- A native row: it performs the command of the list on the engine when that is of its OP; a fetch outside the wing's pages
stops the stream with 0x0102, a command fault with 0x0D08 (R520). -/
def nativeRow (op : Nat) (f : NCmd → Fin 16 → State → State) (s : State) : Res :=
  match engineTake s with
  | some (.stream k, s1) =>
    let x := s1.porch.streams.get k
    if x.issued || !(x.st == .running && x.listOn) then .next s
    else if !holdsPages s1 x.owner x.pc 32 then .next (stopStream s1 k 0x0102)
    else
      let c := NCmd.of (zread s1.porch.sram x.pc 32)
      if !c.ok then .next (stopStream s1 k 0x0D08)
      else if c.op ≠ op then .next s
      else .next (f c k s1)
  | _ => .next s

/-- The engine has the command; the list goes on at `pc` when it is done. -/
def issueAt (s : State) (k : Fin 16) (pc : Nat) : State := s.onPStream k fun x => { x with issued := true, pc := pc }

/-- The command of a stream is performed when its operands lie in the wing's pages, else the stream stops with 0x0102. -/
def perform (s : State) (k : Fin 16) (ranges : List (Nat × Nat)) (f : State → State) : State :=
  let x := s.porch.streams.get k
  if rangesHeld s x.owner ranges then issueAt (f s) k (x.pc + 32) else stopStream s k 0x0102

/-- Bytes stored in Porch SRAM. -/
def putSram (s : State) (a : Nat) (bs : List Byte) : State := s.onPorch fun p => { p with sram := zwrite p.sram a bs }

/-- An output map computed from the memory before the command is stored. -/
def storeMap (g : OpShape) (co : Nat) (out : Nat) (f : (Nat → Byte) → Nat → Nat → Nat → Int) (s : State) : State :=
  putSram s out (outMap g.u g.ho g.wo co (f fun a => zget s.porch.sram a))

/-- CONV (R534). -/
def execPorchConv (s : State) : Res :=
  nativeRow 1 (fun c k s =>
    let g := c.shape
    perform s k (convRanges g c.addr) (storeMap g g.co c.out (convAt g c.addr))) s

/-- FC: a convolution of a 1 × 1 map (R534). -/
def execFc (s : State) : Res :=
  nativeRow 2 (fun c k s =>
    let g := { c.shape with h := 1, w := 1, kh := 1, kw := 1, sy := 1, sx := 1, pad := false, dw := false }
    perform s k (convRanges g c.addr) (storeMap g g.co c.out (convAt g c.addr))) s

/-- POOL; GLOBAL takes all of H × W (R534). -/
def execPool (s : State) : Res :=
  nativeRow 3 (fun c k s =>
    let g := if bitOf c.flags 4 then { c.shape with kh := c.h, kw := c.w, sy := 1, sx := 1, pad := false } else c.shape
    perform s k (poolRanges g c.addr) (storeMap g g.cin c.out (poolAt g c.addr))) s

/-- ADD, saturating, of IN and WT (R534). -/
def execPorchAdd (s : State) : Res :=
  nativeRow 4 (fun c k s =>
    let g := { c.shape with kh := 1, kw := 1, sy := 1, sx := 1, pad := false }
    let n := mapBytes 16 c.h c.w c.cin
    perform s k [(c.a, n), (c.wt, n), (c.out, n)] (storeMap g g.cin c.out (addAt g c.addr))) s

/-- Address of the sample that lies `i` samples back from the newest, counted from 1, in a TDM stream's ring. -/
def sampleBack (x : PStream) (i : Nat) : Nat :=
  let n := popCount (BitVec.ofNat 16 (srMask x.record)) * sampleBytes x.record
  let c := (x.capture.map (·.count)).getD 0
  let m := max 1 (srSamples x.record)
  let nb := max 1 (srNbuf x.record)
  if i ≤ c then bufferAt x.record x.nextBuf + (c - i) * n
  else
    let j := i - c - 1
    bufferAt x.record ((x.nextBuf + nb * (j / m + 1) - (j / m + 1)) % nb) + (m - 1 - j % m) * n

/-- The latest 512 samples of a stream's own ring, oldest first (R534). -/
def latest512 (s : State) (x : PStream) : List Byte :=
  if x.kind = 2 then
    ((List.range 512).map fun i =>
      zread s.porch.sram (sampleBack x (512 - i)) (popCount (BitVec.ofNat 16 (srMask x.record)) * sampleBytes x.record)).flatten
  else []

/-- MEL: COUT bands as the unit at position H - 1 of an H × 1 map at OUT; each band is a free value (R534). -/
def execMel (s : State) : Res :=
  nativeRow 5 (fun c k s =>
    perform s k [(c.out, mapBytes 16 c.h 1 c.cout)] fun s =>
      let x := s.porch.streams.get k
      let smp := latest512 s x
      (List.range ((c.cout + 15) / 16)).foldl (fun s b =>
        putSram s (mapAt 16 c.h 1 c.out (c.h - 1) 0 (16 * b))
          ((List.range 16).map fun j =>
            if 16 * b + j < c.cout then Config.melBand smp (srFsHz x.record) c.cout (16 * b + j) else 0)) s) s

/-- WAITSRC: the list leaves the engine and waits for its source (R516). -/
def execWaitsrc (s : State) : Res :=
  nativeRow 6 (fun c k s =>
    (engineLeave s).onPStream k fun x =>
      { x with wait := match x.kind with
          | 1 => .line (if x.capture.isSome ∧ x.lines ≤ c.a then x.starts else x.starts + 1) c.a
          | 2 => .sample (x.sampleMark + c.a)
          | _ => .frame (x.frameMark + c.a) }) s

/-- A list's wait is over: it is ready behind the lists whose waits ended earlier (R520). -/
def wakeStream (s : State) (k : Fin 16) : State :=
  (s.onPStream k fun x => { x with wait := .none, pc := x.pc + 32, waitStamp := s.phase.time }).onPorch fun p =>
    { p with queue := p.queue ++ [.stream k] }

/-- What a WAITSRC finds: nothing yet, its target, or its target overwritten by so many frames (R516, R517). -/
inductive SrcSt where
  | notYet | here | lost (frames : Nat)
  deriving DecidableEq, Repr

/-- The awaited position against the capture. -/
def srcState (x : PStream) : SrcSt :=
  match x.wait with
  | .line st n => if st ≤ x.starts ∧ n < x.lines then .here else .notYet
  | .sample t =>
    if x.samples.toNat < t then .notYet
    else if (srNbuf x.record - 1) * srSamples x.record < x.samples.toNat - t then
      .lost ((x.samples.toNat - t) / max 1 (srSamples x.record))
    else .here
  | .frame t =>
    if x.frames.toNat < t then .notYet
    else if srNbuf x.record - 1 < x.frames.toNat - t then .lost (x.frames.toNat - t)
    else .here
  | _ => .notYet

/-- The marks after a wait has completed: at the target, or at the newest position when the data was overwritten. -/
def moveMarks (x : PStream) (lost : Bool) : PStream :=
  match x.wait with
  | .sample t => { x with sampleMark := if lost then x.samples.toNat else t }
  | .frame t => { x with frameMark := if lost then x.frames.toNat else t }
  | _ => x

/-- WAITSRC_DONE: the awaited position has landed (R516), or has been overwritten: DROPPED and 0x0D05 (R517). -/
def execWaitsrcDone (k : Fin 16) (s : State) : Res :=
  let x := s.porch.streams.get k
  if x.st ≠ .running then .next s
  else match srcState x with
    | .notYet => .next s
    | .here => .next (wakeStream (s.onPStream k fun x => moveMarks x false) k)
    | .lost n =>
      .next (streamNote (wakeStream (s.onPStream k fun x => { moveMarks x true with dropped := satAdd x.dropped n }) k) k 0x0D05)

/-- COPY of LEN bytes, overlap-safe (R534). -/
def execPorchCopy (s : State) : Res :=
  nativeRow 7 (fun c k s =>
    perform s k [(c.a, c.wt), (c.out, c.wt)] fun s => putSram s c.out (zread s.porch.sram c.a c.wt)) s

/-- RESULT over CIN values at IN; over none, class and score are free values (R522, R534). -/
def execResult (s : State) : Res :=
  nativeRow 8 (fun c k s =>
    perform s k [(c.a, c.cin)] fun s =>
      let m : Nat × Int := if c.cin = 0 then ((Config.free64 s.free).toNat % 65536, ((Config.free64 s.free).toNat / 65536 : Nat))
        else argMax8 (zread s.porch.sram c.a c.cin)
      let s1 := (if c.cin = 0 then s.draw else s).onPStream k fun x => { x with hops := x.hops + 1 }
      let x := s1.porch.streams.get k
      deliverResult s1 k m.1 (BitVec.ofInt 32 m.2) x.waitStamp x.hops (x.hops % max 1 (srNbuf x.record))) s

/-- JMP to the list offset TARGET (R534). -/
def execPorchJmp (s : State) : Res := nativeRow 9 (fun c k s => issueAt s k c.a) s

/-- WAITPH: the list waits for its phase mark + DELTA, which becomes the mark (R516, R386). -/
def execPorchWaitph (s : State) : Res :=
  nativeRow 10 (fun c k s =>
    (engineLeave s).onPStream k fun x =>
      { x with wait := .phase (x.phaseMark + BitVec.ofNat 48 c.a), phaseMark := x.phaseMark + BitVec.ofNat 48 c.a }) s

/-- PORCH_WAITPH_DONE: phase time has reached the target (R185). -/
def execPorchWaitphDone (k : Fin 16) (s : State) : Res :=
  let x := s.porch.streams.get k
  match x.wait with
  | .phase t => if x.st = .running ∧ reached s.phase.time t = true then .next (wakeStream s k) else .next s
  | _ => .next s

/-- END: the list ends; capture goes on (R534). -/
def execPorchEnd (s : State) : Res :=
  nativeRow 15 (fun _ k s => (engineLeave s).onPStream k fun x => { x with listOn := false }) s

/-! ### The Parlour (R523-R529, R535) -/

/-- Words of a Parlour command; 0 for an undefined OP (R535). -/
def parWords (op : Nat) : Nat :=
  match op with
  | 0 => 1 | 1 => 8 | 2 => 7 | 3 => 5 | 4 => 3 | 5 => 2 | 6 => 3 | 7 => 2 | 8 => 2 | 9 => 3 | 15 => 1 | _ => 0

/-- Big-endian word `i` of a fetched command (R524). -/
def ParFetch.word (f : ParFetch) (i : Nat) : Nat := (f.bytes.getD (2 * i) 0).toNat * 256 + (f.bytes.getD (2 * i + 1) 0).toNat

def ParFetch.op (f : ParFetch) : Nat := f.word 0 / 4096

/-- A fetch from the window (R527). -/
def parFetch (s : State) (base : Byte) (a : Nat) : ParFetch :=
  ⟨a, zread s.porch.sram (base.toNat * 65536 + a) (min 16 (65536 - a))⟩

/-- The counter of a LOOP after its decrement: it is loaded with COUNT on the first execution (R535). -/
def loopAfter (p : Parlour) (f : ParFetch) : Nat := (if p.loop = 0 then f.word 0 % 4096 else p.loop.toNat) - 1

/-- The address of the command after one: the target of a JMP or of a taken LOOP, else the following command (R527). -/
def parNextPc (p : Parlour) (f : ParFetch) : Nat :=
  if f.op = 7 then f.word 1
  else if f.op = 8 ∧ loopAfter p f ≠ 0 then f.word 1
  else f.at_ + 2 * max 1 (parWords f.op)

/-- The Parlour goes on to its next command and fetches the one after it (R527). -/
def parAdvance (s : State) : State :=
  s.onPorch fun p =>
    let q := p.parlour
    { p with parlour := { q with cur := q.next, next := parFetch s q.base (parNextPc q q.next) } }

/-- A Parlour context is changed. -/
def State.onParlour (s : State) (f : Parlour → Parlour) : State := s.onPorch fun p => { p with parlour := f p.parlour }

/-- The Parlour becomes STOPPED with a condition (R524, R528, R518). -/
def stopParlour (s : State) (c : Cond) : State :=
  porchLog ((s.onParlour fun p => { p with st := .stopped, cond := c, listOn := false, issued := false, wait := .none }).onPorch
    fun p => dropList p .parlour) s.porch.parlour.owner c

/-- Word 0 and the field words of a command are free of reserved bits and in range (R528, R535). -/
def parFieldsOk (p : Parlour) (f : ParFetch) : Bool :=
  let w := f.word 0 % 4096
  match f.op with
  | 1 => decide (bitsOf w 11 9 ≤ 4 ∧ bitsOf w 8 6 ≤ 4 ∧ bitsOf w 5 4 ≤ 1 ∧ w % 2 = 0) && qshOk (f.word 7) &&
      (!bitOf w 1 || f.word 6 / 256 == f.word 6 % 256)
  | 2 => (w == 0 || w == 4) && qshOk (f.word 6)
  | 3 => decide (bitsOf w 11 9 ≤ 4 ∧ bitsOf w 5 4 ≤ 1 ∧ bitsOf w 8 6 = 0 ∧ bitsOf w 2 0 = 0 ∧ f.word 4 % 256 = 0)
  | 4 => w == 0 && decide (1 ≤ f.word 2 ∧ f.word 2 ≤ 255)
  | 6 => w == 0 && f.word 1 % 2 == 0
  | 7 => w == 0 && f.word 1 % 2 == 0
  | 8 => decide (1 ≤ w) && f.word 1 % 2 == 0 && (p.loop == 0 || p.loopAt == f.at_)
  | 0 | 15 => w == 0
  | _ => true
where
  qshOk (q : Nat) : Bool := decide (1 ≤ q / 256 ∧ bitsOf q 7 5 = 0)

/-- A Parlour row: it performs the Parlour's command when that is of its OP; a command beyond the window stops the context
with 0x0D0A, a command fault with 0x0D09 (R524, R528). -/
def parRow (op : Nat) (f : ParFetch → Parlour → State → State) (s : State) : Res :=
  match engineTake s with
  | some (.parlour, s1) =>
    let p := s1.porch.parlour
    if p.issued || p.st != .running then .next s
    else if p.cur.bytes.length < 2 then .next (stopParlour s1 0x0D0A)
    else if parWords p.cur.op = 0 ∨ p.cur.at_ % 2 = 1 then .next (stopParlour s1 0x0D09)
    else if p.cur.op ≠ op then .next s
    else if p.cur.bytes.length < 2 * parWords op then .next (stopParlour s1 0x0D0A)
    else if !parFieldsOk p p.cur then .next (stopParlour s1 0x0D09)
    else .next (f p.cur p s1)
  | _ => .next s

/-- The engine has the Parlour's command. -/
def parIssue (s : State) : State := s.onParlour fun p => { p with issued := true }

/-- The command is performed when its operands end inside the window, else 0x0D0A (R524). -/
def parPerform (s : State) (ranges : List (Nat × Nat)) (f : State → State) : State :=
  if ranges.all fun r => decide (r.1 + r.2 ≤ 65536) then parIssue (f s) else stopParlour s 0x0D0A

/-- An output map computed from the window before the command is stored in it (R525). -/
def parMap (p : Parlour) (g : OpShape) (co out : Nat) (f : (Nat → Byte) → Nat → Nat → Nat → Int) (s : State) : State :=
  let b := p.base.toNat * 65536
  putSram s (b + out) (outMap g.u g.ho g.wo co (f fun a => zget s.porch.sram (b + a)))

/-- NOP. -/
def execParlourNop (s : State) : Res := parRow 0 (fun _ _ s => parIssue s) s

/-- CONV on C8 maps (R525, R535). -/
def execParlourConv (s : State) : Res :=
  parRow 1 (fun f p s =>
    let w := f.word 0
    let st := bitsOf w 5 4 + 1
    let g : OpShape :=
      { u := 8, h := f.word 5 / 256, w := f.word 5 % 256, cin := 8 * (f.word 6 / 256), cout := 8 * (f.word 6 % 256),
        kh := bitsOf w 11 9 + 1, kw := bitsOf w 8 6 + 1, sy := st, sx := st, pad := bitOf w 3, relu := bitOf w 2,
        dw := bitOf w 1, avg := false, mult := f.word 7 / 256, shift := bitsOf (f.word 7) 4 0 }
    let a : OpAddr := ⟨f.word 1, f.word 2, f.word 3, f.word 4⟩
    parPerform s (convRanges g a) (parMap p g g.co a.out (convAt g a))) s

/-- FC (R535). -/
def execParlourFc (s : State) : Res :=
  parRow 2 (fun f p s =>
    let g : OpShape :=
      { u := 8, h := 1, w := 1, cin := 8 * (f.word 5 / 256), cout := 8 * (f.word 5 % 256), kh := 1, kw := 1, sy := 1, sx := 1,
        pad := false, relu := bitOf (f.word 0) 2, dw := false, avg := false, mult := f.word 6 / 256,
        shift := bitsOf (f.word 6) 4 0 }
    let a : OpAddr := ⟨f.word 1, f.word 2, f.word 3, f.word 4⟩
    parPerform s (convRanges g a) (parMap p g g.co a.out (convAt g a))) s

/-- POOL (R535). -/
def execParlourPool (s : State) : Res :=
  parRow 3 (fun f p s =>
    let w := f.word 0
    let k := bitsOf w 11 9 + 1
    let st := bitsOf w 5 4 + 1
    let c := 8 * (f.word 4 / 256)
    let g : OpShape :=
      { u := 8, h := f.word 3 / 256, w := f.word 3 % 256, cin := c, cout := c, kh := k, kw := k, sy := st, sx := st, pad := false,
        relu := false, dw := false, avg := bitOf w 3, mult := 1, shift := 0 }
    let a : OpAddr := ⟨f.word 1, 0, 0, f.word 2⟩
    parPerform s (poolRanges g a) (parMap p g c a.out (poolAt g a))) s

/-- The Parlour's result record goes into its ring, or is lost with 0x0D05 (R522, R529). -/
def parDeliver (s : State) (cls : Nat) (score : Int) : State :=
  let p := s.porch.parlour
  if 2 ^ p.ringLog ≤ p.unreleased then
    porchLog (s.onParlour fun p => { p with cond := 0x0D05 }) p.owner 0x0D05
  else
    let nx := nextSlot p.resTail p.resPhase p.ringLog
    let bs := resultRecord 0x10 0 cls (BitVec.ofInt 32 score) p.waitStamp p.hops p.buffer 0 p.resPhase
    postWrite (s.onParlour fun p => { p with resTail := nx.1, resPhase := nx.2, unreleased := p.unreleased + 1 }) p.owner
      (p.ringAddr + 32 * p.resTail.toNat) bs

/-- RESULT: CLASS, SCORE and RDY of PORCH_PAR_RESULT, and a result record (R529). -/
def execParlourResult (s : State) : Res :=
  parRow 4 (fun f p s =>
    parPerform s [(f.word 1, f.word 2)] fun s =>
      let m := argMax8 (zread s.porch.sram (p.base.toNat * 65536 + f.word 1) (f.word 2))
      parDeliver (s.onParlour fun p =>
        { p with rdy := true, cls := BitVec.ofNat 16 m.1, score := byteOf m.2, hops := p.hops + 1 }) m.1 m.2) s

/-- A YS2 tick count in phase ticks (R526). -/
def ys2Ticks (n mhz : Nat) : Nat := if n = 0 then 0 else max 1 ((n * mhz + 250) / 500)

/-- WAIT: the Parlour waits for its mark + the converted count, which becomes the mark (R526). -/
def execWait (s : State) : Res :=
  parRow 5 (fun f p s =>
    let t := p.mark + BitVec.ofNat 48 (ys2Ticks (f.word 0 % 4096 * 65536 + f.word 1) s.phase.mainsMhz.toNat)
    (engineLeave s).onParlour fun p => { p with st := .waiting, wait := .phase t, mark := t }) s

/-- The Parlour's wait is over. -/
def wakeParlour (s : State) (stamp : W48) : State :=
  (parAdvance (s.onParlour fun p => { p with st := .running, wait := .none, waitStamp := stamp })).onPorch fun p =>
    { p with queue := p.queue ++ [.parlour] }

/-- PARLOUR_WAIT_DONE: phase time has reached the WAIT's target. -/
def execParlourWaitDone (s : State) : Res :=
  match s.porch.parlour.wait with
  | .phase t =>
    if s.porch.parlour.st = .waiting ∧ reached s.phase.time t = true then .next (wakeParlour s s.phase.time) else .next s
  | _ => .next s

/-- WRW: a big-endian word is written into the window (R524, R527). -/
def execWrw (s : State) : Res :=
  parRow 6 (fun f p s =>
    parPerform s [(f.word 1, 2)] fun s =>
      putSram s (p.base.toNat * 65536 + f.word 1) [BitVec.ofNat 8 (f.word 2 / 256), BitVec.ofNat 8 (f.word 2)]) s

/-- JMP: the next command is the one at ADDR. -/
def execParlourJmp (s : State) : Res := parRow 7 (fun _ _ s => parIssue s) s

/-- LOOP: the counter, loaded with COUNT on the first execution, is decremented; while it stays nonzero the next command is the
one at ADDR (R535). -/
def execParlourLoop (s : State) : Res :=
  parRow 8 (fun f p s => parIssue (s.onParlour fun q => { q with loop := BitVec.ofNat 16 (loopAfter p f), loopAt := f.at_ })) s

/-- The input stream, while the wing holds it. -/
def inputStream (s : State) : Option (Fin 16) :=
  s.porch.parlour.stream.filter fun k =>
    (s.porch.streams.get k).st != .free && (s.porch.streams.get k).owner == s.porch.parlour.owner

/-- The next unread frame is copied, at most LEN bytes of it, if there is one (R535). -/
def copyInput (s : State) (f : ParFetch) : Option State :=
  match inputStream s with
  | none => none
  | some k =>
    let x := s.porch.streams.get k
    match x.unread with
    | [] => none
    | u :: us =>
      let n := min (f.word 2) (min (frameBytes x.record) (srBufLen x.record))
      let bs := zread s.porch.sram (bufferAt x.record u.buffer) n
      some (((putSram s (s.porch.parlour.base.toNat * 65536 + f.word 1) bs).onPStream k fun x => { x with unread := us }).onParlour
        fun p => { p with buffer := u.buffer, waitStamp := u.stamp })

/-- INPUT: the next unread frame is copied, or the Parlour waits for one (R535). -/
def execInput (s : State) : Res :=
  parRow 9 (fun f _ s =>
    if 65536 < f.word 1 + f.word 2 then stopParlour s 0x0D0A
    else match copyInput s f with
      | some s1 => parIssue s1
      | none => (engineLeave s).onParlour fun p => { p with st := .waiting, wait := .input }) s

/-- INPUT_DONE: a frame has arrived for a waiting INPUT. -/
def execInputDone (s : State) : Res :=
  let p := s.porch.parlour
  if p.st = .waiting ∧ p.wait = .input then
    match copyInput s p.cur with
    | some s1 => .next (wakeParlour s1 s1.porch.parlour.waitStamp)
    | none => .next s
  else .next s

/-- END: the list ends and the context is CLAIMED. -/
def execParlourEnd (s : State) : Res :=
  parRow 15 (fun _ _ s => (engineLeave s).onParlour fun p => { p with st := .claimed, listOn := false }) s

/-- FRAME_TIMEOUT: the timeout of a WAITSRC, or of the Parlour's INPUT for `none`, expires before the awaited frame: STOPPED
with 0x0D06. A timeout of 0 never expires (R518). -/
def execFrameTimeout (k : Option (Fin 16)) (s : State) : Res :=
  match k with
  | some k =>
    let x := s.porch.streams.get k
    let src : Bool := match x.wait with | .line .. => true | .sample _ => true | .frame _ => true | _ => false
    if x.st = .running ∧ src = true ∧ srTimeout x.record ≠ 0 ∧ srcState x = .notYet then .next (stopStream s k 0x0D06)
    else .next s
  | none =>
    let p := s.porch.parlour
    if p.st = .waiting ∧ p.wait = .input ∧ p.cur.word 0 % 4096 ≠ 0 ∧ (copyInput s p.cur).isNone = true then
      .next (stopParlour s 0x0D06)
    else .next s

/-- ENGINE_COMMAND_DONE: the engine has finished its command; of the ready lists the one whose wait ended earliest issues its
next (R520). -/
def execEngineCommandDone (s : State) : Res :=
  let next (s : State) : State := match engineTake s with | some (_, s1) => s1 | none => s
  match s.porch.running with
  | some (.stream k) =>
    let x := s.porch.streams.get k
    if !x.issued then .next s
    else
      let s1 := engineLeave (s.onPStream k fun x => { x with issued := false })
      .next (next (if x.st = .running ∧ x.listOn = true then s1.onPorch fun p => { p with queue := .stream k :: p.queue } else s1))
  | some .parlour =>
    let p := s.porch.parlour
    if !p.issued then .next s
    else
      let s1 := engineLeave (parAdvance (s.onParlour fun p => { p with issued := false }))
      .next (next (if p.st = .running then s1.onPorch fun q => { q with queue := .parlour :: q.queue } else s1))
  | none => .next s

/-! ### Parlour requests (R523) -/

/-- CLAIM_PARLOUR. -/
def execClaimParlour (s : State) : Res :=
  requestRow 7 (fun w r s =>
    let base := fieldAt r 4 4
    let inp := fieldAt r 8 1
    let inOk : Bool := inp == 0xFF || (idx 16 inp).any fun k =>
      let x := s.porch.streams.get k
      x.st != .free && x.owner == w && srRaw x.record
    if !(ringFieldsOk r && (inp == 0xFF || decide (inp < 16))) then (0x0D01, 0, s)
    else if s.porch.parlour.st ≠ .free then (0x0D03, 0, s)
    else if base % 65536 ≠ 0 ∨ (!holdsPage s w (base / 65536)) = true then (0x0D0B, 0, s)
    else if !inOk then (0x0D04, 0, s)
    else if !wingRange s w (srRing r) (32 * 2 ^ srRingLog r) then (0x0102, 0, s)
    else
      let p : Parlour :=
        { freeParlour s.porch.parlour with
          st := .claimed, owner := w, base := BitVec.ofNat 8 (base / 65536),
          stream := if inp = 0xFF then none else idx 16 inp, ringAddr := srRing r, ringLog := srRingLog r }
      (0, 0, s.onParlour fun _ => p)) s

/-- The wing holds the Parlour context. -/
def ownsParlour (s : State) (w : WingId) : Bool := s.porch.parlour.st != .free && s.porch.parlour.owner == w

/-- RELEASE_PARLOUR. -/
def execReleaseParlour (s : State) : Res :=
  requestRow 8 (fun w _ s =>
    if !ownsParlour s w then (0x0102, 0, s)
    else (0, 0, (s.onParlour freeParlour).onPorch fun p => dropList p .parlour)) s

/-- The Parlour's list starts at an address: its mark is the phase time of the start (R526). -/
def startParlour (s : State) (p : Parlour) (a : Nat) : Parlour :=
  let q := { p with st := .running, cur := parFetch s p.base a, mark := s.phase.time, loop := 0, wait := .none,
                    waitStamp := s.phase.time, listOn := true, issued := false, held := false, hops := 0, buffer := 0,
                    resTail := 0, resPhase := true, unreleased := 0 }
  { q with next := parFetch s p.base (parNextPc q q.cur) }

/-- The Parlour runs. -/
def runParlour (s : State) (a : Nat) : State :=
  (s.onParlour fun p => startParlour s p a).onPorch fun p =>
    let q := dropList p .parlour
    { q with queue := q.queue ++ [.parlour] }

/-- PARLOUR_RUN: the list starts at an even address; an odd one is a command fault (R523, R528). The context follows the wing's
state as a stream does. -/
def execParlourRun (s : State) : Res :=
  requestRow 9 (fun w r s =>
    let a := fieldAt r 4 2
    if !ownsParlour s w then (0x0102, 0, s)
    else if s.porch.parlour.st ≠ .claimed ∧ s.porch.parlour.st ≠ .stopped then (0x0D04, 0, s)
    else if a % 2 = 1 then (0, 0, stopParlour s 0x0D09)
    else match (s.wing w).st with
      | .populate => (0, 0, s.onParlour fun p => { startParlour s p a with st := .claimed, held := true, listOn := false })
      | .freezing | .frozen =>
        if (s.wing w).recorded = .populate then
          (0, 0, s.onParlour fun p => { startParlour s p a with st := .claimed, held := true, listOn := false })
        else (0, 0, s.onParlour fun p => { startParlour s p a with st := .paused, before := .running })
      | _ => (0, 0, runParlour s a)) s

/-- PARLOUR_STOP: the list stops after its current command and the context is CLAIMED. -/
def execParlourStop (s : State) : Res :=
  requestRow 10 (fun w _ s =>
    if !ownsParlour s w then (0x0102, 0, s)
    else (0, 0, (s.onParlour fun p =>
      { p with st := .claimed, listOn := false, issued := false, held := false, wait := .none }).onPorch fun p =>
        dropList p .parlour)) s

/-- The wing enters RUN: its held streams and Parlour start (R513). -/
def runHeld (s : State) (w : WingId) : State :=
  let s1 := (List.finRange 16).foldl (fun s k =>
    let x := s.porch.streams.get k
    if x.owner = w ∧ x.st = .held then runStream s k else s) s
  if ownsParlour s1 w && s1.porch.parlour.held then runParlour s1 s1.porch.parlour.cur.at_ else s1

end Sys2Proof.Machine
end

