-- ==== Sys2Proof/Machine/Mladyx.lean ====
section
/-!
DEFINITION. Machine/Mladyx.lean: complete dictionary requests handled one at a time (R98, R101, R102): reads, writes with their
checks 10 to 12, the effects of the entries that have one of their own, writes kept in NOR (R69, R97, R581), and answers sent.
-/
namespace Sys2Proof.Machine
open Sys2Proof

/-! ### The request in turn (R102) -/

/-- The oldest complete request, when every answer queued before it arrived has been sent and no write is being made in NOR. -/
def frontRequest (s : State) : Option (Request × State) :=
  if !serverUp s || s.mgmt.norPending.isSome then none
  else match s.mgmt.ready with
    | (r, 0) :: rest => some (r, s.onMgmt fun m => { m with ready := rest })
    | _ => none

/-- The object and entry of a request. -/
def requestEntry (r : Request) : Option (ObjId × Entry) :=
  (objectOf r.obj).bind fun o => (o.entry r.mem.toNat).map fun e => (o, e)

/-- A request that was accepted is answered, while its transaction is still open. -/
def answerDone (s : State) (r : Request) (c : Cond) : State :=
  if s.mgmt.txns.any fun t => t.who == r.who && t.seq == r.seq then answerCond s r c else s

/-- The writes that have a command of their own. -/
inductive WriteRow where
  | create | destroy | run | freeze | thaw | houseFloor | deviceCap | socketBudget | keyInstall | keyRemove | provision
  | fwImage | debugUnlock | debugLock | alarmReset | levelMap | disturbLimit | imageCommit | imageErase | other
  deriving DecidableEq, Repr

/-- Which of them a write is. -/
def rowOf (r : Request) : WriteRow :=
  match objectOf r.obj, r.mem.toNat with
  | some .wings, 3 => .create
  | some .wings, 4 => .destroy
  | some .wings, 8 => .houseFloor
  | some (.wing0 _), 7 => match leNat r.value with | 1 => .run | 2 => .freeze | 3 => .thaw | _ => .other
  | some .fuse, 1 => .deviceCap
  | some .fuse, 3 => .socketBudget
  | some .cellar, 4 => .disturbLimit
  | some (.images _), 5 => .imageCommit
  | some (.images _), 6 => .imageErase
  | some .threshold, 2 => .provision
  | some .keys, 1 => .keyInstall
  | some .keys, 3 => .keyRemove
  | some .alarm, 1 => .alarmReset
  | some .alarm, 2 => .levelMap
  | some .debug, 1 => .debugUnlock
  | some .debug, 3 => .debugLock
  | some .firmware, 1 => .fwImage
  | _, _ => .other

/-- The wing of an instance. -/
def wingOf : ObjId → WingId
  | .wing0 w | .wing1 w | .fuseWing w | .images w => w
  | _ => 0

/-- The image that a commit or erase value names. -/
def imageOf (n : Nat) : Fin 32 := ⟨n % 32, by omega⟩

/-! ### The entry's own checks (check 12 of R101) -/

/-- CONTROL: the transitions of R40. -/
def controlCheck (s : State) (w : WingId) (row : WriteRow) : Cond :=
  let x := s.wing w
  let ok : Bool := match row with
    | .run => x.st == .populate && keyFilled s (larderSlot w) && keyFilled s (cellarSlot w)
    | .freeze => x.st == .run
    | .thaw => x.st == .frozen && (x.frozenBy == .host || s.thr.st != .locked)
    | _ => false
  if w ≠ 0 ∧ ok = true then 0 else 0x0101

/-- Check 12 of a write that has passed its range check; 0 when it is accepted. -/
def ownCheck (s : State) (r : Request) (o : ObjId) : Cond :=
  let n := leNat r.value
  match rowOf r with
  | .create => if s.sys.larderFailed then 0x0F04 else createCheck s r.value
  | .destroy => match idx 16 n with
    | some w => if (s.wing w).st = .free ∨ (s.wing w).st = .clearing then 0x0101 else 0
    | none => 0x0306
  | .run => controlCheck s (wingOf o) .run
  | .freeze => controlCheck s (wingOf o) .freeze
  | .thaw => controlCheck s (wingOf o) .thaw
  | .houseFloor => if capInForce s < powerTotal s - s.wingTop.houseFloor.toNat + n then 0x0106 else 0
  | .deviceCap => if n < powerTotal s then 0x0106 else 0
  | .keyInstall => keyInstallCheck s r.value
  | .provision => provisionCheck s r.who r.value
  | .fwImage => if imageAccepted s r.value then 0 else 0x020B
  | .debugUnlock => debugUnlockCheck s n
  | .alarmReset => alarmResetCheck s
  | .imageCommit => commitCheck s (wingOf o) (imageOf n)
  | .imageErase => eraseCheck s (wingOf o) (imageOf n)
  | .socketBudget | .keyRemove | .debugLock | .levelMap | .disturbLimit | .other => 0

/-! ### Effects -/

/-- A create names Rooms of parked Storeys: their clocks start before any Room is claimed (R554). -/
def unparkFor (s : State) (mask : W32) : State :=
  let g : BitVec 4 := BitVec.ofNat 4 (((List.finRange 4).map fun i =>
    if s.sys.domGate.getLsbD i.1 && bitsOf mask.toNat (8 * i.1 + 7) (8 * i.1) == 0 then 2 ^ i.1 else 0).foldl (· + ·) 0)
  if g = s.sys.domGate then s else gateWrite s (g.setWidth 32 <<< 7)

/-- Blocks at or above a new DISTURB_LIMIT are queued at once (R243). -/
def queueDisturbed (s : State) : State :=
  (List.finRange 4).foldl queueHot s

/-- A changed DEVICE_CAP or SOCKET_BUDGET recomputes the allotments at the master; a device outside any fabric is allotted its
cap (R201). -/
def capChanged (s : State) : State :=
  if s.fabric.isMaster then recomputeAllot s
  else if s.fabric.census.length ≤ 1 then s.onFuse fun f => { f with allot := f.deviceCap.setWidth 32 } else s

/-- A write of nonzero reserved bits is counted once (R7). -/
def countReservedPart (s : State) (r : Request) (o : ObjId) : State :=
  if reservedPart o r.mem.toNat (leNat r.value) = 0 then s else countReserved s 1

/-- What an accepted write does (R98), the NOR copies apart. -/
def writeEffect (s0 : State) (r : Request) (o : ObjId) : State :=
  let s := countReservedPart s0 r o
  let n := leNat r.value
  let w := wingOf o
  match rowOf r with
  | .create => createWing (unparkFor s (parseCreate r.value).mask) r.value
  | .destroy => match idx 16 n with
    | some v => destroyWing (s.onTop fun t => { t with destroyLast := BitVec.ofNat 8 n }) v
    | none => s
  | .run => runHeld (setWingSt s w .run) w
  | .freeze => startFreeze s w .host
  | .thaw =>
    let s1 := abortOwed (deliverLatched (thawWing s w) w) w
    if (s1.wing w).st = .run then runHeld s1 w else s1
  | .deviceCap | .socketBudget => capChanged (setEntry s o r.mem.toNat n)
  | .keyInstall => match unwrapKey s r.value with
    | some k => s.onThr fun t => installKey t r.value k
    | none => s
  | .keyRemove => s.onThr fun t => removeKey t n
  | .provision => provision s r.value
  | .debugUnlock => s.onThr fun t => debugUnlock t n
  | .debugLock => s.onThr fun t => { t with debugWings := 0, debugScope := 0 }
  | .alarmReset => alarmReset s
  | .disturbLimit => queueDisturbed (setEntry s o r.mem.toNat n)
  | .imageCommit =>
    (startVerify s w (imageOf n) none).onCellar fun c => { c with commitLast := vset c.commitLast w (BitVec.ofNat 8 n) }
  | .imageErase =>
    (startImageErase s w (imageOf n)).onCellar fun c => { c with eraseLast := vset c.eraseLast w (BitVec.ofNat 8 n) }
  | .fwImage => s
  | .houseFloor | .levelMap | .other => setEntry s o r.mem.toNat n

/-! ### NOR (R69, R97) -/

/-- A persistent entry's value in the kept list, keys rising. -/
def putEntry : List (Nat × Nat) → Nat → Nat → List (Nat × Nat)
  | [], k, v => [(k, v)]
  | (a, b) :: l, k, v => if a = k then (k, v) :: l else if k < a then (k, v) :: (a, b) :: l else (a, b) :: putEntry l k v

/-- The sealed key file as the Threshold holds it, sealed for the current epoch (R58). -/
def keyFile (t : Threshold) (c : NorContent) : NorContent :=
  { c with slots := vset t.slots 16 none, ca := t.ca, sealedEpoch := some t.fuses.eraseEpoch.1 }

/-- What must be written in NOR before a write takes effect, if anything (R71, R73, R76, R97). -/
def norEffect (s : State) (r : Request) (e : Entry) : Option NorEffect :=
  match rowOf r with
  | .keyInstall | .keyRemove => some .keyFile
  | .provision => some .provision
  | .fwImage => some (.firmware (otherSlot s))
  | _ => if e.pers then some .entry else none

/-- A NOR write begins; a firmware update starts by erasing the record of its slot (R581). -/
def startNor (s : State) (r : Request) (e : NorEffect) (critical : Bool) : State :=
  let s1 := s.onMgmt fun m => { m with norPending := some ⟨r, e, critical⟩ }
  match e with
  | .firmware i => s1.onSys fun y => { y with fwSlots := vmod y.fwSlots i fun f => { f with recordOk := false } }
  | _ => s1

/-- A commit or erase that its image's state refuses leaves the code in LAST_COND (R235). -/
def noteRefusal (s : State) (r : Request) (o : ObjId) (c : Cond) : State :=
  match rowOf r with
  | .imageCommit | .imageErase => noteImageCond s (wingOf o) (imageOf (leNat r.value)) c
  | _ => s

/-- Checks 11 and 12, then the effect, at once or after NOR (R98, R101). -/
def handleChecked (s : State) (r : Request) (o : ObjId) (e : Entry) : State :=
  let range := rangeCheck o r.mem.toNat r.value
  let c := if range ≠ 0 then range else ownCheck s r o
  if c ≠ 0 then answerDone (noteRefusal s r o c) r c
  else match norEffect s r e with
    | some k => startNor s r k (e.acc == .rwa || rowOf r == .provision)
    | none => answerDone (writeEffect s r o) r 0

/-- A complete WRITE request: an RWA write meets the Threshold first (R64-R66, R69, R101). -/
def actOnWrite (s : State) (r : Request) : State :=
  match requestEntry r with
  | none => answerDone s r 0x0301
  | some (o, e) =>
    if e.acc == .rwa then
      match thrCheck s r.who r.act r.sealed r.obj r.mem r.value with
      | .refused s1 c => answerDone s1 r c
      | .passed s1 k persist =>
        if persist then startNor s1 r (.counter k (s1.thr.ca.get k).last) true else handleChecked s1 r o e
    else handleChecked s r o e

/-- The command of a kind of write: the request in turn is handled when it is one of that kind. -/
def writeCommand (row : WriteRow) (s : State) : Res :=
  match frontRequest s with
  | none => .next s
  | some (r, s1) => if r.write ∧ rowOf r = row then .next (actOnWrite s1 r) else .next s

/-! ### Commands -/

/-- MLADYX_READ: the request in turn is answered with the entry's value (R98, R101). -/
def execMladyxRead (s : State) : Res :=
  match frontRequest s with
  | none => .next s
  | some (r, s1) =>
    if r.write then .next s
    else match requestEntry r with
      | none => .next (answerDone s1 r 0x0301)
      | some (o, e) => .next (queueAnswer s1 r 0 (entryBytes s1 o r.mem.toNat e) (match e.ty with | .block _ => true | _ => false))

/-- MLADYX_WRITE: a write of an entry that has no command of its own (R98, R101). -/
def execMladyxWrite (s : State) : Res := writeCommand .other s
/-- WING_CREATE (R44, R53). -/
def execWingCreate (s : State) : Res := writeCommand .create s
/-- WING_DESTROY (R40, R43). -/
def execWingDestroy (s : State) : Res := writeCommand .destroy s
/-- CONTROL_RUN (R40). -/
def execControlRun (s : State) : Res := writeCommand .run s
/-- CONTROL_FREEZE (R40, R42). -/
def execControlFreeze (s : State) : Res := writeCommand .freeze s
/-- CONTROL_THAW (R40, R42). -/
def execControlThaw (s : State) : Res := writeCommand .thaw s
/-- HOUSE_FLOOR_WRITE (R46). -/
def execHouseFloorWrite (s : State) : Res := writeCommand .houseFloor s
/-- DEVICE_CAP_WRITE (R46, R139). -/
def execDeviceCapWrite (s : State) : Res := writeCommand .deviceCap s
/-- SOCKET_BUDGET_WRITE (R135, R201). -/
def execSocketBudgetWrite (s : State) : Res := writeCommand .socketBudget s
/-- KEY_INSTALL (R71, R72, R89). -/
def execKeyInstall (s : State) : Res := writeCommand .keyInstall s
/-- KEY_REMOVE (R72). -/
def execKeyRemove (s : State) : Res := writeCommand .keyRemove s
/-- PROVISION (R73). -/
def execProvision (s : State) : Res := writeCommand .provision s
/-- FW_IMAGE (R76). -/
def execFwImage (s : State) : Res := writeCommand .fwImage s
/-- DEBUG_UNLOCK (R78). -/
def execDebugUnlock (s : State) : Res := writeCommand .debugUnlock s
/-- DEBUG_LOCK (R78). -/
def execDebugLock (s : State) : Res := writeCommand .debugLock s
/-- ALARM_RESET (R85). -/
def execAlarmReset (s : State) : Res := writeCommand .alarmReset s
/-- LEVEL_MAP (R79, R80, R91). -/
def execLevelMap (s : State) : Res := writeCommand .levelMap s
/-- DISTURB_LIMIT_WRITE (R140, R243). -/
def execDisturbLimitWrite (s : State) : Res := writeCommand .disturbLimit s
/-- IMAGE_COMMIT_ENTRY (R223). -/
def execImageCommitEntry (s : State) : Res := writeCommand .imageCommit s
/-- IMAGE_ERASE_ENTRY (R224). -/
def execImageEraseEntry (s : State) : Res := writeCommand .imageErase s

/-- The pending write has been made in both copies; what it was made for takes effect (R69, R97, R98). -/
def norDone (s : State) (p : NorPending) : State :=
  let s0 := s.onMgmt fun m => { m with norPending := none }
  match requestEntry p.req with
  | none => s0
  | some (o, e) =>
    match p.effect with
    | .entry =>
      let s1 := writeNor s0 fun c =>
        { c with entries := putEntry c.entries (p.req.obj.toNat * 256 + p.req.mem.toNat) (leNat p.req.value) }
      answerDone (writeEffect s1 p.req o) p.req 0
    | .counter k v =>
      let s1 := s0.onThr fun t => { t with ca := vmod t.ca k fun x => { x with persisted := v } }
      handleChecked (writeNor s1 fun c => { c with ca := vmod c.ca k fun _ => s1.thr.ca.get k }) p.req o e
    | .keyFile | .provision =>
      let s1 := writeEffect s0 p.req o
      answerDone (writeNor s1 (keyFile s1.thr)) p.req 0
    | .firmware _ => s

/-- NOR_WRITE_DONE (R69, R97). -/
def execNorWriteDone (s : State) : Res :=
  match s.mgmt.norPending with
  | some p => .next (norDone s p)
  | none => .next s

/-- FW_NOR_UPDATE_DONE: the image has been written and read back: the record is written with the next SLOT_SEQ, and the update
is answered (R76, R581). -/
def execFwNorUpdateDone (s : State) : Res :=
  match s.mgmt.norPending with
  | some ⟨r, .firmware i, _⟩ =>
    let seq : W32 := match s.sys.runningSlot with
      | some j => (s.sys.fwSlots.get j).seq + 1
      | none => 1
    let s1 := s.onSys fun y => { y with fwSlots := vset y.fwSlots i ⟨true, seq, r.value.length, r.value⟩ }
    .next (answerDone (s1.onMgmt fun m => { m with norPending := none }) r 0)
  | _ => .next s

/-! ### Answers sent (R99, R103, R112) -/

/-- The answer's packets toward the device that asked, 256 stream bytes each (R115). -/
def sendFabricAnswer (s : State) (a : Answer) (dev : DevAddr) : State :=
  (segments 256 (a.stream.length / 256 + 1) a.stream).zipIdx.foldl (fun s x =>
    postPacket s { Packet.mgmt .mladyx s.fabric.devAddr dev x.1 with seq := a.req.seq, wing := ⟨x.2 % 16, by omega⟩ }) s

/-- The oldest queued answer is sent on its transport; its transaction closes and a changed CAN rate comes into force. -/
def sendAnswer (s : State) (a : Answer) : State :=
  let close (s : State) : State := if a.closes then closeTxn s a.req.who a.req.seq else s
  applyRates (match a.req.who with
    | .can _ => close (sendCanAnswer s a)
    | .fabric d => close (sendFabricAnswer s a d)
    | .mailbox w k => sendMbxAnswer s a w k) a

/-- MLADYX_ANSWER_SENT: the oldest queued answer has been sent; a CAN answer waits while the controller is bus-off (R99, R102,
R103, R112). -/
def execMladyxAnswerSent (s : State) : Res :=
  match s.mgmt.answers with
  | [] => .next s
  | a :: rest =>
    let waits : Bool := match a.req.who with
      | .can _ => s.mgmt.canSt == .busOff
      | _ => false
    if !serverUp s || waits then .next s
    else .next (sendAnswer (s.onMgmt fun m =>
      { m with answers := rest, ready := m.ready.map fun q => (q.1, q.2 - 1) }) a)

end Sys2Proof.Machine
end

