-- ==== Sys2Proof/Machine/NewelDecode.lean ====
section
/-!
DEFINITION. Machine/NewelDecode.lean: the instruction words of the Newel (R356, R357, R359): their fields, the instruction
that a word is, the words that are illegal (R347), and an encoder written from the same tables.
-/
namespace Sys2Proof.Machine
open Sys2Proof

/-- The instructions of the Newel, one for each row of the table of commands. -/
inductive NOp where
  | add | sub | and | or | xor | sll | srl | sra | slt | sltu | mul | mulh | mulhu | div | divu | rem | remu
  | addi | andi | ori | xori | slli | srli | srai | slti | sltiu | lui
  | ldw | ldh | ldhu | ldb | ldbu | stw | sth | stb | ldfk | ldfd | stf
  | atomAdd | atomSwap | atomCas | atomMinSigned | atomMaxSigned | atomMinUnsigned | atomMaxUnsigned
  | beq | bne | blt | bge | bltu | bgeu | jmp | call | jmpr | callr
  | ret | leave | enter | rett | newelEnd | wfi | trap | brk | fence | fenceR | ifence | spill | fill | stra | strx | sjoin
  | rds | wrs | pusha | pmov | popn
  deriving DecidableEq, Repr

/-! ### Fields (R356) -/

/-- [31:26] -/
def nMajor (w : W32) : Nat := w.toNat / 2 ^ 26
/-- [25:21]: rd; the data register of S, rs1 of B -/
def nRd (w : W32) : BitVec 5 := BitVec.ofNat 5 (w.toNat / 2 ^ 21)
/-- [20:16]: rs1; the base of S, rs2 of B -/
def nRs1 (w : W32) : BitVec 5 := BitVec.ofNat 5 (w.toNat / 2 ^ 16)
/-- [15:11]: rs2 -/
def nRs2 (w : W32) : BitVec 5 := BitVec.ofNat 5 (w.toNat / 2 ^ 11)
/-- [15:0]: IMM of I and S, OFF of B -/
def nImm (w : W32) : W16 := BitVec.ofNat 16 w.toNat
/-- IMM with its sign extended -/
def nSimm (w : W32) : W32 := (nImm w).signExtend 32
/-- IMM extended with zeros -/
def nZimm (w : W32) : W32 := (nImm w).setWidth 32
/-- [10:6] -/
def nMid (w : W32) : Nat := w.toNat / 64 % 32
/-- [5:0]: MINOR of R -/
def nMinor (w : W32) : Nat := w.toNat % 64
/-- [10:3]: TOKEN of Q -/
def nToken (w : W32) : Byte := BitVec.ofNat 8 (w.toNat / 8)
/-- PLACE of an atomic (R359) -/
def nPlace (w : W32) : Nat := w.toNat / 16 % 4
/-- The target of B: the address plus 4 × OFF. -/
def nBranch (pc w : W32) : W32 := pc + 4 * nSimm w
/-- The target of J. -/
def nJump (pc w : W32) : W32 := pc + 4 * (BitVec.ofNat 26 w.toNat).signExtend 32

/-! ### Which instruction a word is (R357, R359) -/

/-- A register number that is not reserved (R335). -/
def regOk (r : BitVec 5) : Bool := decide (r.toNat < 30)

/-- An ALU minor. -/
def aluOf (minor : Nat) : Option NOp :=
  match minor with
  | 0x00 => some .add | 0x01 => some .sub | 0x02 => some .and | 0x03 => some .or | 0x04 => some .xor | 0x05 => some .sll
  | 0x06 => some .srl | 0x07 => some .sra | 0x08 => some .slt | 0x09 => some .sltu
  | 0x10 => some .mul | 0x11 => some .mulh | 0x12 => some .mulhu
  | 0x14 => some .div | 0x15 => some .divu | 0x16 => some .rem | 0x17 => some .remu
  | _ => none

/-- A shift by an immediate: [6:5] the kind, [15:7] reserved. -/
def shiftOf (imm : Nat) : Option NOp :=
  if imm / 128 ≠ 0 then none
  else match imm / 32 with
    | 0 => some .slli
    | 1 => some .srli
    | 2 => some .srai
    | _ => none

/-- An atomic: PLACE and OP of its minor. -/
def atomOf (minor : Nat) : Option NOp :=
  if minor / 16 = 3 then none
  else match minor % 16 with
    | 0 => some .atomAdd | 1 => some .atomSwap | 2 => some .atomCas | 3 => some .atomMinSigned | 4 => some .atomMaxSigned
    | 5 => some .atomMinUnsigned | 6 => some .atomMaxUnsigned
    | _ => none

/-- A SYS minor; [25:21], [20:16], [15:11] as numbers. A register field that the minor does not use is reserved. -/
def sysOf (minor d a b : Nat) : Option NOp :=
  if minor = 0x06 then (if d = 0 ∧ a = 0 then some .trap else none)
  else if minor = 0x10 then (if d = 0 ∧ a < 30 ∧ b = 0 then some .stra else none)
  else if minor = 0x11 then (if d = 0 ∧ a < 30 ∧ b = 0 then some .strx else none)
  else if d ≠ 0 ∨ a ≠ 0 ∨ b ≠ 0 then none
  else match minor with
    | 0x00 => some .ret | 0x01 => some .leave | 0x02 => some .enter | 0x03 => some .rett | 0x04 => some .newelEnd
    | 0x05 => some .wfi | 0x07 => some .brk | 0x08 => some .fence | 0x09 => some .fenceR | 0x0A => some .ifence
    | 0x0B => some .spill | 0x0C => some .fill | 0x12 => some .sjoin
    | _ => none

/-- A QUE minor. -/
def queOf (minor d a b : Nat) : Option NOp :=
  match minor with
  | 0 => if d = 0 ∧ a < 30 ∧ b < 30 then some .pusha else none
  | 1 => if d = 0 ∧ a < 30 ∧ b = 0 then some .pmov else none
  | 2 => if d < 30 ∧ a = 0 ∧ b = 0 then some .popn else none
  | _ => none

/-- The major opcodes whose two register fields [25:21] and [20:16] both name registers, with a 16-bit immediate. -/
def immOf (major : Nat) : Option NOp :=
  match major with
  | 0x01 => some .addi | 0x02 => some .andi | 0x03 => some .ori | 0x04 => some .xori | 0x06 => some .slti | 0x07 => some .sltiu
  | 0x10 => some .ldw | 0x11 => some .ldh | 0x12 => some .ldhu | 0x13 => some .ldb | 0x14 => some .ldbu
  | 0x15 => some .stw | 0x16 => some .sth | 0x17 => some .stb | 0x18 => some .ldfk | 0x19 => some .ldfd | 0x1A => some .stf
  | 0x20 => some .beq | 0x21 => some .bne | 0x22 => some .blt | 0x23 => some .bge | 0x24 => some .bltu | 0x25 => some .bgeu
  | _ => none

/-- A value that holds only under a condition. -/
def onlyIf {α : Type} (b : Bool) (x : Option α) : Option α := if b then x else none

/-- The instruction that a word is; `none` for an undefined opcode, a nonzero reserved field or register 30 or 31 (R347,
R356, R357). -/
def newelDecode (w : W32) : Option NOp :=
  let d := (nRd w).toNat
  let a := (nRs1 w).toNat
  let b := (nRs2 w).toNat
  let two := regOk (nRd w) && regOk (nRs1 w)
  match nMajor w with
  | 0x00 => onlyIf (two && regOk (nRs2 w) && nMid w == 0) (aluOf (nMinor w))
  | 0x05 => onlyIf two (shiftOf (nImm w).toNat)
  | 0x08 => onlyIf (regOk (nRd w) && a == 0) (some .lui)
  | 0x1C => onlyIf (two && regOk (nRs2 w) && nMid w == 0) (atomOf (nMinor w))
  | 0x28 => some .jmp
  | 0x29 => some .call
  | 0x2A => onlyIf (d == 0 && regOk (nRs1 w)) (some .jmpr)
  | 0x2B => onlyIf (d == 0 && regOk (nRs1 w)) (some .callr)
  | 0x30 => onlyIf (nMid w == 0) (sysOf (nMinor w) d a b)
  | 0x31 => onlyIf (regOk (nRd w) && a == 0) (some .rds)
  | 0x32 => onlyIf (d == 0 && regOk (nRs1 w)) (some .wrs)
  | 0x34 => queOf (w.toNat % 8) d a b
  | m => onlyIf two (immOf m)

/-! ### The encoder (R356, R357, R359) -/

/-- Formats of an instruction word (R356): SYS is R with the register fields of its minor. -/
inductive NFormat where
  /-- rd, rs1, rs2 and a minor -/
  | reg
  /-- an atomic: rd, rs1, rs2, PLACE and OP -/
  | atom
  /-- two registers and a 16-bit immediate -/
  | imm
  /-- rd, rs1 and a shift amount -/
  | shift
  /-- rd and a 16-bit immediate -/
  | rdImm
  /-- rs1 and a 16-bit immediate -/
  | rs1Imm
  /-- a 26-bit offset -/
  | jump
  /-- no field -/
  | bare
  /-- rs2 alone: the code of TRAP -/
  | code
  /-- rs1 alone -/
  | rs1
  /-- rs1, rs2 and TOKEN -/
  | push2
  /-- rs1 and TOKEN -/
  | push1
  /-- rd and TOKEN -/
  | pop
  deriving DecidableEq, Repr

/-- The format of an instruction. -/
def NOp.format : NOp → NFormat
  | .add | .sub | .and | .or | .xor | .sll | .srl | .sra | .slt | .sltu | .mul | .mulh | .mulhu | .div | .divu | .rem | .remu => .reg
  | .addi | .andi | .ori | .xori | .slti | .sltiu => .imm
  | .slli | .srli | .srai => .shift
  | .lui | .rds => .rdImm
  | .ldw | .ldh | .ldhu | .ldb | .ldbu | .stw | .sth | .stb | .ldfk | .ldfd | .stf => .imm
  | .atomAdd | .atomSwap | .atomCas | .atomMinSigned | .atomMaxSigned | .atomMinUnsigned | .atomMaxUnsigned => .atom
  | .beq | .bne | .blt | .bge | .bltu | .bgeu => .imm
  | .jmp | .call => .jump
  | .jmpr | .callr | .wrs => .rs1Imm
  | .ret | .leave | .enter | .rett | .newelEnd | .wfi | .brk | .fence | .fenceR | .ifence | .spill | .fill | .sjoin => .bare
  | .trap => .code
  | .stra | .strx => .rs1
  | .pusha => .push2
  | .pmov => .push1
  | .popn => .pop

/-- The major opcode (R357). -/
def NOp.major : NOp → Nat
  | .add | .sub | .and | .or | .xor | .sll | .srl | .sra | .slt | .sltu | .mul | .mulh | .mulhu | .div | .divu | .rem | .remu => 0x00
  | .addi => 0x01 | .andi => 0x02 | .ori => 0x03 | .xori => 0x04
  | .slli | .srli | .srai => 0x05
  | .slti => 0x06 | .sltiu => 0x07 | .lui => 0x08
  | .ldw => 0x10 | .ldh => 0x11 | .ldhu => 0x12 | .ldb => 0x13 | .ldbu => 0x14 | .stw => 0x15 | .sth => 0x16 | .stb => 0x17
  | .ldfk => 0x18 | .ldfd => 0x19 | .stf => 0x1A
  | .atomAdd | .atomSwap | .atomCas | .atomMinSigned | .atomMaxSigned | .atomMinUnsigned | .atomMaxUnsigned => 0x1C
  | .beq => 0x20 | .bne => 0x21 | .blt => 0x22 | .bge => 0x23 | .bltu => 0x24 | .bgeu => 0x25
  | .jmp => 0x28 | .call => 0x29 | .jmpr => 0x2A | .callr => 0x2B
  | .ret | .leave | .enter | .rett | .newelEnd | .wfi | .trap | .brk | .fence | .fenceR | .ifence | .spill | .fill | .stra | .strx
  | .sjoin => 0x30
  | .rds => 0x31 | .wrs => 0x32
  | .pusha | .pmov | .popn => 0x34

/-- The minor, the OP of an atomic, or the kind of a shift (R357, R359); 0 where there is none. -/
def NOp.minor : NOp → Nat
  | .add => 0x00 | .sub => 0x01 | .and => 0x02 | .or => 0x03 | .xor => 0x04 | .sll => 0x05 | .srl => 0x06 | .sra => 0x07
  | .slt => 0x08 | .sltu => 0x09 | .mul => 0x10 | .mulh => 0x11 | .mulhu => 0x12 | .div => 0x14 | .divu => 0x15 | .rem => 0x16
  | .remu => 0x17
  | .addi | .andi | .ori | .xori | .slti | .sltiu | .lui => 0
  | .slli => 0 | .srli => 1 | .srai => 2
  | .ldw | .ldh | .ldhu | .ldb | .ldbu | .stw | .sth | .stb | .ldfk | .ldfd | .stf => 0
  | .atomAdd => 0 | .atomSwap => 1 | .atomCas => 2 | .atomMinSigned => 3 | .atomMaxSigned => 4 | .atomMinUnsigned => 5
  | .atomMaxUnsigned => 6
  | .beq | .bne | .blt | .bge | .bltu | .bgeu | .jmp | .call | .jmpr | .callr => 0
  | .ret => 0x00 | .leave => 0x01 | .enter => 0x02 | .rett => 0x03 | .newelEnd => 0x04 | .wfi => 0x05 | .trap => 0x06
  | .brk => 0x07 | .fence => 0x08 | .fenceR => 0x09 | .ifence => 0x0A | .spill => 0x0B | .fill => 0x0C
  | .stra => 0x10 | .strx => 0x11 | .sjoin => 0x12
  | .rds | .wrs => 0
  | .pusha => 0 | .pmov => 1 | .popn => 2

/-- An instruction with the values of its fields; a field that its format does not have is 0. -/
structure NInstr where
  op : NOp
  /-- [25:21], [20:16], [15:11] -/
  rd : BitVec 5
  rs1 : BitVec 5
  rs2 : BitVec 5
  imm : W16
  token : Byte
  place : BitVec 2
  off : BitVec 26
  deriving DecidableEq, Repr

/-- The fields are those of the format, and register fields name registers (R335, R356, R359). -/
def NInstr.wf (i : NInstr) : Bool :=
  match i.op.format with
  | .reg => regOk i.rd && regOk i.rs1 && regOk i.rs2 && i.imm == 0 && i.token == 0 && i.place == 0 && i.off == 0
  | .atom => regOk i.rd && regOk i.rs1 && regOk i.rs2 && i.imm == 0 && i.token == 0 && i.place != 3 && i.off == 0
  | .imm => regOk i.rd && regOk i.rs1 && i.rs2 == 0 && i.token == 0 && i.place == 0 && i.off == 0
  | .shift => regOk i.rd && regOk i.rs1 && i.rs2 == 0 && decide (i.imm.toNat < 32) && i.token == 0 && i.place == 0 && i.off == 0
  | .rdImm => regOk i.rd && i.rs1 == 0 && i.rs2 == 0 && i.token == 0 && i.place == 0 && i.off == 0
  | .rs1Imm => i.rd == 0 && regOk i.rs1 && i.rs2 == 0 && i.token == 0 && i.place == 0 && i.off == 0
  | .jump => i.rd == 0 && i.rs1 == 0 && i.rs2 == 0 && i.imm == 0 && i.token == 0 && i.place == 0
  | .bare => i.rd == 0 && i.rs1 == 0 && i.rs2 == 0 && i.imm == 0 && i.token == 0 && i.place == 0 && i.off == 0
  | .code => i.rd == 0 && i.rs1 == 0 && i.imm == 0 && i.token == 0 && i.place == 0 && i.off == 0
  | .rs1 => i.rd == 0 && regOk i.rs1 && i.rs2 == 0 && i.imm == 0 && i.token == 0 && i.place == 0 && i.off == 0
  | .push2 => i.rd == 0 && regOk i.rs1 && regOk i.rs2 && i.imm == 0 && i.place == 0 && i.off == 0
  | .push1 => i.rd == 0 && regOk i.rs1 && i.rs2 == 0 && i.imm == 0 && i.place == 0 && i.off == 0
  | .pop => regOk i.rd && i.rs1 == 0 && i.rs2 == 0 && i.imm == 0 && i.place == 0 && i.off == 0

/-- The low 26 bits of the word of an instruction. -/
def NInstr.body (i : NInstr) : Nat :=
  let regs := i.rd.toNat * 2 ^ 21 + i.rs1.toNat * 2 ^ 16
  match i.op.format with
  | .reg | .bare | .code | .rs1 => regs + i.rs2.toNat * 2 ^ 11 + i.op.minor
  | .atom => regs + i.rs2.toNat * 2 ^ 11 + i.place.toNat * 16 + i.op.minor
  | .imm | .rdImm | .rs1Imm => regs + i.imm.toNat
  | .shift => regs + i.op.minor * 32 + i.imm.toNat
  | .jump => i.off.toNat
  | .push2 | .push1 | .pop => regs + i.rs2.toNat * 2 ^ 11 + i.token.toNat * 8 + i.op.minor

/-- The word of an instruction. -/
def newelEncode (i : NInstr) : W32 := BitVec.ofNat 32 (i.op.major * 2 ^ 26 + i.body)

/-- The fields of a word as those of an instruction. -/
def newelFields (k : NOp) (w : W32) : NInstr :=
  let i : NInstr := { op := k, rd := nRd w, rs1 := nRs1 w, rs2 := 0, imm := 0, token := 0, place := 0, off := 0 }
  match k.format with
  | .reg | .bare | .code | .rs1 => { i with rs2 := nRs2 w }
  | .atom => { i with rs2 := nRs2 w, place := BitVec.ofNat 2 (nPlace w) }
  | .imm | .rdImm | .rs1Imm => { i with imm := nImm w }
  | .shift => { i with imm := BitVec.ofNat 16 ((nImm w).toNat % 32) }
  | .jump => { i with rd := 0, rs1 := 0, off := BitVec.ofNat 26 w.toNat }
  | .push2 | .push1 | .pop => { i with rs2 := nRs2 w, token := nToken w }

end Sys2Proof.Machine
end

