-- ==== Sys2Proof/Machine/Stairwell.lean ====
section
/-!
DEFINITION. Machine/Stairwell.lean: groups and ranks (R477-R480), COLLECTIVE jobs (R481-R484, R498), the ring schedule, chunks
and credits (R485-R489, R499), reductions (R490), completion, timeouts and aborts (R491-R495, R500).
-/
namespace Sys2Proof.Machine
open Sys2Proof

/-! ### Groups (R477-R480, R501) -/

def groupField (g : W64) (hi lo : Nat) : Nat := bitsOf g.toNat hi lo
def groupEn (g : W64) : Bool := g.getLsbD 63
def groupWing (g : W64) : Nat := groupField g 59 56
def groupDim1 (g : W64) : Fin 3 := ⟨groupField g 55 54 % 3, Nat.mod_lt _ (by decide)⟩
def groupDim2 (g : W64) : Fin 3 := ⟨groupField g 53 52 % 3, Nat.mod_lt _ (by decide)⟩
def groupA (g : W64) : Nat := groupField g 43 40 + 1
def groupB (g : W64) : Nat := groupField g 39 36 + 1
def groupTagOf (g : W64) : W16 := BitVec.ofNat 16 (groupField g 31 16)

/-- Reserved bits of an entry (R501). -/
def groupReserved : W64 := 0x4000000F0000FFFF

/-- The fields of an entry keep R478 and R479. -/
def groupFieldsOk (s : State) (g : W64) : Bool :=
  let d1 := groupField g 55 54
  let d2 := groupField g 53 52
  let a0 := groupField g 51 48
  let b0 := groupField g 47 44
  match groupField g 61 60 with
  | 1 => decide (d1 < 3 ∧ d2 = 0 ∧ a0 = 0 ∧ b0 = 0 ∧ groupA g = 1 ∧ groupB g = 1)
  | 2 => decide (d1 < 3 ∧ d2 < 3 ∧ d1 ≠ d2 ∧ 2 ≤ groupA g ∧ 2 ≤ groupB g ∧ groupB g % 2 = 0 ∧ groupA g * groupB g ≤ 64 ∧
      a0 + groupA g ≤ dimSize s (groupDim1 g) ∧ b0 + groupB g ≤ dimSize s (groupDim2 g))
  | _ => false

/-- A device address with one coordinate replaced. -/
def withCoord (a : DevAddr) (dim : Fin 3) (c : Nat) : DevAddr :=
  a - BitVec.ofNat 12 (coord a dim * 2 ^ (8 - 4 * dim.1)) + BitVec.ofNat 12 (c * 2 ^ (8 - 4 * dim.1))

/-- Rank of position (a, b) of a block of A × B (R479). -/
def blockRank (na nb a b : Nat) : Nat :=
  if b = 0 then a
  else if a = 0 then na + (nb - 1) * (na - 1) + (nb - 1 - b)
  else if b % 2 = 1 then na + (b - 1) * (na - 1) + (na - 1 - a)
  else na + (b - 1) * (na - 1) + (a - 1)

/-- The members of a group in rank order; `none` when the ring cannot be formed or this device is no member (R478, R479). -/
def groupRing (s : State) (g : W64) : Option (List DevAddr) :=
  let me := s.fabric.devAddr
  let d1 := groupDim1 g
  let d2 := groupDim2 g
  let ring : List DevAddr :=
    if groupField g 61 60 = 1 then
      if dimSize s d1 = 1 ∨ s.fabric.open_.getLsbD d1.1 then [] else (List.range (dimSize s d1)).map fun c => withCoord me d1 c
    else
      let na := groupA g
      let nb := groupB g
      let a0 := groupField g 51 48
      let b0 := groupField g 47 44
      let at_ := ((List.range na).map fun a => (List.range nb).map fun b =>
        (blockRank na nb a b, withCoord (withCoord me d1 (a0 + a)) d2 (b0 + b))).flatten
      (List.range (na * nb)).filterMap fun r => (at_.find? fun p => p.1 == r).map (·.2)
  if ring.contains me then some ring else none

/-- What a write that leaves an entry disabled stores: fields with a reserved encoding keep their value (R7, R9, R501). -/
def groupStored (old v : W64) : W64 :=
  let keep (bad : Bool) (m : W64) : W64 := if bad then m else 0
  let m : W64 := keep (groupField v 61 60 == 0 || groupField v 61 60 == 3) 0x3000000000000000 |||
    keep (groupField v 55 54 == 3) 0x00C0000000000000 ||| keep (groupField v 53 52 == 3) 0x0030000000000000
  ((v &&& ~~~m) ||| (old &&& m)) &&& ~~~groupReserved

/-- STW_GROUP_WRITE: a write that makes an entry enabled is checked and refused with 0x0C0A (R477); one that leaves it disabled
follows R7 and R9. -/
def stwGroupWriteOp (n : Fin 32) (v : W64) (s : State) : Res :=
    let used := s.stair.ctxs.toList.any fun c => c.st != .free && c.par.group == n
    if groupEn v ∧ ((!groupFieldsOk s v) = true ∨ v &&& groupReserved ≠ 0 ∨ used = true) then .next (ringCond s 0 0x0C0A)
    else
      let new := if groupEn v then v else groupStored (s.stair.groups.get n) v
      .next ((if new = v then s else countReserved s 1).onStair fun t => { t with groups := vset t.groups n new })

/-- STW_GROUP_WRITE as a BAR access of the host (R151, R157, R549). -/
def execStwGroupWrite (n : Fin 32) (v : W64) (s : State) : Res :=
  barGo s (.write (0x160000 + 8 * n.1) (leBytes 8 v.toNat)) 3 (stwGroupWriteOp n v s)

/-! ### Shape of a collective (R481, R482, R485) -/

def CollParams.kind (p : CollParams) : Nat := p.op.toNat % 16
def CollParams.hq (p : CollParams) : Bool := p.op.getLsbD 7
/-- Largest chunk, CH. -/
def CollParams.ch (p : CollParams) : Nat := 2048 / 2 ^ (p.op.toNat / 32 % 4)
def CollParams.inQ (p : CollParams) : Fin 32 := ⟨p.src % 32, Nat.mod_lt _ (by decide)⟩
def CollParams.outQ (p : CollParams) : Fin 32 := ⟨p.src / 256 % 32, Nat.mod_lt _ (by decide)⟩
def CollParams.segBytes (p : CollParams) : Nat := p.src / 65536 % 65536
def CollParams.mask (p : CollParams) : W32 := BitVec.ofNat 32 p.dst
/-- Reduce-scatter and all-gather phases of the kind. -/
def CollParams.hasRs (p : CollParams) : Bool := p.kind == 1 || p.kind == 2
def CollParams.hasAg (p : CollParams) : Bool := p.kind == 1 || p.kind == 3 || p.kind == 4

/-- Bytes of one vector: a segment, or the whole. -/
def Ctx.vec (c : Ctx) : Nat := if c.par.hq then c.par.segBytes else c.par.length
def Ctx.segs (c : Ctx) : Nat := if c.par.hq then c.par.length / c.par.segBytes else 1
def Ctx.block (c : Ctx) : Nat := c.vec / c.n
/-- Chunks of a block: a BARRIER's empty block is one chunk (R499). -/
def Ctx.chunks (c : Ctx) : Nat := max 1 ((c.block + c.par.ch - 1) / c.par.ch)
def Ctx.chunkLen (c : Ctx) (i : Nat) : Nat := min c.par.ch (c.block - i * c.par.ch)
/-- Chunks sent, and received, in one segment. -/
def Ctx.perSeg (c : Ctx) : Nat := (b2n c.par.hasRs + b2n c.par.hasAg) * (c.n - 1) * c.chunks

/-- Offset of a chunk of a block in the vector. -/
def Ctx.chunkAt (c : Ctx) (block i : Nat) : Nat := block * c.block + i * c.par.ch

/-- The handle of a segment. -/
def Ctx.handleOf (c : Ctx) (seg : Nat) : Option SegHandle := c.handles.find? fun h => h.seg == seg

/-- Bytes of a member's own data: a wait while the lines are in use, a condition when the read is refused (R265, R267,
R481, R482). -/
def localRead (s : State) (c : Ctx) (seg block i : Nat) : Tried (List Byte × State) :=
  let n := c.chunkLen i
  if n = 0 then .done ([], s)
  else if c.par.hq then
    match c.handleOf seg with
    | some h => .done (zread (s.room h.room).pantry (64 * handleStart h.handle + c.chunkAt block i) n, s)
    | none => .wait .handleQueue
  else
    let o := c.par.src + (if c.par.kind = 3 then i * c.par.ch else c.chunkAt block i)
    if !wingRange s c.wing o n then .fault 0x0102
    else if !larderOpen s c.wing then .fault 0x0203
    else if !wingFree s c.wing o n then .wait .inflight
    else
      let r := wingRead s c.wing o n
      if r.2.1 then .fault 0x0703 else .done (r.1, r.2.2)

/-- Final bytes written on this member. -/
def localWrite (s : State) (i : Fin 8) (seg block k : Nat) (bs : List Byte) : Tried State :=
  let c := s.stair.ctxs.get i
  let count (s : State) : State := s.onCtx i fun c => { c with written := c.written + bs.length }
  if bs = [] then .done s
  else if c.par.hq then
    match c.handleOf seg with
    | some h => .done (count (s.onRoom h.room fun x => pantryWrite x (64 * handleStart h.handle + c.chunkAt block k) bs))
    | none => .wait .handleQueue
  else
    let o := c.par.dst + (if c.par.kind = 2 then k * c.par.ch else c.chunkAt block k)
    if !wingRange s c.wing o bs.length then .fault 0x0102
    else if !larderOpen s c.wing then .fault 0x0203
    else if !wingFree s c.wing o bs.length then .wait .inflight
    else .done (count (wingWrite s c.wing o bs))

/-! ### Reductions (R490) -/

/-- One element reduced: REDUCE 0 SUM, 1 MAX, 2 MIN; DTYPE 4 bfloat16, 5 binary32, 6 int32. -/
def reduceElem (reduce dtype a b : Nat) : Nat :=
  if dtype = 6 then
    let x := intOf 32 a
    let y := intOf 32 b
    if reduce = 0 then (satInt32 (x + y)).1.toNat
    else if reduce = 1 then (if x < y then b else a)
    else if y < x then b else a
  else
    let f : FpFmt := if dtype = 4 then .bf16 else .f32
    let x := fpNum f a
    let y := fpNum f b
    let r := if reduce = 0 then numAdd x y else if reduce = 1 then numMax x y else numMin x y
    (roundFp f false true r).bits

/-- Chunks reduced element by element. -/
def reduceBytes (reduce dtype : Nat) (a b : List Byte) : List Byte :=
  let w := if dtype = 4 then 2 else 4
  ((List.range (a.length / w)).map fun i => leBytes w (reduceElem reduce dtype (fieldAt a (w * i) w) (fieldAt b (w * i) w))).flatten

def CollParams.reduce (p : CollParams) : Nat := p.redType.toNat / 16
def CollParams.dtype (p : CollParams) : Nat := p.redType.toNat % 16

/-! ### Chunks (R488, R489, R499) -/

/-- CRC-32C of a DATA chunk; a BARRIER chunk's is 0 (R489, R499). -/
def chunkCrc (collId : W32) (id : ChunkId) (block : Nat) (data : List Byte) : W32 :=
  if data = [] then 0
  else crc32c (leBytes 4 collId.toNat ++ leBytes 2 id.seg ++ leBytes 1 block ++ leBytes 2 id.chunk ++
    leBytes 2 data.length ++ data)

/-- The header flit and data of a DATA chunk (R499). -/
def chunkBytes (c : Ctx) (k : Chunk) : List Byte :=
  leBytes 4 c.par.collId.toNat ++ leBytes 2 c.groupTag.toNat ++ [0, BitVec.ofNat 8 (b2n k.id.gather * 128 + k.id.step)] ++
  leBytes 2 k.id.seg ++ leBytes 1 k.block ++ [0] ++ leBytes 2 k.id.chunk ++ leBytes 2 k.data.length ++
  leBytes 4 k.crc.toNat ++ leBytes 2 k.origin.toNat ++ leBytes 2 k.seq.toNat ++ List.replicate 8 0 ++ k.data

/-- The flit of a GRANT (R484, R499). -/
def grantFlit (c : Ctx) : List Byte :=
  leBytes 4 c.par.collId.toNat ++ leBytes 2 c.groupTag.toNat ++ [1] ++ List.replicate 15 0 ++ [0xFF, 0xFF, c.par.op, c.par.redType] ++
    leBytes 1 c.n ++ [32] ++ leBytes 4 c.par.length

/-- The flit of a CREDIT (R488, R499). -/
def creditFlit (c : Ctx) (seq : W16) : List Byte :=
  leBytes 4 c.par.collId.toNat ++ leBytes 2 c.groupTag.toNat ++ [2] ++ List.replicate 15 0 ++ leBytes 2 seq.toNat ++
    List.replicate 8 0

/-- A packet of a context toward a neighbour on the ring (R488). -/
def sendChunk (s : State) (c : Ctx) (dst : DevAddr) (bs : List Byte) : State :=
  postPacket s (wingPacket s .chunk (moveVc s c.wing dst 2) c.wing dst 0 bs)

/-- A CREDIT with the highest SEQ consumed in order, if any has been (R488). -/
def sendCredit (s : State) (i : Fin 8) : State :=
  let c := s.stair.ctxs.get i
  let next := match c.unconsumed with | q :: _ => q | [] => c.inSeq
  if next = 0 ∧ c.recv.toNat < 65536 then s else sendChunk s c c.pred (creditFlit c (next - 1))

/-- A received chunk has been forwarded or written. -/
def consume (s : State) (i : Fin 8) (seq : W16) : State :=
  sendCredit (s.onCtx i fun c => { c with unconsumed := c.unconsumed.erase seq }) i

/-! ### Completion (R491) -/

/-- The collective's job. -/
def ctxJob (s : State) (i : Fin 8) : Option Job := findJob s (s.stair.ctxs.get i).wing (s.stair.ctxs.get i).serial

/-- The context's job completes and the context becomes FREE. -/
def closeCtx (s : State) (i : Fin 8) (cond : Cond) (result : Nat) : State :=
  let c := s.stair.ctxs.get i
  let s1 := s.onCtx i fun _ => Ctx.free
  match ctxJob s i with
  | some j => completeJob s1 j ⟨cond, result, c.par.collId, BitVec.ofNat 8 i.1⟩
  | none => s1

/-- Finished segments' handles go to OUT_Q while it has room (R482). -/
def pushSegments (s : State) (i : Fin 8) : State :=
  (s.stair.ctxs.get i).handles.foldl (fun s h =>
    let c := s.stair.ctxs.get i
    if h.left = 0 ∧ !(c.locals.any fun l => l.1 == h.seg) ∧ ((s.room h.room).hqs.get c.par.outQ).handles.length < 32 then
      (putHandle s h.room c.par.outQ h.handle).onCtx i fun c => { c with handles := c.handles.erase h }
    else s) s

/-- COLL_COMPLETE: everything is written, pushed and credited (R491). -/
def tryComplete (s0 : State) (i : Fin 8) : State :=
  let s := pushSegments s0 i
  let c := s.stair.ctxs.get i
  if c.st = .running ∧ c.recvLeft = 0 ∧ c.sendLeft = 0 ∧ c.uncredited = [] ∧ c.handles = [] ∧ (!c.par.hq ∨ c.nextSeg = c.segs)
  then closeCtx s i 0 c.written else s

/-! ### Starting (R481-R484, R498) -/

def collParams (b : List Byte) : CollParams :=
  { op := BitVec.ofNat 8 (fieldAt b 16 1), redType := BitVec.ofNat 8 (fieldAt b 17 1), abortMode := fieldAt b 18 1 == 1,
    group := ⟨fieldAt b 19 1 % 32, Nat.mod_lt _ (by decide)⟩, collId := BitVec.ofNat 32 (fieldAt b 20 4),
    src := fieldAt b 24 8, dst := fieldAt b 32 8, length := fieldAt b 40 4 }

/-- Two byte ranges are disjoint. -/
def apart (a n b m : Nat) : Bool := decide (a + n ≤ b ∨ b + m ≤ a)

/-- Check 1 of R483; `n` is the ring's size, 0 where no ring is named. -/
def collShapeOk (b : List Byte) (p : CollParams) (n : Nat) : Bool :=
  let l := p.length
  let kinds := decide (1 ≤ p.kind ∧ p.kind ≤ 4) && !p.op.getLsbD 4 && decide (fieldAt b 18 1 < 2) && decide (fieldAt b 19 1 < 32) &&
    (if p.hasRs then decide (p.reduce < 3 ∧ 4 ≤ p.dtype ∧ p.dtype ≤ 6) else p.redType == 0)
  let lens := if p.kind = 4 then l == 0 else l != 0 && (n == 0 || decide (l % (4 * n) = 0))
  let form :=
    if p.kind = 4 then !p.hq && p.src == 0 && p.dst == 0
    else if p.hq then
      p.src &&& 0xE0E0 == 0 && decide (p.src < 2 ^ 32 ∧ p.dst < 2 ^ 32 ∧ p.dst ≠ 0 ∧ p.segBytes ≠ 0 ∧ l % p.segBytes = 0) &&
        (n == 0 || decide (p.segBytes % (4 * n) = 0))
    else
      decide (p.src % 4 = 0 ∧ p.dst % 4 = 0) &&
        (if p.kind = 1 then p.src == p.dst || apart p.src l p.dst l
         else if p.kind = 2 then apart p.src l p.dst (l / max 1 n)
         else apart p.src (l / max 1 n) p.dst l)
  kinds && lens && form

/-- Check 4 of R483: 0, or the cause of the abort. -/
def collReach (s : State) (w : WingId) (p : CollParams) (n : Nat) : Cond :=
  if p.kind = 4 then 0
  else if p.hq then
    if p.mask &&& ~~~(if w = 0 then houseRooms s else (s.wing w).roomMask) ≠ 0 then 0x0102
    else if (onesOf p.mask).all fun r =>
        ((s.room r).hqs.get p.inQ).kind == .local && ((s.room r).hqs.get p.outQ).kind == .local then 0 else 0x0805
  else
    let l := p.length
    let ls := if p.kind = 3 then l / n else l
    let ld := if p.kind = 2 then l / n else l
    if wingRange s w p.src ls && wingRange s w p.dst ld then 0 else 0x0102

/-- The ring of a group that a wing's job may use (check 2 of R483). -/
def collRing (s : State) (w : WingId) (g : Fin 32) : Option (List DevAddr) :=
  let e := s.stair.groups.get g
  if groupEn e ∧ groupWing e = w.1 then groupRing s e else none

/-- Chunks may start: the successor has granted (R484). In the Larder form the one segment's own chunks come first. -/
def startSending (s : State) (i : Fin 8) (window : Nat) : State :=
  s.onCtx i fun c =>
    { c with st := .running, window := window, locals := if c.par.hq then c.locals else [(0, 0)] }

/-- A GRANT agrees with the context's own values (R484). -/
def grantAgrees (c : Ctx) (f : List Byte) : Bool :=
  fieldAt f 4 2 == c.groupTag.toNat && fieldAt f 24 1 == c.par.op.toNat && fieldAt f 25 1 == c.par.redType.toNat &&
    fieldAt f 26 1 == c.n && fieldAt f 28 4 == c.par.length

/-- A successor's GRANT is compared; a difference aborts with cause 0x0C03 (R484). -/
def takeGrant (s : State) (i : Fin 8) (f : List Byte) : State :=
  if grantAgrees (s.stair.ctxs.get i) f then startSending s i (fieldAt f 27 1) else abortCtx s i 0x0C03

/-- A context that passed the checks: GRANT to the predecessor, and the successor's GRANT if it is held (R484). -/
def beginCtx (s : State) (i : Fin 8) : State :=
  let c := s.stair.ctxs.get i
  let s1 := sendChunk s c c.pred (grantFlit c)
  match s1.stair.grants.find? fun g => g.src == c.succ && g.wing == c.wing && fieldAt g.flit 0 4 == c.par.collId.toNat with
  | some g => takeGrant (s1.onStair fun t => { t with grants := t.grants.erase g }) i g.flit
  | none => s1

/-- JOB_COLLECTIVE: the checks of R483 in order; an abort record of the collective ends it at once (R494). -/
def execJobCollective (w : WingId) (s : State) : Res :=
  match startable s w 8, lowest s.stair.ctxs (fun _ c => c.st == .free) with
  | some b, some i =>
    let p := collParams b
    let ring := collRing s w p.group
    let n := (ring.getD []).length
    if !collShapeOk b p n then .next (failAtStart s w b 0x0C01 0xFF 0)
    else match ring with
      | none => .next (failAtStart s w b 0x0C02 0xFF 0)
      | some ring =>
        let tag := groupTagOf (s.stair.groups.get p.group)
        if s.stair.ctxs.toList.any fun c => c.st != .free && c.par.collId == p.collId then
          .next (failAtStart s w b 0x0C08 0xFF 0)
        else match s.stair.abortRecs.find? fun r => r.collId == p.collId && r.groupTag == tag && r.wing == w with
          | some r =>
            .next (endAtStart (logCond s 0x0C05 (wingByte w) (BitVec.ofNat 8 i.1) p.collId) w b
              ⟨0x0C05, r.cause.toNat + r.detector.toNat * 65536, p.collId, BitVec.ofNat 8 i.1⟩)
          | none =>
            let rank := ring.idxOf s.fabric.devAddr
            let d := dispatch s w b (.collective i)
            let c0 : Ctx :=
              { Ctx.free with
                st := .starting, wing := w, serial := d.1.serial, par := p, rank := rank, n := n, groupTag := tag,
                succ := ring.getD ((rank + 1) % n) 0, pred := ring.getD ((rank + n - 1) % n) 0,
                members := ring.filter (· != s.fabric.devAddr) }
            let c : Ctx := { c0 with sendLeft := c0.segs * c0.perSeg, recvLeft := c0.segs * c0.perSeg }
            let s1 := d.2.onCtx i fun _ => c
            let bad := collReach s w p n
            if bad ≠ 0 then .next (abortCtx s1 i bad) else .next (beginCtx s1 i)
  | _, _ => .next s

/-! ### Chunk packets received (R484, R486, R488, R489, R495) -/

/-- KIND of a chunk packet: 0 DATA, 1 GRANT, 2 CREDIT. -/
def chunkKind (p : Packet) : Nat := fieldAt p.data 6 1

/-- The wing of Stairwell traffic is frozen or freezing: packets wait (R495). -/
def stairHolds (s : State) (w : WingId) : Bool := wingFrozen s w

/-- The context that a DATA chunk, or with `back` a GRANT or CREDIT, is for. -/
def ctxFor (s : State) (p : Packet) (back : Bool) : Option (Fin 8) :=
  lowest s.stair.ctxs fun _ c => c.st != .free && c.wing == p.wing && c.par.collId.toNat == fieldAt p.data 0 4 &&
    (if back then c.succ else c.pred) == p.src

/-- The place that a DATA chunk's header names. -/
def chunkIdOf (p : Packet) : ChunkId :=
  { seg := fieldAt p.data 8 2, gather := bitOf (fieldAt p.data 7 1) 7, step := fieldAt p.data 7 1 % 128,
    chunk := fieldAt p.data 12 2 }

/-- The block that a member of a rank sends at a step (R486). -/
def schedBlock (n rank step : Nat) (gather : Bool) : Nat :=
  if gather then (rank + 2 * n - step) % n else (rank + 2 * n - step - 1) % n

/-- SEG, BLOCK, CHUNK and BYTES match the schedule of the predecessor (R486, R489). -/
def chunkFits (c : Ctx) (p : Packet) : Bool :=
  let k := chunkIdOf p
  decide (k.seg < c.segs ∧ k.step + 2 ≤ c.n ∧ k.chunk < c.chunks) && (if k.gather then c.par.hasAg else c.par.hasRs) &&
    fieldAt p.data 10 1 == schedBlock c.n ((c.rank + c.n - 1) % c.n) k.step k.gather &&
    fieldAt p.data 14 2 == c.chunkLen k.chunk && decide (p.data.length = 32 + fieldAt p.data 14 2)

/-- A Stairwell access that is refused, or a poisoned read, aborts the collective; 0x0703 is raised here (R267, R493). -/
def accessAbort (s : State) (i : Fin 8) (e : Cond) : State :=
  abortCtx (if e = 0x0703 then logCond s e (wingByte (s.stair.ctxs.get i).wing) 0xFF 0 else s) i e

/-- What a DATA chunk comes to: its data added, forwarded or written, or a wait, or a refusal of an access (R486). The
last component says that the chunk is consumed at once. -/
def takeData (s : State) (i : Fin 8) (p : Packet) : Tried (State × Bool) :=
  let c := s.stair.ctxs.get i
  let k := chunkIdOf p
  let block := fieldAt p.data 10 1
  let data := bytesAt p.data 32 (fieldAt p.data 14 2)
  let seq : W16 := BitVec.ofNat 16 (fieldAt p.data 22 2)
  let last := decide (k.step + 2 = c.n)
  if k.gather then
    match localWrite s i k.seg block k.chunk data with
    | .wait r => .wait r
    | .fault e => .fault e
    | .done s1 =>
      if last then .done (s1, true)
      else .done (s1.onCtx i fun c => { c with ready := c.ready ++
        [{ id := { k with step := k.step + 1 }, block := block, data := data, crc := BitVec.ofNat 32 (fieldAt p.data 16 4),
           origin := BitVec.ofNat 12 (fieldAt p.data 20 2), seq := 0, seqIn := none }] }, true)
  else
    match localRead s c k.seg block k.chunk with
    | .wait r => .wait r
    | .fault e => .fault e
    | .done (own, s1) =>
      let sum := reduceBytes c.par.reduce c.par.dtype data own
      let next : ChunkId := if last then { k with gather := true, step := 0 } else { k with step := k.step + 1 }
      let out : Chunk := { id := next, block := block, data := sum, crc := chunkCrc c.par.collId next block sum,
                           origin := s.fabric.devAddr, seq := 0, seqIn := if last then none else some seq }
      let fwd (s : State) : State := s.onCtx i fun c => { c with ready := c.ready ++ [out] }
      if last then
        match localWrite s1 i k.seg block k.chunk sum with
        | .wait r => .wait r
        | .fault e => .fault e
        | .done s2 => .done (if c.par.hasAg then fwd s2 else s2, true)
      else .done (fwd s1, false)

/-- A chunk packet can be dealt with: it is the first of its sender and collective, its wing is not frozen, and its data can
be read and written now. -/
def chunkReady (s : State) (x : RxPacket) : Bool :=
  let p := x.pkt
  let first := s.fabric.inbox.find? fun y => y.pkt.typ == .chunk && chunkKind y.pkt == 0 && y.pkt.src == p.src &&
    y.pkt.wing == p.wing && fieldAt y.pkt.data 0 4 == fieldAt p.data 0 4
  !stairHolds s p.wing && first == some x &&
    match ctxFor s p false with
    | none => true
    | some i => match takeData s i p with
      | .wait _ => false
      | _ => true

/-- The segment of a received chunk has one chunk less to come. -/
def countRecv (c : Ctx) (seg : Nat) : Ctx :=
  { c with recvLeft := c.recvLeft - 1, recv := c.recv + 1, inSeq := c.inSeq + 1,
           handles := c.handles.map fun h => if h.seg = seg then { h with left := h.left - 1 } else h }

/-- COLL_DATA_CHUNK: a DATA chunk is checked, then added, forwarded or written; one already received is credited again; a
CRC failure aborts with 0x0C06, one that does not match the schedule with 0x0C03 (R486, R488, R489). -/
def execCollDataChunk (s : State) : Res :=
  match takePacket s fun x => x.pkt.typ == .chunk && chunkKind x.pkt == 0 && chunkReady s x with
  | none => .next s
  | some (x, s1) =>
    let p := x.pkt
    if !spanTest s1 p then .next s1
    else match ctxFor s1 p false with
      | none => .next s1
      | some i =>
        let c := s1.stair.ctxs.get i
        let seq : W16 := BitVec.ofNat 16 (fieldAt p.data 22 2)
        let data := bytesAt p.data 32 (fieldAt p.data 14 2)
        if c.st = .aborting then .next s1
        else if seq ≠ c.inSeq then (if (c.inSeq - seq).toNat < 32768 then .next (sendCredit s1 i) else .next s1)
        else if fieldAt p.data 4 2 ≠ c.groupTag.toNat then .next (abortCtx s1 i 0x0C03)
        else if fieldAt p.data 16 4 ≠ (chunkCrc c.par.collId (chunkIdOf p) (fieldAt p.data 10 1) data).toNat then
          .next (abortCtx (s1.onStair fun t => { t with crcFails := satAdd t.crcFails 1 }) i 0x0C06)
        else if !chunkFits c p then .next (abortCtx s1 i 0x0C03)
        else match takeData s1 i p with
          | .wait _ => .next s
          | .fault e => .next (accessAbort s1 i e)
          | .done (s2, now) =>
            let s3 := s2.onCtx i fun c => countRecv c (chunkIdOf p).seg
            .next (tryComplete (if now then sendCredit s3 i
              else s3.onCtx i fun c => { c with unconsumed := c.unconsumed ++ [seq] }) i)

/-- COLL_GRANT: a successor's GRANT reaches its context, or is kept for a collective that has not started; a context that has
had its GRANT belongs to an earlier one (R476, R484). -/
def execCollGrant (s : State) : Res :=
  match takePacket s fun x => x.pkt.typ == .chunk && chunkKind x.pkt == 1 && !stairHolds s x.pkt.wing with
  | none => .next s
  | some (x, s1) =>
    let p := x.pkt
    if !spanTest s1 p then .next s1
    else
      let g : PendGrant := { src := p.src, wing := p.wing, flit := p.data }
      let kept := s1.onStair fun t => { t with grants := (t.grants ++ [g]).drop (t.grants.length + 1 - 64) }
      match ctxFor s1 p true with
      | some i =>
        if (s1.stair.ctxs.get i).st = .starting then .next (tryComplete (takeGrant s1 i p.data) i)
        else if (s1.stair.ctxs.get i).window = 0 then .next s1
        else .next kept
      | none => .next kept

/-- COLL_CREDIT: chunks up to the SEQ credited are released; the collective may be complete (R488, R491). -/
def execCollCredit (s : State) : Res :=
  match takePacket s fun x => x.pkt.typ == .chunk && chunkKind x.pkt == 2 && !stairHolds s x.pkt.wing with
  | none => .next s
  | some (x, s1) =>
    let p := x.pkt
    if !spanTest s1 p then .next s1
    else match ctxFor s1 p true with
      | none => .next s1
      | some i =>
        let seq : W16 := BitVec.ofNat 16 (fieldAt p.data 22 2)
        let kept (k : Chunk) : Bool := decide (32768 ≤ (seq - k.seq).toNat)
        .next (tryComplete (s1.onCtx i fun c =>
          { c with uncredited := c.uncredited.filter kept, resend := c.resend.filter kept }) i)

/-! ### Chunks sent (R486-R488) -/

/-- Order of R487 as one number. -/
def chunkKey (k : ChunkId) : Nat := ((k.seg * 2 + b2n k.gather) * 128 + k.step) * 65536 + k.chunk

/-- The lowest chunk ready, of those formed from received ones. -/
def firstReady (c : Ctx) : Option Chunk :=
  c.ready.foldl (fun o k => match o with
    | none => some k
    | some b => if chunkKey k.id < chunkKey b.id then some k else some b) none

/-- The lowest chunk of the member's own data. -/
def firstLocal (c : Ctx) : Option ChunkId :=
  c.locals.foldl (fun o l =>
    let k : ChunkId := { seg := l.1, gather := !c.par.hasRs, step := 0, chunk := l.2 }
    match o with
    | none => some k
    | some b => if chunkKey k < chunkKey b then some k else some b) none

/-- A chunk goes to the successor under the next SEQ and is kept until credited (R488). -/
def emitChunk (s : State) (i : Fin 8) (k : Chunk) : State :=
  let c := s.stair.ctxs.get i
  let k' : Chunk := { k with seq := c.nextSeq, seqIn := none }
  let s1 := (sendChunk s c c.succ (chunkBytes c k')).onCtx i fun c =>
    { c with nextSeq := c.nextSeq + 1, uncredited := c.uncredited ++ [k'], sent := c.sent + 1, sendLeft := c.sendLeft - 1,
             ready := c.ready.erase k }
  match k.seqIn with
  | some q => consume s1 i q
  | none => s1

/-- A chunk of the member's own data is read and sent; the owner of an ALL_GATHER writes its block (R481, R486). -/
def emitLocal (s : State) (i : Fin 8) (id : ChunkId) : State :=
  let c := s.stair.ctxs.get i
  let block := if c.par.hasRs then (c.rank + c.n - 1) % c.n else c.rank
  match localRead s c id.seg block id.chunk with
  | .wait _ => s
  | .fault e => accessAbort s i e
  | .done (bs, s1) =>
    let k : Chunk := { id := id, block := block, data := bs, crc := chunkCrc c.par.collId id block bs,
                       origin := s.fabric.devAddr, seq := 0, seqIn := none }
    let next (s : State) : State := s.onCtx i fun c =>
      { c with locals := c.locals.filterMap fun l =>
          if l.1 = id.seg then (if l.2 + 1 < c.chunks then some (l.1, l.2 + 1) else none) else some l }
    if c.par.kind = 3 then
      match localWrite s1 i id.seg block id.chunk bs with
      | .wait _ => s
      | .fault e => accessAbort s i e
      | .done s2 => emitChunk (next s2) i k
    else emitChunk (next s1) i k

/-- COLL_CHUNK_SEND: a context sends a chunk again, or the lowest ready one within the window (R487, R488, R495). -/
def execCollChunkSend (i : Fin 8) (s : State) : Res :=
  let c := s.stair.ctxs.get i
  if c.st ≠ .running ∨ stairHolds s c.wing then .next s
  else match c.resend with
    | k :: rest =>
      .next ((sendChunk s c c.succ (chunkBytes c k)).onCtx i fun c => { c with resend := rest, sent := c.sent + 1 })
    | [] =>
      if c.window ≤ c.uncredited.length then .next s
      else match firstReady c, firstLocal c with
        | some k, some l => if chunkKey l ≤ chunkKey k.id then .next (tryComplete (emitLocal s i l) i)
                            else .next (tryComplete (emitChunk s i k) i)
        | some k, none => .next (tryComplete (emitChunk s i k) i)
        | none, some l => .next (tryComplete (emitLocal s i l) i)
        | none, none => .next s

/-- The Room of a segment: its rank in the mask is the segment modulo the number of Rooms (R482). -/
def segRoom (c : Ctx) : Option RoomId :=
  let rs := onesOf c.par.mask
  if rs.length = 0 then none else rs[c.nextSeg % rs.length]?

/-- SEGMENT_HANDLE_POP: handles of finished segments are pushed where they waited, and the next segment's handle is popped
from IN_Q; one smaller than a segment aborts with 0x0C09, a bad one with 0x0805 (R316, R482, R493). -/
def execSegmentHandlePop (i : Fin 8) (s0 : State) : Res :=
  let s := tryComplete s0 i
  let c := s.stair.ctxs.get i
  if c.st ≠ .running ∨ !c.par.hq ∨ stairHolds s c.wing ∨ c.segs ≤ c.nextSeg then .next s
  else match segRoom c with
    | none => .next s
    | some r =>
      match ((s.room r).hqs.get c.par.inQ).handles with
      | [] => .next s
      | h :: _ =>
        let small := decide (64 * handleSlots h < c.par.segBytes)
        let ok := handleOk (s.room r) r c.par.inQ h
        let s1 := (s.onRoom r fun x => hqDrop x c.par.inQ).onCtx i fun c =>
          { c with handles := c.handles ++ [{ seg := c.nextSeg, room := r, handle := h, left := c.perSeg, used := ok && !small }],
                   nextSeg := c.nextSeg + 1 }
        if !ok then .next (abortCtx s1 i 0x0805)
        else if small then .next (abortCtx s1 i 0x0C09)
        else .next (s1.onCtx i fun c => { c with locals := c.locals ++ [(c.nextSeg - 1, 0)] })

/-! ### Timeouts and aborts (R492-R495) -/

/-- The context can make no progress without a packet from another member: it waits for no handle, has nothing to send and
is not frozen (R482, R492, R495). -/
def ctxStuck (s : State) (c : Ctx) : Bool :=
  !stairHolds s c.wing &&
  (c.st == .starting ||
    (c.st == .running && c.resend.isEmpty && ((c.ready.isEmpty && c.locals.isEmpty) || decide (c.window ≤ c.uncredited.length)) &&
      (!c.par.hq || (decide (c.nextSeg = c.segs) &&
        c.handles.all fun h => decide (h.left ≠ 0) || c.locals.any fun l => l.1 == h.seg))))

/-- COLL_TIMEOUT: WAIT mode raises 0x0C04 and keeps waiting, ABORT mode aborts with that cause (R492). -/
def execCollTimeout (i : Fin 8) (s : State) : Res :=
  let c := s.stair.ctxs.get i
  if !ctxStuck s c then .next s
  else if c.par.abortMode then .next (abortCtx s i 0x0C04)
  else .next (logCond s 0x0C04 (wingByte c.wing) (BitVec.ofNat 8 i.1) c.par.collId)

/-- STW_CTX_ABORT: host software aborts a context (R493, R502). -/
def stwCtxAbortOp (i : Fin 8) (s : State) : Res :=
  if (s.stair.ctxs.get i).st = .free ∨ (s.stair.ctxs.get i).st = .aborting then .next s
  else .next (abortCtx s i 0x0C07)

/-- STW_CTX_ABORT as a BAR access of the host (R151, R157, R549). -/
def execStwCtxAbort (i : Fin 8) (s : State) : Res := barGo s (bar0 (0x160210 + 32 * i.1) 1) 3 (stwCtxAbortOp i s)

/-- What DST or a handle holds after an abort is not defined: its bytes are free values (R493). -/
def spoilData (s : State) (c : Ctx) : State :=
  if c.par.hq then
    (c.handles.filter (·.used)).foldl (fun s h =>
      (s.onRoom h.room fun x => pantryWrite x (64 * handleStart h.handle)
        ((List.range c.par.segBytes).map fun k => Config.freeByte s.free (64 * handleStart h.handle + k))).draw) s
  else
    let n := if c.par.kind = 2 then c.par.length / c.n else c.par.length
    (wingRuns s c.wing c.par.dst n).foldl (fun s r => s.onLarder fun l => { l with mem := cellClear l.mem r.1 r.2.2 }) s

/-- ABORT_HOLD_EXPIRY: 100 µs after its first abort a member completes with 0x0C05, the lowest cause and its lowest
detector; handles not pushed go to OUT_Q, and the record waits for those that find it full (R482, R493). -/
def execAbortHoldExpiry (i : Fin 8) (s : State) : Res :=
  let c := s.stair.ctxs.get i
  if c.st ≠ .aborting ∨ stairHolds s c.wing then .next s
  else
    let s1 := c.handles.foldl (fun s h =>
      if 32 ≤ ((s.room h.room).hqs.get c.par.outQ).handles.length then s
      else (putHandle s h.room c.par.outQ h.handle).onCtx i fun c => { c with handles := c.handles.erase h }) (spoilData s c)
    let result := c.cause.toNat + c.detector.toNat * 2 ^ 16 + (c.written % 2 ^ 32) * 2 ^ 32
    if (s1.stair.ctxs.get i).handles ≠ [] then .next s1
    else .next (closeCtx (logCond s1 0x0C05 (wingByte c.wing) (BitVec.ofNat 8 i.1) c.par.collId) i 0x0C05 result)

/-- The fields of a COLL_ABORT (R500). -/
def abortOf (p : Packet) : AbortRec :=
  { collId := BitVec.ofNat 32 (fieldAt p.data 0 4), groupTag := BitVec.ofNat 16 (fieldAt p.data 4 2),
    wing := ⟨fieldAt p.data 10 1 % 16, Nat.mod_lt _ (by decide)⟩, cause := BitVec.ofNat 16 (fieldAt p.data 6 2),
    detector := BitVec.ofNat 12 (fieldAt p.data 8 2) }

/-- COLL_ABORT: taken into the context it names, or kept among the 16 most recent records (R493, R494). -/
def execCollAbort (s : State) : Res :=
  match takePacket s fun x => x.pkt.typ == .collAbort && !stairHolds s (abortOf x.pkt).wing with
  | none => .next s
  | some (x, s1) =>
    let a := abortOf x.pkt
    let p : Packet := { x.pkt with wing := a.wing }
    if !spanTest s1 p then .next s1
    else match lowest s1.stair.ctxs fun _ c => c.st != .free && c.par.collId == a.collId && c.groupTag == a.groupTag &&
        c.wing == a.wing with
      | some i => .next (takeAbort s1 i a.cause a.detector)
      | none => .next (s1.onStair fun t =>
          { t with abortRecs := (t.abortRecs ++ [a]).drop (t.abortRecs.length + 1 - 16) })

/-- ABORT_RECORD_EXPIRY: the oldest abort record is 1 s old (R494). -/
def execAbortRecordExpiry (s : State) : Res := .next (s.onStair fun t => { t with abortRecs := t.abortRecs.drop 1 })

end Sys2Proof.Machine
end

