-- ==== Sys2Proof/Machine/Registers.lean ====
section
/-!
DEFINITION. Machine/Registers.lean: the BAR0 register map (R176, R177, R181, R212, R237, R261, R293, R330, R331, R397, R429,
R473, R474, R501, R502, R536, R561), its reads and writes, and the BAR accesses of the host.
-/
namespace Sys2Proof.Machine
open Sys2Proof

/-- The state that an operation on the device leaves. -/
def after (s : State) (r : Res) : State :=
  match r with
  | .next t => t
  | _ => s

/-! ### Numbers of a register page -/

/-- Index of an offset in pages of `size` from `base`. -/
def pageAt (off base size n : Nat) : Option (Fin n) := if off < base then none else idx n ((off - base) / size)

/-- The low or the high word of a 64-bit register. -/
def half64 (v : Nat) (off : Nat) : Nat := if off % 8 = 0 then v % 2 ^ 32 else v / 2 ^ 32

/-! ### Reads: the word at an offset that is a multiple of 4; `none` at a reserved offset -/

/-- A ring-page word (R177). -/
def ringWord (s : State) (w : WingId) (o : Nat) : Option Nat :=
  let r := s.ring w
  match o with
  | 0x000 => some (b2n r.en)
  | 0x004 => some (r.inflight.toNat * 65536 + holdCode s w * 256 + b2n r.active)
  | 0x008 | 0x00C => some (half64 r.sqBase.toNat o)
  | 0x010 => some r.sqSize.toNat
  | 0x014 => some r.sqTail.toNat
  | 0x018 => some r.sqHead.toNat
  | 0x01C => some r.cqSize.toNat
  | 0x020 | 0x024 => some (half64 r.cqBase.toNat o)
  | 0x028 => some r.cqHead.toNat
  | 0x02C => some (b2n r.phase * 65536 + r.cqTail.toNat)
  | 0x030 | 0x034 => some (half64 r.cqMirror.toNat o)
  | 0x038 => some r.holdoff.toNat
  | 0x03C => some r.attn.toNat
  | 0x040 => some r.attnEn.toNat
  | 0x044 => some r.ringErr.toNat
  | 0x048 | 0x04C => some (half64 r.jobsDone.toNat o)
  | _ => none

/-- A mailbox word (R123). -/
def mailboxWord (s : State) (w : WingId) (k : Fin 4) (o : Nat) : Option Nat :=
  let x := s.mbxSlot w k
  if o < 0x400 then some (fieldAt x.reqBuf o 4)
  else if o < 0x7F0 then some (fieldAt x.ansBuf (o - 0x400) 4)
  else if o = 0x7F0 then some 0
  else if o = 0x7F4 then
    some (x.gen.toNat * 2 ^ 24 + b2n x.ready * 2 ^ 23 + b2n (mbxOpen s w k) * 2 ^ 22 + b2n (mbxWanted s w k) * 2 ^ 21 +
      b2n x.more * 2 ^ 20 + x.ansSeg.toNat * 2 ^ 16 + x.ansLen.toNat)
  else none

/-- A Hatch control word (R181). -/
def hatchWord (s : State) (w : WingId) (o : Nat) : Option Nat :=
  let h := s.hatch w
  match o with
  | 0x000 => some (hatchCtrl h)
  | 0x004 => some (h.errCode.toNat * 65536 + b2n h.err * 32768 + h.lines.length * 256 + b2n (engineBusy s w))
  | 0x008 | 0x00C => some (half64 h.addr.toNat o)
  | 0x010 | 0x014 => some (half64 h.win.toNat o)
  | 0x018 | 0x01C => some (half64 h.count.toNat o)
  | _ => none

/-- A comparator word (R212). -/
def cmpWord (c : Cmp) (o : Nat) : Option Nat :=
  match o with
  | 0x00 => some (b2n c.held * 16 + c.wing.1)
  | 0x04 => some (cmpCtrlWord c.room c.late c.fired c.event c.record c.arm + c.missed.toNat * 256)
  | 0x08 | 0x0C => some (half64 c.time.toNat o)
  | 0x10 | 0x14 => some (half64 c.recAddr.toNat o)
  | 0x18 => some c.period.toNat
  | _ => none

/-- STATE of a Landing (R237). -/
def streamCode : StreamSt → Nat
  | .free => 0 | .running => 1 | .draining => 2 | .faulted => 3 | .paused => 4

/-- A Landing word (R237). -/
def landWord (s : State) (n : Fin 64) (o : Nat) : Option Nat :=
  let x := s.cellar.streams.get n
  if x.st = .free then (if o < 0x1C then some 0 else none)
  else match o with
    | 0x00 => some ((if x.remote then x.source.toNat * 2 ^ 20 + 2 ^ 19 else 0) + x.image.1 * 2 ^ 14 + x.room.1 * 2 ^ 9 +
        x.wing.1 * 32 + streamCode x.st)
    | 0x04 => some (x.rate * 2 ^ 20 + timeToDry s n)
    | 0x08 => some x.issued.toNat
    | 0x0C => some x.delivered.toNat
    | 0x10 => some (x.landed.length * 256 + x.flight.length)
    | 0x14 => some (if x.st = .faulted then x.cond.toNat else 0)
    | 0x18 => some (x.runs * x.runPages % 2 ^ 32)
    | _ => none

/-- An upkeep word (R261). -/
def upkeepWord (s : State) (i : StoreyId) (o : Nat) : Option Nat :=
  let k := s.stack i
  match o with
  | 0x00 => some ((k.queue.length + b2n k.reloc.isSome) % 4096 * 2 ^ 16 + (k.blocks.filter fun b => b.2.st == .toErase).length % 4096 * 16 +
      b2n k.scrubActive * 8 + b2n k.recovering * 4 + StackSt.code k.st)
  | 0x04 => some (k.passes.toNat * 65536 + k.nextBlock.toNat)
  | 0x08 => some (k.tmean.toNat * 65536 + k.periodH.toNat)
  | 0x0C => some (k.mapResult.toNat * 2 ^ 30 + k.discarded.toNat * 2 ^ 20 + k.orphans.toNat * 2 ^ 10 + k.reerased.toNat)
  | 0x10 => some 0
  | 0x14 => some (erasedBlocks s k).length
  | _ => none

/-- A region-table word (R293). -/
def regionWord (r : Region) (o : Nat) : Option Nat :=
  match o with
  | 0x0 => some r.base.toNat
  | 0x4 => some r.limit.toNat
  | 0x8 => some (2 * b2n r.uncached + b2n r.en)
  | _ => none

/-- KIND of a handle queue (R330). -/
def HandleQ.cfgWord (q : HandleQ) : Nat := hqCfgWord q.kind q.task q.destRoom q.destQ q.auxQ

/-- STATUS of a stream: RUNNING, loop depth, and the place of the next command, in steps of `unit` below `size` bytes (R397). -/
def Strm.status (t : Strm) (unit size : Nat) : Nat :=
  b2n t.running * 2 ^ 31 + t.loops.length * 2 ^ 28 + t.pc % size / unit * unit

/-- ROOM_HX_STAT (R429). -/
def hxStat (c : Compute) : Nat :=
  c.topList.length * 2 ^ 18 + (match c.accType with | .empty => 0 | .int => 1 | .float => 2) * 2 ^ 16 + 4 * b2n c.ovf +
    2 * b2n c.nan + b2n c.isat

/-- ROOM_AS_BIND (R397). -/
def bindWord (a : AStream) : Nat :=
  leNat ((List.finRange 4).map fun b => match a.bind.get b with | some n => BitVec.ofNat 8 n.1 | none => 0xFF)

/-- The Room watch has counted cycles, which the model does not have (R326, R327). -/
def watchCounts (x : Room) : Bool :=
  x.st == .watched || x.st == .halted || ((x.st == .running || x.st == .frozen || x.st == .debugHalt) && agentsStalled x)

/-- A word of a Room's register page (R330, R397, R429). -/
def roomWord (x : Room) (o : Nat) : Option Nat :=
  match o with
  | 0x000 => some (b2n x.modeToken)
  | 0x004 => some (x.taskRange.toNat * 16 + x.task.toNat)
  | 0x008 => some (x.winLen.toNat * 65536 + x.winBase.toNat)
  | 0x010 => some 0
  | 0x014 => some x.prResult.toNat
  | 0x018 => some x.waitLimit.toNat
  | 0x01C => some (x.overrun.toNat * 256 + x.underrun.toNat)
  | 0x020 => some x.watchCount.toNat
  | 0x080 => some (x.astream.strm.status 8 0x4000)
  | 0x088 | 0x08C => some (half64 x.astream.strm.count.toNat o)
  | 0x090 => some (x.xstream.status 2 0x8000)
  | 0x098 | 0x09C => some (half64 x.xstream.count.toNat o)
  | 0x0A0 | 0x0A4 => some (half64 x.astream.strm.bkc.toNat o)
  | 0x0A8 => some x.astream.strm.bkt.toNat
  | 0x0B0 | 0x0B4 => some (half64 x.xstream.bkc.toNat o)
  | 0x0B8 => some x.xstream.bkt.toNat
  | 0x0C0 => some (x.sdbgWhich.toNat * 4 + b2n x.sdbgHalt)
  | 0x0C4 => some (bindWord x.astream)
  | 0x0C8 => some (x.xstream.preds.toNat * 256 + x.astream.strm.preds.toNat)
  | 0x0D0 => some x.compute.cfg.toNat
  | 0x0D4 => some (hxStat x.compute)
  | 0x0D8 => some x.compute.sreg.toNat
  | 0x300 => some (b2n x.peekForce * 2 ^ 30 + b2n x.peekTagSet * 2 ^ 29 + b2n x.peekTagRead * 2 ^ 28 + b2n x.peekDone * 2 ^ 27 +
      x.peekSlot.toNat)
  | _ =>
    if 0x040 ≤ o ∧ o < 0x080 then
      (idx 16 ((o - 0x40) / 4)).map fun r =>
        let p := x.ranges.get r
        b2n p.held * 2 ^ 31 + p.task.toNat * 2 ^ 26 + p.base.toNat * 2 ^ 11 + p.lenM1.toNat
    else if 0x100 ≤ o ∧ o < 0x200 then
      (idx 32 ((o - 0x100) / 8)).map fun q =>
        if o % 8 = 0 then (x.hqs.get q).cfgWord else (x.hqs.get q).dev.toNat
    else if 0x200 ≤ o ∧ o < 0x280 then
      (idx 32 ((o - 0x200) / 4)).map fun q => (x.hqs.get q).moves.toNat * 65536 + (x.hqs.get q).handles.length
    else if 0x340 ≤ o ∧ o < 0x380 then some (fieldAt x.peekData (o - 0x340) 4)
    else none

/-- DW_FAB_STATUS (R473). -/
def fabStatus (f : Fabric) : Nat :=
  f.epoch.toNat * 65536 + 16 * b2n f.candidate + 8 * b2n f.isMaster + 4 * b2n f.assignWait +
    (match f.censusSt with | .none => 0 | .running => 1 | .done => 2)

/-- A fabric-page word (R473). -/
def fabricWord (s : State) (o : Nat) : Option Nat :=
  if o = 0 then some s.fabric.en.toNat
  else if o = 4 then some (fabStatus s.fabric)
  else if 0x100 ≤ o ∧ o < 0x160 ∧ o % 16 < 12 then
    match idx 6 ((o - 0x100) / 16), idx 3 (o % 16 / 4) with
    | some d, some p => some (b2n ((s.door d).claims.get p).held * 16 + ((s.door d).claims.get p).wing.1)
    | _, _ => none
  else if 0x400 ≤ o ∧ o < 0x500 then (idx 64 ((o - 0x400) / 4)).map fun n => (s.fabric.routes.get n).toNat
  else none

/-- A Doorway-page word (R474). -/
def doorWord (x : Doorway) (o : Nat) : Option Nat :=
  match o with
  | 0x00 => some (b2n x.peerLocked * 2 ^ 13 + b2n x.rxLocked * 2 ^ 12 + x.laneMask.toNat * 256 + popCount x.laneMask * 32 +
      stageCode x.stage * 4 + DoorSt.code x.st)
  | 0x04 => some x.delay.toNat
  | 0x08 => some x.discards.toNat
  | 0x0C => some x.late.toNat
  | _ => if o < 0x10 then none else (idx 8 ((o - 0x10) / 4)).map fun v => (x.credits.get v).2 * 65536 + (x.credits.get v).1

/-- STATE of a Stairwell context: HELD while its wing is frozen (R495, R502). -/
def ctxCode (s : State) (c : Ctx) : Nat :=
  match c.st with
  | .free => 0
  | .aborting => 4
  | .starting => if stairHolds s c.wing then 3 else 1
  | .running => if stairHolds s c.wing then 3 else 2

/-- A Stairwell context word (R502). -/
def ctxWord (s : State) (i : Fin 8) (o : Nat) : Option Nat :=
  let c := s.stair.ctxs.get i
  match o with
  | 0x00 => some (if c.st = .free then 0 else
      b2n c.par.abortMode * 2 ^ 25 + b2n c.par.hq * 2 ^ 24 + (c.n - 1) * 2 ^ 16 + c.rank * 256 + c.wing.1 * 16 + ctxCode s c)
  | 0x04 => some c.par.collId.toNat
  | 0x08 => some c.sent.toNat
  | 0x0C => some c.recv.toNat
  | 0x10 => some 0
  | 0x14 => some (if c.st = .aborting then c.detector.toNat * 65536 + c.cause.toNat else 0)
  | _ => none

/-- Parlour context state (R536). -/
def parlourCode : ParlourSt → Nat
  | .free => 0 | .claimed => 1 | .running => 2 | .waiting => 3 | .paused => 4 | .stopped => 5

/-- PORCH_STATUS (R536). -/
def porchStatus (p : Porch) : Nat :=
  (((List.finRange 64).filter fun g => 4 ≤ g.1 && !(p.pages.get g).held && !(p.pages.get g).zeroing).length) * 65536 +
    ((List.finRange 16).map fun k => if (p.streams.get k).st = .running then 2 ^ k.1 else 0).foldl (· + ·) 0

/-- A Porch-page word (R536). -/
def porchWord (p : Porch) (o : Nat) : Option Nat :=
  match o with
  | 0x000 => some (porchStatus p)
  | 0x010 => some (p.parlour.base.toNat * 65536)
  | 0x014 => some (p.parlour.cur.at_ * 65536 + parlourCode p.parlour.st)
  | 0x018 => some p.parlour.cond.toNat
  | 0x01C => some (parResult p.parlour)
  | _ =>
    if 0x100 ≤ o ∧ o < 0x140 then
      some (leNat ((List.range 4).map fun i => match idx 64 (o - 0x100 + i) with
        | some g => BitVec.ofNat 8 (b2n (p.pages.get g).held * 128 + (p.pages.get g).wing.1)
        | none => 0))
    else none

/-- A domain-page word (R561). -/
def domainWord (s : State) (o : Nat) : Option Nat :=
  match o with
  | 0x00 => some (s.sys.domGate.toNat * 128)
  | 0x04 => some (s.sys.domHold.toNat * 128)
  | 0x08 => some s.sys.roomHold.toNat
  | 0x0C => some (quietMask s).toNat
  | 0x10 => some s.sys.roomInval.toNat
  | 0x14 => some s.sys.clkRunning.toNat
  | _ => none

/-- A word of a Room's register page as it is read: ROOM_WATCH_COUNT is a free value while the watch has counted. -/
def roomRead (s : State) (r : RoomId) (o : Nat) : Option Nat :=
  if o = 0x020 ∧ watchCounts (s.room r) = true then some ((Config.free64 s.free).toNat % 2 ^ 32) else roomWord (s.room r) o

/-- An MSI-X table word (R147, R176). -/
def msixWord (v : MsixVec) (o : Nat) : Nat :=
  if o < 8 then half64 v.addr.toNat o else if o < 12 then v.data.toNat else b2n v.masked

/-- FOY_HOST_STATUS (R176, R571, R573). -/
def hostStatus (s : State) : Nat := b2n s.host.ready * 256 + (if s.sys.larderFailed then 0xF4 else s.sys.bootStage.toNat)

/-- The 32-bit word at a BAR0 offset, a multiple of 4; `none` at a reserved offset (R176). -/
def regWord (s : State) (off : Nat) : Option Nat :=
  if off = 0 then some (hostStatus s)
  else if off < 0x1000 then none
  else if off < 0x1200 then (pageAt off 0x1000 16 32).map fun v => msixWord (s.host.msix.get v) (off % 16)
  else if off = 0x1800 then some (leNat (leBytes 4 (((List.finRange 32).map fun v =>
      if (s.host.msix.get v).pending then 2 ^ v.1 else 0).foldl (· + ·) 0)))
  else if off = 0x1804 then some 0
  else if off < 0x10000 then none
  else if off < 0x20000 then (pageAt off 0x10000 0x1000 16).bind fun w => ringWord s w (off % 0x1000)
  else if off < 0x40000 then
    (pageAt off 0x20000 0x2000 16).bind fun w => (idx 4 (off % 0x2000 / 0x800)).bind fun k => mailboxWord s w k (off % 0x800)
  else if off < 0x50000 then (pageAt off 0x40000 0x1000 16).bind fun w => hatchWord s w (off % 0x1000)
  else if off < 0x110000 then none
  else if off < 0x110800 then (pageAt off 0x110000 32 64).bind fun n => cmpWord (s.phase.cmps.get n) (off % 32)
  else if off = 0x110800 then some (s.phase.time.toNat % 2 ^ 32)
  else if off = 0x110804 then some s.phase.nowHigh.toNat
  else if off < 0x120000 then none
  else if off < 0x121000 then (pageAt off 0x120000 64 64).bind fun n => landWord s n (off % 64)
  else if off < 0x121100 then (pageAt off 0x121000 64 4).bind fun i => upkeepWord s i (off % 64)
  else if off < 0x130000 then none
  else if off < 0x130100 then (pageAt off 0x130000 16 16).bind fun n => regionWord (s.larder.regions.get n) (off % 16)
  else if off < 0x140000 then none
  else if off < 0x148000 then (pageAt off 0x140000 0x400 32).bind fun r => roomRead s r (off % 0x400)
  else if off < 0x148400 then
    (pageAt off 0x148000 0x100 4).bind fun i =>
      if off % 0x100 = 0 then some ((s.storey i).lockstep.toNat * 256 + (s.storey i).gang.toNat) else none
  else if off < 0x150000 then none
  else if off < 0x151000 then fabricWord s (off - 0x150000)
  else if off < 0x151600 then (pageAt off 0x151000 0x100 6).bind fun d => doorWord (s.door d) (off % 0x100)
  else if off < 0x160000 then none
  else if off < 0x160100 then (pageAt off 0x160000 8 32).map fun g => half64 (s.stair.groups.get g).toNat off
  else if off < 0x160200 then none
  else if off < 0x160300 then (pageAt off 0x160200 32 8).bind fun i => ctxWord s i (off % 32)
  else if off < 0x170000 then none
  else if off < 0x171000 then porchWord s.porch (off - 0x170000)
  else if off < 0x180000 then none
  else if off < 0x180018 then domainWord s (off - 0x180000)
  else none

/-- The clock domain of a BAR0 offset (R539): HOST below 0x10_0000, then the block's. -/
def regDomain (off : Nat) : Nat :=
  if off < 0x100000 then 2
  else if off < 0x120000 then 1
  else if off < 0x130000 then 6
  else if off < 0x140000 then 3
  else if off < 0x148000 then 7 + (off - 0x140000) / 0x2000
  else if off < 0x150000 then 7 + (off - 0x148000) / 0x100
  else if off < 0x151000 then 1
  else if off < 0x160000 then 11 + (off - 0x151000) / 0x100
  else if off < 0x170000 then 3
  else if off < 0x180000 then 4
  else 1

/-- Every byte of an access is a register. -/
def regMapped (s : State) (off n : Nat) : Bool := (List.range (n / 4)).all fun i => (regWord s (off + 4 * i)).isSome

/-- A naturally aligned 32-bit or 64-bit access (R156). -/
def regShape (off n : Nat) : Bool := (n == 4 || n == 8) && off % n == 0

/-- What a read does beside answering: PH_NOW's low word latches the high one, PORCH_PAR_RESULT clears RDY, a free value is used
up (R212, R529). -/
def regReadEffect (s : State) (off n : Nat) : State :=
  if off = 0x110800 ∧ n = 4 then s.onPhase fun p => { p with nowHigh := BitVec.ofNat 32 (p.time.toNat / 2 ^ 32) }
  else if 0x140000 ≤ off ∧ off < 0x148000 ∧ off % 0x400 ≤ 0x20 ∧ 0x20 < off % 0x400 + n then s.draw
  else if off ≤ 0x17001C ∧ 0x17001C < off + n then s.onPorch fun p => { p with parlour := { p.parlour with rdy := false } }
  else s

/-- The bytes that a mapped read returns; a 64-bit read of PH_NOW is one instant (R212). -/
def regBytes (s : State) (off n : Nat) : List Byte :=
  if off = 0x110800 ∧ n = 8 then leBytes 8 s.phase.time.toNat
  else ((List.range (n / 4)).map fun i => leBytes 4 ((regWord s (off + 4 * i)).getD 0)).flatten

/-! ### Writes -/

/-- A 64-bit value with the word at `off` replaced. -/
def put64 (old : Nat) (off : Nat) (v : W32) : Nat :=
  if off % 8 = 0 then old / 2 ^ 32 * 2 ^ 32 + v.toNat else old % 2 ^ 32 + v.toNat * 2 ^ 32

/-- Reserved bits that a write sets are counted (R7). -/
def noteReserved (s : State) (v mask : Nat) : State := if v &&& mask = 0 then s else countReserved s 1

/-- A ring base, size or mirror may be written while EN is 0; with EN 1 the write is ignored and 0x0405 is raised (R158). -/
def ringConfig (s : State) (w : WingId) (f : Ring → Ring) : State :=
  if (s.ring w).en then ringCond s w 0x0405 else s.onRing w f

/-- Reserved bits of a ring base (R177). -/
def baseReserved : Nat := 0xFFFFFFF000000FFF

/-- A ring page written; 64-bit registers come whole (R177). -/
def ringStore (s : State) (w : WingId) (o : Nat) (v : Nat) : State :=
  match o with
  | 0x000 =>
    let s1 := noteReserved s v 0xFFFFFFFE
    if v.testBit 0 then after s1 (ringEnableOp w s1) else after s1 (ringDisableOp w s1)
  | 0x004 => noteReserved s v 0xF0FE
  | 0x008 => ringConfig (noteReserved s v baseReserved) w fun r => { r with sqBase := BitVec.ofNat 64 (v &&& 0xFFFFFF000) }
  | 0x010 => ringConfig s w fun r => { r with sqSize := BitVec.ofNat 4 v }
  | 0x014 => after s (sqDoorbellOp w (BitVec.ofNat 12 v) s)
  | 0x01C => ringConfig s w fun r => { r with cqSize := BitVec.ofNat 4 v }
  | 0x020 => ringConfig (noteReserved s v baseReserved) w fun r => { r with cqBase := BitVec.ofNat 64 (v &&& 0xFFFFFF000) }
  | 0x028 => after s (cqHeadWriteOp w (BitVec.ofNat 12 v) s)
  | 0x030 => ringConfig (noteReserved s v 0xFFF) w fun r => { r with cqMirror := BitVec.ofNat 64 (v &&& 0xFFFFFFFFFFFFF000) }
  | 0x038 => s.onRing w fun r => { r with holdoff := BitVec.ofNat 10 v }
  | 0x03C =>
    (noteReserved s v (if w = 0 then 0xFFFFFFC0 else 0xFFFFFFE0)).onRing w fun r => { r with attn := r.attn &&& ~~~BitVec.ofNat 6 v }
  | 0x040 =>
    (noteReserved s v (if w = 0 then 0xFFFFFFC0 else 0xFFFFFFE0)).onRing w fun r =>
      { r with attnEn := BitVec.ofNat 6 (v &&& (if w = 0 then 0x3E else 0x1E)) }
  | _ => s

/-- FOY_MBX_CTRL written: CANCEL acts before GO, and a write with neither and NEXT releases the segment shown; reserved bits
are counted (R117, R118, R123). -/
def mbxCtrlStore (s : State) (w : WingId) (k : Fin 4) (v : Nat) : State :=
  let s1 := noteReserved s v 0xF8000FE0
  if v.testBit 1 then after s1 (mbxCancelOp w k s1)
  else
    let s2 := if v.testBit 4 then after s1 (mbxNextOp w k s1) else s1
    if v.testBit 0 then
      after s2 (mbxGoOp w k (BitVec.ofNat 4 (bitsOf v 15 12)) (bitsOf v 26 16) (v.testBit 3) (v.testBit 2) s2)
    else s2

/-- A mailbox slot written (R123). -/
def mailboxStore (s : State) (w : WingId) (k : Fin 4) (o : Nat) (v : Nat) (n : Nat) : State :=
  if o < 0x400 then
    s.onMbx w k fun x => { x with reqBuf := putAt ((x.reqBuf ++ List.replicate 1024 0).take 1024) o (leBytes n v) }
  else if o = 0x7F0 then mbxCtrlStore s w k v
  else if o = 0x7F4 then noteReserved s v 0xFC00
  else s

/-- A Hatch control page written (R171, R173, R181). -/
def hatchStore (s : State) (w : WingId) (o : Nat) (v : Nat) : State :=
  match o with
  | 0x000 =>
    let d := bitsOf v 15 8
    let ok := decide (1 ≤ d ∧ d ≤ 16)
    let s1 := if ok && v &&& 0xFFFF00F8 == 0 then s else countReserved s 1
    s1.onHatch w fun h =>
      { h with raDepth := if ok then BitVec.ofNat 8 d else h.raDepth, winEn := v.testBit 1, raEn := v.testBit 0,
               lines := if v.testBit 2 then [] else h.lines }
  | 0x004 =>
    (noteReserved s v 0x60FE).onHatch w fun h => if v.testBit 15 then { h with err := false, errCode := 0 } else h
  | 0x008 => after s (hatchAddrWriteOp w (BitVec.ofNat 64 v) s)
  | 0x010 => (noteReserved s v 0xFFFFFFF000007FFF).onHatch w fun h => { h with win := BitVec.ofNat 36 (v &&& 0xFFFFF8000) }
  | _ => s

/-- A comparator written (R194-R197, R212). -/
def cmpStore (s : State) (n : Fin 64) (o : Nat) (v : Nat) : State :=
  let w : WingId := ⟨v % 16, by omega⟩
  match o with
  | 0x00 =>
    let s1 := noteReserved s v 0xFFFFFCE0
    if v.testBit 9 then after s1 (phCmpReleaseOp n w s1)
    else if v.testBit 8 then after s1 (phCmpClaimOp n w s1)
    else s1.onCmp n fun c => if c.held then c else { c with wing := w }
  | 0x04 =>
    let s1 := noteReserved s v 0xFF0700C8
    let room : RoomId := ⟨bitsOf v 23 19 % 32, by omega⟩
    if v.testBit 0 then after s1 (phCmpArmOp n room (v.testBit 5) (v.testBit 4) (v.testBit 2) (v.testBit 1) s1)
    else after s1 (phCmpDisarmOp n room (v.testBit 5) (v.testBit 4) (v.testBit 2) (v.testBit 1) s1)
  | 0x08 =>
    let s1 := noteReserved s v 0xFFFF000000000000
    after s1 (phCmpTimeWriteOp n (BitVec.ofNat 48 v) s1)
  | 0x10 =>
    let s1 := noteReserved s v 0xFFFFFFF00000000F
    after s1 (phCmpRecWriteOp n (BitVec.ofNat 36 v) s1)
  | 0x18 =>
    if !(s.phase.cmps.get n).held then ringCond s 0 0x0503
    else s.onCmp n fun c => { c with period := BitVec.ofNat 32 v }
  | _ => s

/-- ROOM_HX_CFG written: a field with a reserved value keeps its value; without effect while the X-stream runs (R9, R413,
R429). -/
def hxCfgStore (s : State) (r : RoomId) (v : Nat) : State :=
  if (s.room r).xstream.running then s
  else
    let old := (s.room r).compute.cfg.toNat
    let keep (hi lo : Nat) (ok : Nat → Bool) : Nat := (if ok (bitsOf v hi lo) then bitsOf v hi lo else bitsOf old hi lo) * 2 ^ lo
    let nz (x : Nat) : Bool := x != 0
    let bad := [(31, 28), (27, 24), (23, 20), (19, 16), (15, 12)].any (fun p => bitsOf v p.1 p.2 == 0) ||
      decide (4 < bitsOf v 7 5) || v.testBit 1
    let new := keep 31 28 nz + keep 27 24 nz + keep 23 20 nz + keep 19 16 nz + keep 15 12 nz + bitsOf v 11 8 * 256 +
      keep 7 5 (fun x => x ≤ 4) + bitsOf v 4 2 * 4 + bitsOf v 0 0
    (if bad then countReserved s 1 else s).onRoom r fun x => { x with compute := { x.compute with cfg := BitVec.ofNat 32 new } }

/-- ROOM_PEEK_CTRL written (R308, R330). -/
def peekStore (s : State) (r : RoomId) (v : Nat) : State :=
  let s1 := noteReserved s v 0x07FFC000
  let slot := BitVec.ofNat 14 v
  if v.testBit 31 then
    if v.testBit 30 then after s1 (pantryForceOp r slot (v.testBit 29) s1) else after s1 (pantryPeekOp r slot (v.testBit 29) s1)
  else s1.onRoom r fun x => { x with peekForce := v.testBit 30, peekTagSet := v.testBit 29, peekSlot := slot }

/-- KIND of a ROOM_HQ_CFG word (R330). -/
def kindOf (v : Nat) : HqKind :=
  match bitsOf v 31 30 with | 0 => .off | 1 => .local | 2 => .send | _ => .receive

/-- A Room register written; `bar` tells a BAR0 write from one of the Room's Newel, for which IDLE and RESUME are ignored
(R310, R315, R327, R330, R388, R397, R413, R429). -/
def roomStore (s : State) (r : RoomId) (bar : Bool) (o : Nat) (v : Nat) : State :=
  match o with
  | 0x000 =>
    let s1 := (noteReserved s v 0xFFFFFFFA).onRoom r fun x => { x with modeToken := v.testBit 0 }
    if bar && v.testBit 2 then after s1 (roomIdleOp r s1) else s1
  | 0x004 =>
    let s1 := noteReserved s v 0xFFFFFF00
    after s1 (roomTaskWriteOp r (BitVec.ofNat 4 v) (BitVec.ofNat 4 (v / 16)) s1)
  | 0x010 =>
    let range : Fin 16 := ⟨bitsOf v 29 26 % 16, by omega⟩
    let task := BitVec.ofNat 4 (bitsOf v 25 22)
    if v.testBit 31 then after s (pantryRangeReleaseOp r range task s)
    else if v.testBit 30 then after s (pantryRangeClaimOp r range task (BitVec.ofNat 11 (bitsOf v 21 11)) (BitVec.ofNat 11 v) s)
    else s
  | 0x018 => s.onRoom r fun x => { x with waitLimit := BitVec.ofNat 32 v }
  | 0x01C => s.onRoom r fun x =>
      { x with overrun := x.overrun &&& ~~~BitVec.ofNat 6 (v / 256), underrun := x.underrun &&& ~~~BitVec.ofNat 6 v }
  | 0x0A0 => s.onRoom r fun x =>
      { x with astream := { x.astream with strm := { x.astream.strm with bkc := BitVec.ofNat 64 v } } }
  | 0x0A8 => s.onRoom r fun x =>
      { x with astream := { x.astream with strm := { x.astream.strm with bkt := BitVec.ofNat 32 (v % 2 ^ 18) } } }
  | 0x0B0 => s.onRoom r fun x => { x with xstream := { x.xstream with bkc := BitVec.ofNat 64 v } }
  | 0x0B8 => s.onRoom r fun x => { x with xstream := { x.xstream with bkt := BitVec.ofNat 32 (v % 2 ^ 18) } }
  | 0x0C0 =>
    let s1 := s.onRoom r fun x => { x with sdbgHalt := v.testBit 0 }
    if bar && v.testBit 1 then after s1 (streamDebugResumeOp r s1) else s1
  | 0x0D0 => hxCfgStore s r v
  | 0x0D4 => (noteReserved s v 0xFE00FFF8).onRoom r fun x => { x with compute := { x.compute with
      ovf := x.compute.ovf && !v.testBit 2, nan := x.compute.nan && !v.testBit 1, isat := x.compute.isat && !v.testBit 0 } }
  | 0x300 => peekStore s r v
  | _ =>
    if 0x100 ≤ o ∧ o < 0x200 then
      match idx 32 ((o - 0x100) / 8) with
      | some q =>
        if o % 8 = 0 then
          let s1 := noteReserved s v 0x7FF
          after s1 (hqConfigWriteOp r q (kindOf v) (BitVec.ofNat 4 (bitsOf v 29 26)) ⟨bitsOf v 25 21 % 32, by omega⟩
            ⟨bitsOf v 20 16 % 32, by omega⟩ ⟨bitsOf v 15 11 % 32, by omega⟩ s1)
        else (noteReserved s v 0xFFFFF000).onRoom r fun x =>
          { x with hqs := vmod x.hqs q fun k => { k with dev := BitVec.ofNat 12 v } }
      | none => s
    else if 0x340 ≤ o ∧ o < 0x380 then s.onRoom r fun x => { x with peekData := putAt x.peekData (o - 0x340) (leBytes 4 v) }
    else s

/-- The fabric page written (R451, R463, R473). -/
def fabricStore (s : State) (o : Nat) (v : Nat) : State :=
  if o = 0 then
    let s1 := noteReserved s v 0xFFFFFEC0
    let s2 := after s1 (dwFabCtrlEnOp (BitVec.ofNat 6 v) s1)
    if v.testBit 8 then after s2 (censusNowOp s2) else s2
  else if 0x100 ≤ o ∧ o < 0x160 then
    match idx 6 ((o - 0x100) / 16), idx 3 (o % 16 / 4) with
    | some d, some p =>
      let w : WingId := ⟨v % 16, by omega⟩
      if v.testBit 9 then after s (dwVcReleaseOp d p w s)
      else if v.testBit 8 then after s (dwVcClaimOp d p w s)
      else s.onDoor d fun x => { x with claims := vmod x.claims p fun c => if c.held then c else { c with wing := w } }
    | _, _ => s
  else if 0x400 ≤ o then
    match idx 64 ((o - 0x400) / 4) with
    | some n => after s (dwRouteWriteOp n (BitVec.ofNat 32 v) s)
    | none => s
  else s

/-- The domain page written; others than the GATE and HOLD bits named are reserved (R553-R555, R561). -/
def domainStore (s : State) (o : Nat) (v : Nat) : State :=
  match o with
  | 0x00 => gateWrite (noteReserved s v 0xFFFFF87F) (BitVec.ofNat 32 v)
  | 0x04 => domHoldWrite (noteReserved s v 0xFFFE007F) (BitVec.ofNat 32 v)
  | 0x08 => roomHoldWrite s (BitVec.ofNat 32 v)
  | 0x10 => roomInvalWrite s (BitVec.ofNat 32 v)
  | _ => s

/-- An MSI-X table word written; unmasking sends a pending message (R147, R169). -/
def msixStore (s : State) (v : Fin 32) (o : Nat) (x : W32) : State :=
  let s1 := s.onHost fun h => { h with msix := vmod h.msix v fun e =>
    if o < 8 then { e with addr := BitVec.ofNat 64 (put64 e.addr.toNat o x) }
    else if o < 12 then { e with data := x } else { e with masked := x.getLsbD 0 } }
  if (s1.host.msix.get v).pending then signalVector s1 v else s1

/-- Offsets at which a 64-bit register starts whose halves are written together. -/
def wideReg (off : Nat) : Bool :=
  if off < 0x10000 then false
  else if off < 0x20000 then [0x008, 0x020, 0x030].contains (off % 0x1000)
  else if off < 0x40000 then false
  else if off < 0x50000 then [0x008, 0x010].contains (off % 0x1000)
  else if off < 0x110000 then false
  else if off < 0x110800 then [0x08, 0x10].contains (off % 32)
  else if off < 0x140000 then false
  else if off < 0x148000 then [0x0A0, 0x0B0].contains (off % 0x400)
  else 0x160000 ≤ off && off < 0x160100 && off % 8 == 0

/-- A whole register written: a 64-bit register at its own offset, any other as one word (R176). -/
def regStore (s : State) (off : Nat) (v : Nat) : State :=
  if off < 0x1000 then s
  else if off < 0x1200 then
    match pageAt off 0x1000 16 32 with | some k => msixStore s k (off % 16) (BitVec.ofNat 32 v) | none => s
  else if off < 0x10000 then s
  else if off < 0x20000 then
    match pageAt off 0x10000 0x1000 16 with | some w => ringStore s w (off % 0x1000) v | none => s
  else if off < 0x40000 then
    match pageAt off 0x20000 0x2000 16, idx 4 (off % 0x2000 / 0x800) with
    | some w, some k => mailboxStore s w k (off % 0x800) v 4
    | _, _ => s
  else if off < 0x50000 then
    match pageAt off 0x40000 0x1000 16 with | some w => hatchStore s w (off % 0x1000) v | none => s
  else if off < 0x110000 then s
  else if off < 0x110800 then
    match pageAt off 0x110000 32 64 with | some n => cmpStore s n (off % 32) v | none => s
  else if off < 0x121000 then s
  else if off < 0x121100 then
    match pageAt off 0x121000 64 4 with
    | some i =>
      if off % 64 = 0x10 then
        let s1 := noteReserved s v 0xFFFFFFFE
        if v.testBit 0 then after s1 (scrubNowOp i s1) else s1
      else s
    | none => s
  else if off < 0x130000 then s
  else if off < 0x130100 then
    match pageAt off 0x130000 16 16, idx 4 (off % 16 / 4) with
    | some n, some g => after s (regionEntryWriteOp n g (BitVec.ofNat 32 v) s)
    | _, _ => s
  else if off < 0x140000 then s
  else if off < 0x148000 then
    match pageAt off 0x140000 0x400 32 with | some r => roomStore s r true (off % 0x400) v | none => s
  else if off < 0x150000 then
    match pageAt off 0x148000 0x100 4 with
    | some i =>
      let s1 := noteReserved s v 0xFFFFF000
      after s1 (roomGangWriteOp i (BitVec.ofNat 8 v) (BitVec.ofNat 4 (v / 256)) s1)
    | none => s
  else if off < 0x151000 then fabricStore s (off - 0x150000) v
  else if off < 0x160000 then s
  else if off < 0x160100 then
    match pageAt off 0x160000 8 32 with | some g => after s (stwGroupWriteOp g (BitVec.ofNat 64 v) s) | none => s
  else if off < 0x160300 then
    match pageAt off 0x160200 32 8 with
    | some i =>
      if off % 32 = 0x10 then
        let s1 := noteReserved s v 0xFFFFFFFE
        if v.testBit 0 then after s1 (stwCtxAbortOp i s1) else s1
      else s
    | none => s
  else if off < 0x180000 then s
  else domainStore s (off - 0x180000) v

/-- A mapped 32-bit or 64-bit write: a 64-bit register takes a 64-bit write whole and a 32-bit write in one half; any other
registers take it word by word, the lower first (R156, R176). -/
def regWrite (s : State) (off : Nat) (bs : List Byte) : State :=
  let base := off / 8 * 8
  if wideReg base then
    let old := (regWord s base).getD 0 + (regWord s (base + 4)).getD 0 * 2 ^ 32
    regStore s base (if bs.length = 8 then leNat bs else put64 old off (BitVec.ofNat 32 (leNat bs)))
  else
    let s1 := regStore s off (leNat (bs.take 4))
    if bs.length = 8 then regStore s1 (off + 4) (leNat (bs.drop 4)) else s1

/-! ### BAR accesses of the host (R154-R157, R549) -/

/-- A BAR0 write: it is performed, or discarded with a condition of wing 0 (R155, R156). -/
def barWrite (s : State) (off : Nat) (bs : List Byte) : State :=
  if !regShape off bs.length then ringCond s 0 0x040A
  else if !regMapped s off bs.length then ringCond s 0 0x0701
  else regWrite s off bs

/-- A BAR0 read: the bytes, or zeros where it is not performed (R156). -/
def barRead (s : State) (off n : Nat) : State :=
  if !regShape off n then (ringCond s 0 0x040A).send (.barData (List.replicate n 0))
  else if !regMapped s off n then (ringCond s 0 0x0701).send (.barData (List.replicate n 0))
  else (regReadEffect s off n).send (.barData (regBytes s off n))

/-- NWL_DBG_RESUME: a BAR0 write of NWL_DBG.RESUME while scope [0] is granted continues a Room that its Newel halted; the next
instruction executes without a breakpoint match (R354). -/
def nwlDbgResumeOp (r : RoomId) (s : State) : Res :=
  let x := s.room r
  if x.st = .debugHalt ∧ x.sdbgWhich = 0 ∧ debugAllows s r 0 = true then
    .next (s.onRoom r fun x => { x with st := .running, newel := { x.newel with skipBreak := true } })
  else .next s

/-- The clock domain that an access reaches; one that is not performed reaches none beyond HOST. -/
def accessDomain (s : State) : BarAccess → Nat
  | .write off bs => if regShape off bs.length && regMapped s off bs.length then regDomain off else 2
  | .read off n => if regShape off n && regMapped s off n then regDomain off else 2
  | .resume r => storeyDomain r
  | _ => 2

/-- What a BAR access does once it is answered. -/
def barPerform (s : State) : BarAccess → State
  | .write off bs => barWrite s off bs
  | .read off n => barRead s off n
  | .winWrite w off bs be => after s (hatchWindowWriteOp w off bs be s)
  | .winRead w off n => after s (hatchWindowReadOp w off n s)
  | .portWrite w bs full => after s (hatchPortWriteOp w bs full s)
  | .portRead w n => after s (hatchPortReadOp w n s)
  | .resume r => after s (nwlDbgResumeOp r s)

/-- The oldest waiting access is performed when the clock of its domain runs (R549). -/
def releaseBar (s : State) : State :=
  match s.host.barBlocked with
  | [] => s
  | a :: rest =>
    if barUp s && domainUp s (accessDomain s a) then barPerform (s.onHost fun h => { h with barBlocked := rest }) a else s

/-- A mailbox access, which READY or the failed state 0xF4 admits (R151). -/
def mailboxOff (off : Nat) : Bool := 0x20000 ≤ off && off < 0x40000

/-- REGISTER_WRITE: a write of a BAR0 register by the host takes effect as its access code gives (R6, R156). -/
def execRegisterWrite (off : Nat) (bs : List Byte) (s : State) : Res :=
  if mailboxOff off then mbxRow s (.write off bs) (.next (barWrite s off bs))
  else barGo s (.write off bs) (accessDomain s (.write off bs)) (.next (barWrite s off bs))

/-- NWL_DBG_RESUME as a BAR access of the host (R151, R157, R549). -/
def execNwlDbgResume (r : RoomId) (s : State) : Res := barGo s (.resume r) (storeyDomain r) (nwlDbgResumeOp r s)

/-- STOREY_GATE: FOY_DOM_GATE written (R554, R561). -/
def execStoreyGate (v : W32) (s : State) : Res :=
  barGo s (bar0 0x180000 v.toNat) 1 (.next (domainStore s 0x00 v.toNat))

/-- FOY_DOM_HOLD written (R554, R555, R561). -/
def execFoyDomHold (v : W32) (s : State) : Res :=
  barGo s (bar0 0x180004 v.toNat) 1 (.next (domainStore s 0x04 v.toNat))

/-- FOY_ROOM_HOLD written (R553, R561). -/
def execFoyRoomHold (v : W32) (s : State) : Res :=
  barGo s (bar0 0x180008 v.toNat) 1 (.next (domainStore s 0x08 v.toNat))

/-- FOY_ROOM_INVAL written (R553, R561). -/
def execFoyRoomInval (v : W32) (s : State) : Res :=
  barGo s (bar0 0x180010 v.toNat) 1 (.next (domainStore s 0x10 v.toNat))

/-- An idle step (DESIGN CHOICE): the oldest BAR access that waited for a stopped clock is performed when its clock runs again
(R549), and the Threshold's microsecond count advances (R137). -/
def idle (s : State) : State := (releaseBar s).onThr fun t => { t with us := t.us + 1 }

end Sys2Proof.Machine
end

