-- ==== Sys2Proof/Machine/NewelMem.lean ====
section
/-!
DEFINITION. Machine/NewelMem.lean: what the addresses of the three kinds of Newel name (R339, R505, R588), the checks of an
access (R339-R342), loads, stores with the store buffer (R287) and atomics (R284-R286, R359).
-/
namespace Sys2Proof.Machine
open Sys2Proof

/-! ### The outcome of an attempt -/

/-- What the instruction at the PC comes to. -/
inductive Did where
  /-- it issued: it has retired, or it waits for an answer -/
  | go (s : State)
  /-- a synchronous trap at the instruction: cause, NWL_TVAL, NWL_TCOND -/
  | trap (cause : Byte) (tval : W32) (tcond : Cond)
  /-- the TRAP instruction: NWL_TPC names the next one -/
  | trapNext (code : W32)
  /-- it waits with a BLOCK_REASON -/
  | wait (why : BlockReason)
  /-- it cannot issue yet -/
  | hold
  /-- the Room halts with 0x0802 at a Pantry-window offset (R310, R339) -/
  | halt (off : W32)
  /-- DEBUG_HALT (R354); `ran` when a BRK has executed -/
  | debug (ran : Bool)
  deriving DecidableEq, Repr

/-- The illegal-instruction trap of a word. -/
def illegal (w : W32) : Did := .trap 1 w 0

/-- The access trap at an address. -/
def accessTrap (va : W32) (c : Cond) : Did := .trap 4 va c

/-- The instruction has retired with a change of the Newel. -/
def retired (s : State) (c : CoreId) (f : Newel → Newel) : Did := .go (onCore s c fun n => retire (f n))

/-- The instruction has retired with a register written. -/
def retiredWith (s : State) (c : CoreId) (rd : BitVec 5) (v : W32) : Did := retired s c fun n => regSet n rd v

/-- The Newel has issued an access and waits for its answer. -/
def waiting (s : State) (c : CoreId) (w : NewelWait) : Did := .go (onCore s c fun n => { n with wait := w })

/-! ### Address maps (R339, R505, R588) -/

/-- What a data address of a Newel names. -/
inductive NTarget where
  | dmem (off : Nat)
  /-- instruction memory of the Porch's or the Foyer's Newel -/
  | imem (off : Nat)
  | rom (off : Nat)
  /-- a byte offset of the task window -/
  | window (off : Nat)
  /-- control space of a Room -/
  | control (off : Nat)
  /-- a device register, by BAR0 offset -/
  | reg (off : Nat)
  /-- a device address, and what it names -/
  | dev (a : Nat) (t : DevTarget)
  | bad (c : Cond)
  deriving DecidableEq, Repr

/-- A device address as a target. -/
def devTarget (s : State) (a n : Nat) : NTarget :=
  match devDecode s a n with
  | some t => .dev a t
  | none => .bad 0x0701

/-- An address of segments 0-7 (R339). -/
def segTarget (s : State) (c : CoreId) (a n : Nat) : NTarget :=
  let g := (coreNewel s c).segs.get ⟨a / 2 ^ 28 % 8, Nat.mod_lt _ (by decide)⟩
  if g.getLsbD 0 then devTarget s (g.toNat / 4096 * 2 ^ 28 + a % 2 ^ 28) n else .bad 0x0701

/-- The address map of a Room's Newel (R339). -/
def roomMap (s : State) (c : CoreId) (a n : Nat) : NTarget :=
  if a < 0x8000 then .dmem a
  else if 0x100000 ≤ a ∧ a < 0x200000 then .window (a - 0x100000)
  else if 0x200000 ≤ a ∧ a < 0x200400 then .control (a - 0x200000)
  else if 2 ^ 31 ≤ a then segTarget s c a n
  else .bad 0x0701

/-- The address map of the Porch's Newel (R505). -/
def porchMap (s : State) (c : CoreId) (a n : Nat) : NTarget :=
  if a < 0x10000 then .dmem a
  else if a < 0x20000 then .imem (a - 0x10000)
  else if 0x400000 ≤ a ∧ a < 0x800000 then devTarget s (0x4008000000 + (a - 0x400000)) n
  else if 0x800000 ≤ a ∧ a < 0x801000 then .reg (0x170000 + (a - 0x800000))
  else if 2 ^ 31 ≤ a then segTarget s c a n
  else .bad 0x0701

/-- The address map of the Foyer's Newel (R588). -/
def foyerMap (s : State) (c : CoreId) (a n : Nat) : NTarget :=
  if a < 0x40000 then .dmem a
  else if a < 0x80000 then .imem (a - 0x40000)
  else if a < 0x90000 then .rom (a - 0x80000)
  else if 0x1000000 ≤ a ∧ a < 0x2000000 then devTarget s (0x400C000000 + (a - 0x1000000)) n
  else if 0x2000000 ≤ a ∧ a < 0x3000000 then .reg (a - 0x2000000)
  else if 2 ^ 31 ≤ a then segTarget s c a n
  else .bad 0x0701

/-- The core is the Foyer's Newel, which reaches more (R24, R25). -/
def isFoyer (c : CoreId) : Bool := c.1 == 33

/-- Bytes of a core's data memory (R334, R505, R588). -/
def dmemSize (c : CoreId) : Nat := if c.1 < 32 then 0x8000 else if c.1 = 32 then 0x10000 else 0x40000

/-- What an address names, before the checks of R23 to R28. -/
def coreMap (s : State) (c : CoreId) (a n : Nat) : NTarget :=
  if c.1 < 32 then roomMap s c a n else if c.1 = 32 then porchMap s c a n else foyerMap s c a n

/-- A device address checked: a remote address of this device goes through its own windows (R26); reach, key and program
memory as R24, R25, R35 and R265; a remote one as the source checks it. -/
def reachCheck (s : State) (c : CoreId) (store : Bool) (n a : Nat) (t : DevTarget) : NTarget :=
  let w := coreWing s c
  let checked (a : Nat) (t : DevTarget) : NTarget :=
    let r := localRefuse s w (isFoyer c) store t n
    if r ≠ 0 then .bad r else match t with
      | .regs off => .reg off
      | t => .dev a t
  match t with
  | .remote d off =>
    if d = s.fabric.devAddr then
      match wingAddr s w off with
      | some la => checked la (.larder la)
      | none => .bad 0x0102
    else if remoteRefused s w d ≠ 0 then .bad (remoteRefused s w d)
    else .dev a (.remote d off)
  | t => checked a t

/-- Registers are accessed in aligned words, whether through a segment or directly. -/
def wordReg (s : State) (n : Nat) : NTarget → NTarget
  | .reg off => if n = 4 ∧ regMapped s off 4 = true then .reg off else .bad 0x0701
  | t => t

/-- The target of a load or store of `n` bytes, checked. -/
def coreTarget (s : State) (c : CoreId) (store : Bool) (a n : Nat) : NTarget :=
  match coreMap s c a n with
  | .dev d t => wordReg s n (reachCheck s c store n d t)
  | .control off =>
    match coreRoom c with
    | some r => if n = 4 ∧ (roomWord (s.room r) off).isSome = true then .control off else .bad 0x0701
    | none => .bad 0x0701
  | t => wordReg s n t

/-- The clock domain of a plain target on this device runs (R549). -/
def targetUp (s : State) : DevTarget → Bool
  | .pantry r _ => domainUp s (storeyDomain r)
  | .program r _ => domainUp s (storeyDomain r)
  | .porch _ => domainUp s 4
  | .foyer _ => domainUp s 1
  | .regs off => domainUp s (regDomain off)
  | _ => true

/-! ### Loads (R275, R287, R341) -/

/-- A store that waits goes elsewhere than to a WB line of the Larder (R287). -/
def uncachedStore (s : State) (e : StoreEntry) : Bool :=
  match devDecode s e.addr.toNat e.bytes.length with
  | some (.larder a) => isUncached s a
  | _ => true

/-- An uncached access has to wait for an earlier uncached store (R287). -/
def uncachedWaits (s : State) (c : CoreId) : Bool := (coreNewel s c).stores.any (uncachedStore s)

/-- Buffered stores hold every byte of a load. -/
def coveredBy (st : List StoreEntry) (a n : Nat) : Bool :=
  (List.range n).all fun i => st.any fun e => decide (e.addr.toNat ≤ a + i ∧ a + i < e.addr.toNat + e.bytes.length)

/-- A load of a Larder line (R275, R287, R293). -/
def larderLoad (s : State) (c : CoreId) (rd : BitVec 5) (f : LoadForm) (va : W32) (a : Nat) : Did :=
  let n := coreNewel s c
  let nb := formBytes f
  let wait : NewelWait := .load rd f (BitVec.ofNat 48 a) va
  if isUncached s a then
    if uncachedWaits s c then .hold
    else match cacheRequest s c .ncRd (a / 64) with
      | some s1 => waiting s1 c wait
      | none => .hold
  else if coveredBy n.stores a nb then
    retiredWith s c rd (formValue f (overStores n.stores a (List.replicate nb 0)))
  else match cacheFind (s.larder.caches.get c) (a / 64) with
    | some x =>
      if x.poison then .trap 5 va 0x0703
      else retiredWith (s.onCache c fun q => cachePut q x) c rd
        (formValue f (overStores n.stores a ((x.data.drop (a % 64)).take nb)))
    | none =>
      match cacheRequest s c .getS (a / 64) with
      | some s1 => waiting s1 c wait
      | none => .hold

/-- The request flit of an access to another device (R471, R472). -/
def remoteFlit (tag : W16) (off : Nat) (be : BitVec 64) : List Byte :=
  leBytes 2 tag.toNat ++ [0, 0] ++ leBytes 5 (off / 64 * 64) ++ List.replicate 7 (0 : Byte) ++ leBytes 8 be.toNat ++
    List.replicate 8 0

/-- A load of another device's Larder (R26, R283, R465). -/
def remoteLoad (s : State) (c : CoreId) (rd : BitVec 5) (f : LoadForm) (va : W32) (a : Nat) (d : DevAddr) (off : Nat) : Did :=
  if uncachedWaits s c then .hold
  else
    let t := newRequest s (.newel c va) d .rdReq
    waiting (postPacket t.2 (wingPacket t.2 .rdReq 3 (coreWing s c) d t.1 (remoteFlit t.1 off 0))) c
      (.load rd f (BitVec.ofNat 48 a) va)

/-- A load from its checked target. -/
def loadFrom (s : State) (c : CoreId) (rd : BitVec 5) (f : LoadForm) (va : W32) (t : NTarget) : Did :=
  let nb := formBytes f
  match t with
  | .bad k => accessTrap va k
  | .dmem o => retiredWith s c rd (formValue f (zread (coreNewel s c).dmem o nb))
  | .imem o => retiredWith s c rd (formValue f (zread (coreNewel s c).imem o nb))
  | .rom o => retiredWith s c rd (formValue f ((List.range nb).map fun i => Config.bootRom (o + i)))
  | .window o =>
    match coreRoom c with
    | some r =>
      match windowAddr (s.room r) o nb with
      | some p => retiredWith s c rd (formValue f (zread (s.room r).pantry p nb))
      | none => .halt (BitVec.ofNat 32 o)
    | none => accessTrap va 0x0701
  | .control o =>
    match coreRoom c with
    | some r => retiredWith (if o = 0x20 then s.draw else s) c rd (formValue f (leBytes 4 ((roomRead s r o).getD 0)))
    | none => accessTrap va 0x0701
  | .reg off =>
    if uncachedWaits s c || !domainUp s (regDomain off) then .hold
    else retiredWith (regReadEffect s off 4) c rd (formValue f (regBytes s off 4))
  | .dev _ (.larder a) => larderLoad s c rd f va a
  | .dev a (.remote d off) => remoteLoad s c rd f va a d off
  | .dev _ t =>
    if uncachedWaits s c || !targetUp s t then .hold
    else
      let r := plainRead s t nb
      retiredWith r.2 c rd (formValue f r.1)

/-- LDW, LDH, LDHU, LDB, LDBU (R339-R341). -/
def loadOp (f : LoadForm) (s : State) (c : CoreId) (w : W32) : Did :=
  let va := regGet (coreNewel s c) (nRs1 w) + nSimm w
  if va.toNat % formBytes f ≠ 0 then .trap 3 va 0
  else loadFrom s c (nRd w) f va (coreTarget s c false va.toNat (formBytes f))

/-! ### Stores (R275, R287, R341) -/

/-- A store enters the store buffer, when it has a free entry (R287). -/
def buffered (s : State) (c : CoreId) (a : Nat) (va : W32) (bs : List Byte) : Did :=
  if 4 ≤ (coreNewel s c).stores.length then .hold
  else retired s c fun n => { n with stores := n.stores ++ [{ addr := BitVec.ofNat 48 a, va := va, bytes := bs }] }

/-- A word stored in the control space of a Room: a 64-bit register takes its half (R330). -/
def controlStore (s : State) (r : RoomId) (o : Nat) (v : W32) : State :=
  let base := o / 8 * 8
  if base = 0x0A0 ∨ base = 0x0B0 then
    let old := ((roomWord (s.room r) base).getD 0) + ((roomWord (s.room r) (base + 4)).getD 0) * 2 ^ 32
    roomStore s r false base (put64 old o v)
  else roomStore s r false o v.toNat

/-- A store to its checked target: memories of the Room at once, the rest through the store buffer. -/
def storeTo (s : State) (c : CoreId) (va : W32) (bs : List Byte) (t : NTarget) : Did :=
  match t with
  | .bad k => accessTrap va k
  | .dmem o => retired s c fun n => { n with dmem := zwrite n.dmem o bs }
  | .imem o => retired s c fun n => { n with imem := zwrite n.imem o bs }
  | .rom _ => accessTrap va 0x0701
  | .window o =>
    match coreRoom c with
    | some r =>
      match windowAddr (s.room r) o bs.length with
      | some p => retired (s.onRoom r fun x => pantryWrite x p bs) c id
      | none => .halt (BitVec.ofNat 32 o)
    | none => accessTrap va 0x0701
  | .control o =>
    match coreRoom c with
    | some r => retired (controlStore s r o (BitVec.ofNat 32 (leNat bs))) c id
    | none => accessTrap va 0x0701
  | .reg off => if !domainUp s (regDomain off) then .hold else buffered s c (0x8000000000 + off) va bs
  | .dev a t => if !targetUp s t then .hold else buffered s c a va bs

/-- STW, STH, STB (R339-R341). -/
def storeOp (nb : Nat) (s : State) (c : CoreId) (w : W32) : Did :=
  let va := regGet (coreNewel s c) (nRs1 w) + nSimm w
  if va.toNat % nb ≠ 0 then .trap 3 va 0
  else storeTo s c va (leBytes nb (regGet (coreNewel s c) (nRd w)).toNat) (coreTarget s c true va.toNat nb)

/-- The answer word and the value of a Porch mailbox as the Porch's Newel stores them: the answer word ends the request
(R510). -/
def mailboxAnswer (s : State) (w : WingId) (o : Nat) (bs : List Byte) : State :=
  s.onPorch fun p =>
    let m := p.mailboxes.get w
    if o = 0x80 then
      { p with arrivals := p.arrivals.erase w,
               mailboxes := vset p.mailboxes w { m with gen := m.gen + 1, ready := true, busy := false,
                                                        cond := BitVec.ofNat 16 (leNat bs) } }
    else { p with mailboxes := vset p.mailboxes w { m with value := BitVec.ofNat 32 (leNat bs) } }

/-- The oldest store leaves the buffer. -/
def dropStore (s : State) (c : CoreId) : State := onCore s c fun n => { n with stores := n.stores.drop 1 }

/-- A store that is refused when it leaves: it is dropped, and a Newel that still runs takes the access trap at the
instruction it is about to execute (R340). -/
def storeRefused (s : State) (c : CoreId) (va : W32) (k : Cond) : State :=
  let s1 := dropStore s c
  if (coreNewel s c).wait = .ended then s1 else trapHere s1 c 4 va k

/-- The oldest store goes to a Larder line: merged in a line held in E or M, else the line is asked for; an uncached one
goes to the home (R275, R293). -/
def drainLarder (s : State) (c : CoreId) (a : Nat) (bs : List Byte) : State :=
  let line := a / 64
  if isUncached s a then
    (cacheRequest s c (.ncWr ((List.replicate (a % 64) (0 : Byte) ++ bs ++ List.replicate 64 0).take 64)
      (beOf (a % 64) bs.length)) line).getD s
  else match cacheFind (s.larder.caches.get c) line with
    | some x =>
      if x.st = .s then (cacheRequest s c .upg line).getD s
      else dropStore (s.onCache c fun q => cachePut q (linePatch x a bs)) c
    | none => (cacheRequest s c .getX line).getD s

/-- The oldest store goes to another device: a WR_REQ (R283, R289, R465). -/
def drainRemote (s : State) (c : CoreId) (va : W32) (bs : List Byte) (d : DevAddr) (off : Nat) : State :=
  let t := newRequest s (.newel c va) d .wrReq
  let line := (List.replicate (off % 64) (0 : Byte) ++ bs ++ List.replicate 64 0).take 64
  let s1 := postPacket t.2 (wingPacket t.2 .wrReq 3 (coreWing s c) d t.1 (remoteFlit t.1 off (beOf (off % 64) bs.length) ++ line))
  onCore (dropStore s1 c) c fun n => { n with remoteOut := n.remoteOut + 1 }

/-- The oldest store goes to a target on this device that is not Larder. -/
def drainPlain (s : State) (c : CoreId) (bs : List Byte) (t : DevTarget) : State :=
  let s1 := dropStore s c
  match t with
  | .regs off => regWrite s1 off bs
  | .porch off =>
    if c.1 = 32 ∧ off < 0x4000 ∧ (off % 0x400 = 0x80 ∨ off % 0x400 = 0x84) then
      mailboxAnswer s1 ⟨off / 0x400 % 16, Nat.mod_lt _ (by decide)⟩ (off % 0x400) bs
    else porchWrite s1 off bs
  | t => plainWrite s1 t bs

/-- The condition that refuses a store as it leaves the buffer; its address was checked when it issued. -/
def drainRefuse (s : State) (c : CoreId) (n : Nat) : DevTarget → Cond
  | .regs _ => 0
  | .remote d _ => remoteRefused s (coreWing s c) d
  | t => localRefuse s (coreWing s c) (isFoyer c) true t n

/-- The store buffer's clock runs, and its Room is not in reset. -/
def drainGoes (s : State) (c : CoreId) : Bool :=
  match coreRoom c with
  | some r => domainUp s (storeyDomain r) && !(s.room r).held && !(s.room r).zeroing
  | none => domainUp s (if c.1 = 32 then 4 else 1)

/-- STORE_BUFFER_DRAIN: the oldest entry of a core's store buffer leaves for its line or target; a lockstep checker's is
compared and discarded (R275, R287, R324). -/
def execStoreBufferDrain (c : CoreId) (s : State) : Res :=
  if !drainGoes s c then .next s
  else match (coreNewel s c).stores with
    | [] => .next s
    | e :: _ =>
      if (match coreRoom c with | some r => isChecker s r | none => false) then .next (dropStore s c)
      else match devDecode s e.addr.toNat e.bytes.length with
        | none => .next (storeRefused s c e.va 0x0701)
        | some t =>
          if drainRefuse s c e.bytes.length t ≠ 0 then .next (storeRefused s c e.va (drainRefuse s c e.bytes.length t))
          else match t with
            | .larder a => .next (drainLarder s c a e.bytes)
            | .remote d off => .next (drainRemote s c e.va e.bytes d off)
            | t => if targetUp s t then .next (drainPlain s c e.bytes t) else .next s

/-! ### Tagged Pantry access (R304, R305, R342) -/

/-- LDFK, LDFD: a keep read or a drain read of a word whose slot is full; else it waits. -/
def tagLoad (drain : Bool) (s : State) (c : CoreId) (w : W32) : Did :=
  let va := regGet (coreNewel s c) (nRs1 w) + nSimm w
  match coreRoom c with
  | none => illegal w
  | some r =>
    if va.toNat % 4 ≠ 0 then .trap 3 va 0
    else match coreMap s c va.toNat 4 with
      | .window o =>
        (match windowAddr (s.room r) o 4 with
         | some p =>
           if tagFull (s.room r) (p / 64) then
             retiredWith (if drain then s.onRoom r fun x => setTag x (p / 64) false else s) c (nRd w)
               (BitVec.ofNat 32 (zword (s.room r).pantry p 4))
           else .wait .pantryTag
         | none => .halt (BitVec.ofNat 32 o))
      | _ => accessTrap va 0x0701

/-- STF: a fill write of a word whose slot is empty; else it waits. -/
def tagStore (s : State) (c : CoreId) (w : W32) : Did :=
  let va := regGet (coreNewel s c) (nRs1 w) + nSimm w
  match coreRoom c with
  | none => illegal w
  | some r =>
    if va.toNat % 4 ≠ 0 then .trap 3 va 0
    else match coreMap s c va.toNat 4 with
      | .window o =>
        (match windowAddr (s.room r) o 4 with
         | some p =>
           if tagFull (s.room r) (p / 64) then .wait .pantryTag
           else
             let bs := leBytes 4 (regGet (coreNewel s c) (nRd w)).toNat
             retired (s.onRoom r fun x => setTag (pantryWrite x p bs) (p / 64) true) c id
         | none => .halt (BitVec.ofNat 32 o))
      | _ => accessTrap va 0x0701

/-! ### Atomics (R284-R286, R359) -/

/-- The predictor's counter for an address says far (R285). -/
def predictFar (n : Newel) (a : Nat) : Bool := decide (2 ≤ (n.predictor.get (predIndex a)).toNat)

/-- The atomic is placed far: an uncached line, the instruction's PLACE, the policy, or the predictor (R285, R286). -/
def placeFar (s : State) (c : CoreId) (place a : Nat) : Bool :=
  if isUncached s a then true
  else match place with
    | 1 => false
    | 2 => true
    | _ =>
      if s.larder.atomicPolicy = 1 then false
      else if s.larder.atomicPolicy = 2 then true
      else predictFar (coreNewel s c) a

/-- An atomic on a local Larder word (R284). -/
def larderAtom (s : State) (c : CoreId) (op : AtomOp) (w : W32) (va : W32) (a : Nat) : Did :=
  let n := coreNewel s c
  let line := a / 64
  let rs2 := regGet n (nRs2 w)
  let cmp := regGet n (nRd w)
  if placeFar s c (nPlace w) a then
    match cacheRequest s c (.atom op rs2 cmp ⟨a % 64 / 4, by omega⟩) line with
    | some s1 => waiting s1 c (.farAtom (nRd w) (BitVec.ofNat 48 a) va)
    | none => .hold
  else
    let near : NewelWait := .nearAtom (nRd w) op rs2 cmp (BitVec.ofNat 48 a) va
    match cacheFind (s.larder.caches.get c) line with
    | some x =>
      if x.st = .s then
        match cacheRequest s c .upg line with
        | some s1 => waiting s1 c near
        | none => .hold
      else if x.poison then .trap 5 va 0x0703
      else .go (performM (onCore s c fun n => { n with wait := near }) c line false)
    | none =>
      match cacheRequest s c .getX line with
      | some s1 => waiting s1 c near
      | none => .hold

/-- An atomic on a word of another device: always far (R286, R465). -/
def remoteAtom (s : State) (c : CoreId) (op : AtomOp) (w : W32) (va : W32) (a : Nat) (d : DevAddr) (off : Nat) : Did :=
  let n := coreNewel s c
  let code : Nat := match op with
    | .add => 0 | .swap => 1 | .cas => 2 | .minS => 3 | .maxS => 4 | .minU => 5 | .maxU => 6
  let t := newRequest s (.newel c va) d .atomReq
  let flit := leBytes 2 t.1.toNat ++ [BitVec.ofNat 8 code, 0] ++ leBytes 5 off ++ List.replicate 15 (0 : Byte) ++
    leBytes 4 (regGet n (nRs2 w)).toNat ++ leBytes 4 (regGet n (nRd w)).toNat
  .go (onCore (postPacket t.2 (wingPacket t.2 .atomReq 3 (coreWing s c) d t.1 flit)) c fun n =>
    { n with remoteOut := n.remoteOut + 1, wait := .farAtom (nRd w) (BitVec.ofNat 48 a) va })

/-- ATOM: it issues once the store buffer is empty (R284). An address that is no Larder line gives 0x0705 (R286, R359). -/
def atomOp (op : AtomOp) (s : State) (c : CoreId) (w : W32) : Did :=
  let va := regGet (coreNewel s c) (nRs1 w)
  if va.toNat % 4 ≠ 0 then .trap 3 va 0
  else match coreMap s c va.toNat 4 with
    | .bad k => accessTrap va k
    | .dev a t =>
      if (match t with | .larder _ => false | .remote .. => false | _ => true) then accessTrap va 0x0705
      else match reachCheck s c true 4 a t with
        | .bad k => accessTrap va k
        | .dev _ (.larder a) => if (coreNewel s c).stores.isEmpty then larderAtom s c op w va a else .hold
        | .dev a (.remote d off) => if (coreNewel s c).stores.isEmpty then remoteAtom s c op w va a d off else .hold
        | _ => accessTrap va 0x0705
    | _ => accessTrap va 0x0705

end Sys2Proof.Machine
end

