-- ==== Sys2Proof/Machine/Newel.lean ====
section
/-!
DEFINITION. Machine/Newel.lean: the instructions of the Newel (R335-R360), their issue (R351, R352, R354), interrupts (R351)
and the rows of the table that run them. A row acts when the instruction at the core's PC is its own; a word that is no
instruction, and a PC outside the instruction space, trap whichever row is given.
-/
namespace Sys2Proof.Machine
open Sys2Proof

/-! ### Arithmetic (R357) -/

/-- A register form: rd ← f rs1 rs2. -/
def aluOp (f : W32 → W32 → W32) (s : State) (c : CoreId) (w : W32) : Did :=
  let n := coreNewel s c
  retiredWith s c (nRd w) (f (regGet n (nRs1 w)) (regGet n (nRs2 w)))

/-- An immediate form: rd ← f rs1 IMM. -/
def immOp (f : W32 → W32) (s : State) (c : CoreId) (w : W32) : Did :=
  retiredWith s c (nRd w) (f (regGet (coreNewel s c) (nRs1 w)))

/-- A division: a divisor of 0 traps with DIVZERO (R347). -/
def divOp (f : W32 → W32 → W32) (s : State) (c : CoreId) (w : W32) : Did :=
  if regGet (coreNewel s c) (nRs2 w) = 0 then .trap 6 0 0 else aluOp f s c w

/-- The value 1 or 0. -/
def flag32 (b : Bool) : W32 := if b then 1 else 0

/-- Bits 63:32 of the signed product. -/
def mulHigh (x y : W32) : W32 := BitVec.ofInt 32 (x.toInt * y.toInt / 2 ^ 32)
/-- Bits 63:32 of the unsigned product. -/
def mulHighU (x y : W32) : W32 := BitVec.ofNat 32 (x.toNat * y.toNat / 2 ^ 32)

/-- Branch when a comparison of rs1 [25:21] with rs2 [20:16] holds. -/
def branchOp (f : W32 → W32 → Bool) (s : State) (c : CoreId) (w : W32) : Did :=
  let n := coreNewel s c
  if f (regGet n (nRd w)) (regGet n (nRs1 w)) then
    if jumpOk s c (nBranch n.pc w) then .go (onCore s c fun n => retireTo n (nBranch n.pc w)) else .trap 2 (nBranch n.pc w) 0
  else retired s c id

/-- A jump to a target (R347). -/
def jumpOp (s : State) (c : CoreId) (target : W32) : Did :=
  if jumpOk s c target then .go (onCore s c fun n => retireTo n target) else .trap 2 target 0

/-! ### Windows (R336, R337) -/

/-- The window of the called frame. -/
def enterFrame (n : Newel) : Newel := { n with frm := n.frm + 1, res := n.res + 1 }
/-- The window of the caller. -/
def leaveFrame (n : Newel) : Newel := { n with frm := n.frm - 1, res := n.res - 1 }

/-- CALL and CALLR: x5 ← the address after, the next window, and the jump. -/
def callOp (s : State) (c : CoreId) (target : W32) : Did :=
  let n := coreNewel s c
  if 14 ≤ n.res.toNat then .trap 7 0 0
  else if jumpOk s c target then
    .go (onCore s c fun n => retireTo (enterFrame (regSet n 13 (n.pc + 4))) target)
  else .trap 2 target 0

/-- ENTER -/
def enterOp (s : State) (c : CoreId) : Did :=
  if 14 ≤ (coreNewel s c).res.toNat then .trap 7 0 0 else retired s c enterFrame

/-- LEAVE -/
def leaveOp (s : State) (c : CoreId) : Did :=
  if (coreNewel s c).res = 0 then .trap 8 0 0 else retired s c leaveFrame

/-- RET: to the address in c5. -/
def retOp (s : State) (c : CoreId) : Did :=
  let n := coreNewel s c
  if n.res = 0 then .trap 8 0 0
  else if jumpOk s c (regGet n 29) then .go (onCore s c fun n => retireTo (leaveFrame n) (regGet n 29))
  else .trap 2 (regGet n 29) 0

/-- The 16 words of a frame: v0-v9 and c0-c5 of a window. -/
def frameWords (n : Newel) (win : Fin 16) : List W32 :=
  (n.locals.get win).toList ++ (n.outs.get (win - 1)).toList

/-- 16 words put in v0-v9 and c0-c5 of a window. -/
def setFrame (n : Newel) (win : Fin 16) (ws : List W32) : Newel :=
  { n with locals := vset n.locals win (Vector.ofFn fun i : Fin 10 => ws.getD i.1 0),
           outs := vset n.outs (win - 1) (Vector.ofFn fun i : Fin 6 => ws.getD (10 + i.1) 0) }

/-- The trap of a spill address that is not 64-byte aligned or not in data memory (R337). -/
def spillTrap (c : CoreId) (a : W32) : Option Did :=
  if a.toNat % 64 ≠ 0 then some (.trap 3 a 0)
  else if dmemSize c < a.toNat + 64 then some (accessTrap a 0x0701)
  else none

/-- SPILL (R337). -/
def spillOp (s : State) (c : CoreId) (w : W32) : Did :=
  let n := coreNewel s c
  if !n.tm || n.res == 0 then illegal w
  else match spillTrap c n.wsp with
    | some d => d
    | none =>
      retired s c fun n =>
        { n with dmem := zwrite n.dmem n.wsp.toNat ((frameWords n (n.frm - n.res).toFin).map fun v => leBytes 4 v.toNat).flatten,
                 wsp := n.wsp + 64, res := n.res - 1 }

/-- FILL (R337). -/
def fillOp (s : State) (c : CoreId) (w : W32) : Did :=
  let n := coreNewel s c
  if !n.tm || decide (14 ≤ n.res.toNat) then illegal w
  else match spillTrap c (n.wsp - 64) with
    | some d => d
    | none =>
      retired s c fun n =>
        let a := (n.wsp - 64).toNat
        let ws : List W32 := (List.range 16).map fun i => BitVec.ofNat 32 (zword n.dmem (a + 4 * i) 4)
        { setFrame n (n.frm - n.res - 1).toFin ws with wsp := n.wsp - 64, res := n.res + 1 }

/-! ### Interrupts (R347, R351) -/

/-- NWL_IPEND: PHASE and STREAM latched, the others as they stand. -/
def ipend (s : State) (c : CoreId) : BitVec 5 :=
  let n := coreNewel s c
  let live : Nat := match coreRoom c with
    | some r =>
      let x := s.room r
      4 * b2n (!(x.queues.get 5).entries.isEmpty) +
        8 * b2n ((List.finRange 32).any fun q => n.hqSel.getLsbD q.1 && !(x.hqs.get q).handles.isEmpty) +
        16 * b2n (x.overrun != 0 || x.underrun != 0)
    | none => 0
  BitVec.ofNat 5 (b2n n.pendPhase + 2 * b2n n.pendStream + live)

/-- An enabled interrupt is pending. -/
def irqPending (s : State) (c : CoreId) : Bool := ipend s c &&& (coreNewel s c).ien != 0

/-- The interrupt to be taken before the next instruction: the lowest cause (R12, R351). -/
def irqDue (s : State) (c : CoreId) : Option (Fin 5) :=
  let n := coreNewel s c
  if n.wait = .ready ∧ n.ie = true ∧ n.tm = false then
    (List.finRange 5).find? fun i => (ipend s c &&& n.ien).getLsbD i.1
  else none

/-- NWL_TVAL of an interrupt (R347). -/
def irqValue (n : Newel) (i : Fin 5) : W32 :=
  match i with
  | 0 => n.phaseSrc
  | 1 => n.streamSrc
  | _ => 0

/-! ### System instructions -/

/-- RETT (R348). -/
def rettOp (s : State) (c : CoreId) (w : W32) : Did :=
  let n := coreNewel s c
  if !n.tm || n.frm != n.tpsr.setWidth 4 then illegal w
  else .go (onCore s c fun n => retireTo { n with ie := n.tpsr.getLsbD 14, tm := false } n.tpc)

/-- A stream of the Room runs. -/
def streamsRun (x : Room) : Bool := x.astream.strm.running || x.xstream.running

/-- END (R345). -/
def endOp (s : State) (c : CoreId) : Did :=
  match coreRoom c with
  | some r =>
    if streamsRun (s.room r) then .wait .sync else .go (endRoom (onCore s c retire) r)
  | none => .go (onCore s c fun n => { retire n with wait := .ended })

/-- WFI: it completes at once when an enabled interrupt is pending, whatever IE holds (R351). -/
def wfiOp (s : State) (c : CoreId) : Did := if irqPending s c then retired s c id else .wait .waitph

/-- NWL_DBG.HALT is 1 and scope [0] is granted for the Room's wing (R354). -/
def debugHalts (s : State) (c : CoreId) : Bool :=
  match coreRoom c with
  | some r => (coreNewel s c).dbgHalt && debugAllows s r 0
  | none => false

/-- BRK (R354). -/
def brkOp (s : State) (c : CoreId) : Did := if debugHalts s c then .debug true else .trap 10 0 0

/-- FENCE: every earlier access has completed on this device (R289). FENCE.R: those on other devices as well. -/
def fenceOp (remote : Bool) (s : State) (c : CoreId) : Did :=
  let n := coreNewel s c
  if !n.stores.isEmpty || (remote && n.remoteOut != 0) then .hold else retired s c id

/-- IFENCE: the fetch buffer is discarded (R352). -/
def ifenceOp (s : State) (c : CoreId) : Did :=
  let n := coreNewel s c
  if !n.stores.isEmpty then .hold else .go (onCore s c fun n => retireTo n (n.pc + 4))

/-- STRA and STRX (R344). -/
def streamOp (k : Which) (s : State) (c : CoreId) (w : W32) : Did :=
  match coreRoom c with
  | some r =>
    if (strmOf (s.room r) k).running then illegal w
    else retired (startStrm s r k (regGet (coreNewel s c) (nRs1 w)).toNat) c id
  | none => illegal w

/-- SJOIN (R344). -/
def sjoinOp (s : State) (c : CoreId) (w : W32) : Did :=
  match coreRoom c with
  | some r => if streamsRun (s.room r) then .wait .sync else retired s c id
  | none => illegal w

/-! ### Queues (R311-R314, R343) -/

/-- PUSHA and PMOV: a push of a value with TOKEN, which waits while the queue is full. -/
def pushOp (q : Fin 6) (v : Newel → W64) (s : State) (c : CoreId) (w : W32) : Did :=
  match coreRoom c with
  | some r =>
    match dqPush (s.room r) q (v (coreNewel s c)) (nToken w) false with
    | .done x => retired (s.onRoom r fun _ => x) c id
    | .wait why => .wait why
    | .fault _ => .hold
  | none => illegal w

/-- POPN: in token mode the token is compared (R314). -/
def popnOp (s : State) (c : CoreId) (w : W32) : Did :=
  match coreRoom c with
  | some r =>
    match dqPop (s.room r) 5 (if (s.room r).modeToken then some (nToken w) else none) false with
    | .done (v, x) => retired (s.onRoom r fun _ => x) c fun n => { regSet n (nRd w) (v.setWidth 32) with qhi := (v >>> 32).setWidth 32 }
    | .wait why => .wait why
    | .fault _ => .hold
  | none => illegal w

/-! ### Status registers (R360) -/

/-- NWL_ID: the Room and its wing; for the Porch's and the Foyer's Newel, which no Room names, a free value. -/
def nwlId (s : State) (c : CoreId) : W32 :=
  match coreRoom c with
  | some r => BitVec.ofNat 32 (r.1 + 256 * (coreWing s c).1)
  | none => (Config.free64 s.free).setWidth 32

/-- A status register as RDS reads it; `none` for an undefined number. NWL_CYCLE counts cycles, which the model does not: a
free value. -/
def statusGet (s : State) (c : CoreId) (k : Nat) : Option W32 :=
  let n := coreNewel s c
  match k with
  | 0x00 => some (psrWord n) | 0x01 => some n.tpsr | 0x02 => some n.tpc | 0x03 => some (n.cause.setWidth 32)
  | 0x04 => some n.tval | 0x05 => some (n.tcond.setWidth 32) | 0x06 => some n.tbr | 0x07 => some n.trapen
  | 0x08 => some (n.ien.setWidth 32) | 0x09 => some ((ipend s c).setWidth 32) | 0x0A => some n.qhi | 0x0B => some (nwlId s c)
  | 0x0C => some ((Config.free64 s.free).setWidth 32) | 0x0D => some n.cycleHi
  | 0x0E => some (s.phase.time.setWidth 32) | 0x0F => some n.phaseHi
  | 0x10 => some n.hqSel | 0x11 => some (flag32 n.dbgHalt) | 0x12 => some (n.bkpt.get 0) | 0x13 => some (n.bkpt.get 1)
  | 0x14 => some n.wsp
  | _ => if 0x18 ≤ k ∧ k ≤ 0x1F then some (n.segs.get ⟨(k - 0x18) % 8, Nat.mod_lt _ (by decide)⟩) else none

/-- What a read of a status register does: a low half latches its high half; a free value is used up. -/
def statusRead (s : State) (c : CoreId) (k : Nat) : State :=
  match k with
  | 0x0B => if (coreRoom c).isSome then s else s.draw
  | 0x0C => (onCore s c fun n => { n with cycleHi := (Config.free64 s.free >>> 32).setWidth 32 }).draw
  | 0x0E => onCore s c fun n => { n with phaseHi := (s.phase.time >>> 32).setWidth 32 }
  | _ => s

/-- RDS (R360). -/
def rdsOp (s : State) (c : CoreId) (w : W32) : Did :=
  match statusGet s c (nImm w).toNat with
  | some v => retiredWith (statusRead s c (nImm w).toNat) c (nRd w) v
  | none => illegal w

/-- A status register stored and reserved bits that the write sets counted (R7). -/
def statusStore (s : State) (c : CoreId) (v : W32) (reserved : Nat) (f : Newel → Newel) : Option State :=
  some (onCore (noteReserved s v.toNat reserved) c f)

/-- A write of NWL_PSR: IE; RES and FRM only in a handler. `none` is an illegal instruction: RES 15, or a change of RES or FRM
outside a handler (R360). -/
def psrStore (s : State) (c : CoreId) (v : W32) : Option State :=
  let n := coreNewel s c
  let res : BitVec 4 := BitVec.ofNat 4 (v.toNat / 16)
  let frm : BitVec 4 := BitVec.ofNat 4 v.toNat
  if res = 15 ∨ (n.tm = false ∧ (res ≠ n.res ∨ frm ≠ n.frm)) then none
  else statusStore s c v 0xFFFF3F00 fun n => { n with ie := v.getLsbD 14, res := res, frm := frm }

/-- A status register as WRS writes it; `none` for an undefined number, an RO register, or a field that the mode cannot write
(R360). -/
def statusSet (s : State) (c : CoreId) (k : Nat) (v : W32) : Option State :=
  let tm := (coreNewel s c).tm
  match k with
  | 0x00 => psrStore s c v
  | 0x01 => if tm then statusStore s c v 0xFFFF3F00 fun n => { n with tpsr := v &&& 0xC0FF } else none
  | 0x02 => if tm then statusStore s c v 3 fun n => { n with tpc := v &&& 0xFFFFFFFC } else none
  | 0x06 => statusStore s c v 0x1FF fun n => { n with tbr := v &&& 0xFFFFFE00 }
  | 0x07 => statusStore s c v 0xFFFFF801 fun n => { n with trapen := v &&& 0x7FE }
  | 0x08 => statusStore s c v 0xFFFFFFE0 fun n => { n with ien := v.setWidth 5 }
  | 0x09 => statusStore s c v 0xFFFFFFE0 fun n =>
      { n with pendPhase := n.pendPhase && !v.getLsbD 0, pendStream := n.pendStream && !v.getLsbD 1 }
  | 0x10 => statusStore s c v 0 fun n => { n with hqSel := v }
  | 0x11 => if v.getLsbD 1 then none else statusStore s c v 0xFFFFFFFC fun n => { n with dbgHalt := v.getLsbD 0 }
  | 0x12 => statusStore s c v 2 fun n => { n with bkpt := vset n.bkpt 0 (v &&& 0xFFFFFFFD) }
  | 0x13 => statusStore s c v 2 fun n => { n with bkpt := vset n.bkpt 1 (v &&& 0xFFFFFFFD) }
  | 0x14 => statusStore s c v 0x3F fun n => { n with wsp := v &&& 0xFFFFFFC0 }
  | _ =>
    if 0x18 ≤ k ∧ k ≤ 0x1F then
      statusStore s c v 0xFFE fun n =>
        { n with segs := vset n.segs ⟨(k - 0x18) % 8, Nat.mod_lt _ (by decide)⟩ (v &&& 0xFFFFF001) }
    else none

/-- WRS (R360). -/
def wrsOp (s : State) (c : CoreId) (w : W32) : Did :=
  match statusSet s c (nImm w).toNat (regGet (coreNewel s c) (nRs1 w)) with
  | some s1 => retired s1 c id
  | none => illegal w

/-! ### The instruction at the PC -/

/-- What each instruction does (R335-R345, R357, R359). -/
def newelDo (k : NOp) (s : State) (c : CoreId) (w : W32) : Did :=
  let n := coreNewel s c
  match k with
  | .add => aluOp (fun x y => x + y) s c w
  | .sub => aluOp (fun x y => x - y) s c w
  | .and => aluOp (fun x y => x &&& y) s c w
  | .or => aluOp (fun x y => x ||| y) s c w
  | .xor => aluOp (fun x y => x ^^^ y) s c w
  | .sll => aluOp (fun x y => x <<< (y.toNat % 32)) s c w
  | .srl => aluOp (fun x y => x >>> (y.toNat % 32)) s c w
  | .sra => aluOp (fun x y => x.sshiftRight (y.toNat % 32)) s c w
  | .slt => aluOp (fun x y => flag32 (x.slt y)) s c w
  | .sltu => aluOp (fun x y => flag32 (x.ult y)) s c w
  | .mul => aluOp (fun x y => x * y) s c w
  | .mulh => aluOp mulHigh s c w
  | .mulhu => aluOp mulHighU s c w
  | .div => divOp (fun x y => x.sdiv y) s c w
  | .divu => divOp (fun x y => x / y) s c w
  | .rem => divOp (fun x y => x.srem y) s c w
  | .remu => divOp (fun x y => x % y) s c w
  | .addi => immOp (fun x => x + nSimm w) s c w
  | .andi => immOp (fun x => x &&& nZimm w) s c w
  | .ori => immOp (fun x => x ||| nZimm w) s c w
  | .xori => immOp (fun x => x ^^^ nZimm w) s c w
  | .slli => immOp (fun x => x <<< ((nImm w).toNat % 32)) s c w
  | .srli => immOp (fun x => x >>> ((nImm w).toNat % 32)) s c w
  | .srai => immOp (fun x => x.sshiftRight ((nImm w).toNat % 32)) s c w
  | .slti => immOp (fun x => flag32 (x.slt (nSimm w))) s c w
  | .sltiu => immOp (fun x => flag32 (x.ult (nSimm w))) s c w
  | .lui => retiredWith s c (nRd w) (nZimm w <<< 16)
  | .ldw => loadOp .word s c w
  | .ldh => loadOp .half s c w
  | .ldhu => loadOp .halfU s c w
  | .ldb => loadOp .byte s c w
  | .ldbu => loadOp .byteU s c w
  | .stw => storeOp 4 s c w
  | .sth => storeOp 2 s c w
  | .stb => storeOp 1 s c w
  | .ldfk => tagLoad false s c w
  | .ldfd => tagLoad true s c w
  | .stf => tagStore s c w
  | .atomAdd => atomOp .add s c w
  | .atomSwap => atomOp .swap s c w
  | .atomCas => atomOp .cas s c w
  | .atomMinSigned => atomOp .minS s c w
  | .atomMaxSigned => atomOp .maxS s c w
  | .atomMinUnsigned => atomOp .minU s c w
  | .atomMaxUnsigned => atomOp .maxU s c w
  | .beq => branchOp (fun x y => x == y) s c w
  | .bne => branchOp (fun x y => x != y) s c w
  | .blt => branchOp (fun x y => x.slt y) s c w
  | .bge => branchOp (fun x y => !x.slt y) s c w
  | .bltu => branchOp (fun x y => x.ult y) s c w
  | .bgeu => branchOp (fun x y => !x.ult y) s c w
  | .jmp => jumpOp s c (nJump n.pc w)
  | .call => callOp s c (nJump n.pc w)
  | .jmpr => jumpOp s c (regGet n (nRs1 w) + nSimm w)
  | .callr => callOp s c (regGet n (nRs1 w) + nSimm w)
  | .ret => retOp s c
  | .leave => leaveOp s c
  | .enter => enterOp s c
  | .rett => rettOp s c w
  | .newelEnd => endOp s c
  | .wfi => wfiOp s c
  | .trap => .trapNext ((nRs2 w).setWidth 32)
  | .brk => brkOp s c
  | .fence => fenceOp false s c
  | .fenceR => fenceOp true s c
  | .ifence => ifenceOp s c
  | .spill => spillOp s c w
  | .fill => fillOp s c w
  | .stra => streamOp .a s c w
  | .strx => streamOp .x s c w
  | .sjoin => sjoinOp s c w
  | .rds => rdsOp s c w
  | .wrs => wrsOp s c w
  | .pusha => pushOp 0 (fun n => regGet n (nRs2 w) ++ regGet n (nRs1 w)) s c w
  | .pmov => pushOp 1 (fun n => (regGet n (nRs1 w) &&& 0xFF).setWidth 64) s c w
  | .popn => popnOp s c w

/-- An enabled breakpoint names the PC and stops the Room (R354). -/
def breakHere (s : State) (c : CoreId) : Bool :=
  let n := coreNewel s c
  debugHalts s c && !n.skipBreak && n.bkpt.any fun b => b.getLsbD 0 && b &&& 0xFFFFFFFC == n.pc

/-- The fetch buffer is full: the word at the PC and the two after it (R352). -/
def fetched (s : State) (c : CoreId) : State := onCore s c fun n => { n with fetchBuf := filledBuf s c }

/-- What the instruction at the PC is and comes to. A PC outside the instruction space, a breakpoint and a word that is no
instruction name no instruction (R347, R354). -/
def nextDid (s : State) (c : CoreId) : Option NOp × Did :=
  match filledBuf s c with
  | [] => (none, .trap 2 (coreNewel s c).pc 0)
  | w :: _ =>
    if breakHere s c then (none, .debug false)
    else match newelDecode w with
      | none => (none, illegal w)
      | some k => (some k, newelDo k (fetched s c) c w)

/-- The Room stops in DEBUG_HALT; NWL_TPC holds the address, and a BRK has executed (R354). -/
def newelDebugHalt (s : State) (c : CoreId) (ran : Bool) : State :=
  match coreRoom c with
  | some r => s.onRoom r fun x =>
      let n := { x.newel with tpc := x.newel.pc }
      { x with st := .debugHalt, stBefore := .running, sdbgWhich := 0, blockLatched := BitVec.ofNat 32 (blockLive x),
               newel := if ran then retire n else n }
  | none => s

/-- The outcome takes effect. An instruction does not issue before an interrupt that is due, unless it raises a synchronous
trap (R351). -/
def settle (s : State) (c : CoreId) (d : Did) : State :=
  match d with
  | .trap cause tval tcond => trapHere s c cause tval tcond
  | .trapNext code => takeTrap s c 9 code 0 ((coreNewel s c).pc + 4)
  | .debug ran => if (irqDue s c).isSome && ran then s else newelDebugHalt s c ran
  | .go t => if (irqDue s c).isSome then s else t
  | .wait why => if (irqDue s c).isSome then s else onCore (fetched s c) c fun n => { n with wait := .blocked why }
  | .hold => s
  | .halt off =>
    match coreRoom c with
    | some r => if (irqDue s c).isSome then s else haltRoom s r 0x0802 ⟨1, off, (s.room r).newel.retired⟩
    | none => s

/-- The core issues: its clock and its Room run, and it does not wait for an answer. -/
def issues (s : State) (c : CoreId) : Bool :=
  coreGoes s c && (match (coreNewel s c).wait with | .ready => true | .blocked _ => true | _ => false)

/-- The row of an instruction: the core `c` executes its next instruction when it is this one. -/
def newelRow (k : NOp) (c : CoreId) (s : State) : Res :=
  if !issues s c then .next s
  else
    let d := nextDid s c
    if d.1 = none ∨ d.1 = some k then .next (settle s c d.2) else .next s

/-- A synchronous trap or a breakpoint goes before an interrupt (R347, R351). -/
def trapsFirst : Did → Bool
  | .trap .. => true
  | .trapNext _ => true
  | .debug ran => !ran
  | _ => false

/-- NEWEL_INTERRUPT: a WFI that waits ends when an enabled interrupt is pending; the interrupt is taken before the next
instruction when IE is 1 and TM is 0 (R351). -/
def execNewelInterrupt (c : CoreId) (s : State) : Res :=
  if !issues s c then .next s
  else
    let n := coreNewel s c
    let s1 := if n.wait = .blocked .waitph ∧ irqPending s c = true then onCore s c retire else s
    match irqDue s1 c with
    | some i =>
      if trapsFirst (nextDid s1 c).2 then .next s1
      else .next (onCore s1 c fun n => trapEntry n (BitVec.ofNat 8 (0x10 + i.1)) (irqValue n i) 0 n.pc)
    | none => .next s1

/-! ### Errors of a Room's memories (R297, R324, R329, R353, R595) -/

/-- DETAIL of a quarantine record: a reason and a slot (R595). -/
def quarantineDetail (reason slot : Nat) : W32 := BitVec.ofNat 32 (reason * 65536 + slot)

/-- An error that a running Room meets: a corrected one is counted; any other quarantines the Room. -/
def roomError (s : State) (r : RoomId) (e : RoomErr) : State :=
  match e with
  | .none => s
  | .corrected => s.onRoom r fun x => { x with pantryCe := satAdd x.pantryCe 1 }
  | .pantryWord slot => quarantine s r (quarantineDetail 1 slot.toNat)
  | .tagParity slot => quarantine s r (quarantineDetail 2 slot.toNat)
  | .memory off =>
    quarantine (logCond s 0x090B (wingByte (roomOwner s r)) (BitVec.ofNat 8 r.1) (BitVec.ofNat 32 off.toNat)) r
      (quarantineDetail 5 0)
  | .lockstep => if (lockstepMate s r).isSome then quarantine s r (quarantineDetail 3 0) else s

/-- LDW, with an error `e` that its Room meets on the cycle. -/
def execLdw (c : CoreId) (e : RoomErr) (s : State) : Res :=
  match coreRoom c with
  | some r => newelRow .ldw c (if coreGoes s c then roomError s r e else s)
  | none => newelRow .ldw c s

/-! ### The rows -/

/-- ADD (R357). -/
def execAdd (c : CoreId) (s : State) : Res := newelRow .add c s

/-- SUB (R357). -/
def execSub (c : CoreId) (s : State) : Res := newelRow .sub c s

/-- AND (R357). -/
def execAnd (c : CoreId) (s : State) : Res := newelRow .and c s

/-- OR (R357). -/
def execOr (c : CoreId) (s : State) : Res := newelRow .or c s

/-- XOR (R357). -/
def execXor (c : CoreId) (s : State) : Res := newelRow .xor c s

/-- SLL (R357). -/
def execSll (c : CoreId) (s : State) : Res := newelRow .sll c s

/-- SRL (R357). -/
def execSrl (c : CoreId) (s : State) : Res := newelRow .srl c s

/-- SRA (R357). -/
def execSra (c : CoreId) (s : State) : Res := newelRow .sra c s

/-- SLT (R357). -/
def execSlt (c : CoreId) (s : State) : Res := newelRow .slt c s

/-- SLTU (R357). -/
def execSltu (c : CoreId) (s : State) : Res := newelRow .sltu c s

/-- MUL (R357). -/
def execMul (c : CoreId) (s : State) : Res := newelRow .mul c s

/-- MULH (R357). -/
def execMulh (c : CoreId) (s : State) : Res := newelRow .mulh c s

/-- MULHU (R357). -/
def execMulhu (c : CoreId) (s : State) : Res := newelRow .mulhu c s

/-- DIV (R357). -/
def execDiv (c : CoreId) (s : State) : Res := newelRow .div c s

/-- DIVU (R357). -/
def execDivu (c : CoreId) (s : State) : Res := newelRow .divu c s

/-- REM (R357). -/
def execRem (c : CoreId) (s : State) : Res := newelRow .rem c s

/-- REMU (R357). -/
def execRemu (c : CoreId) (s : State) : Res := newelRow .remu c s

/-- ADDI (R357). -/
def execAddi (c : CoreId) (s : State) : Res := newelRow .addi c s

/-- ANDI (R357). -/
def execAndi (c : CoreId) (s : State) : Res := newelRow .andi c s

/-- ORI (R357). -/
def execOri (c : CoreId) (s : State) : Res := newelRow .ori c s

/-- XORI (R357). -/
def execXori (c : CoreId) (s : State) : Res := newelRow .xori c s

/-- SLLI (R357). -/
def execSlli (c : CoreId) (s : State) : Res := newelRow .slli c s

/-- SRLI (R357). -/
def execSrli (c : CoreId) (s : State) : Res := newelRow .srli c s

/-- SRAI (R357). -/
def execSrai (c : CoreId) (s : State) : Res := newelRow .srai c s

/-- SLTI (R357). -/
def execSlti (c : CoreId) (s : State) : Res := newelRow .slti c s

/-- SLTIU (R357). -/
def execSltiu (c : CoreId) (s : State) : Res := newelRow .sltiu c s

/-- LUI (R357). -/
def execLui (c : CoreId) (s : State) : Res := newelRow .lui c s

/-- LDH (R341). -/
def execLdh (c : CoreId) (s : State) : Res := newelRow .ldh c s

/-- LDHU (R341). -/
def execLdhu (c : CoreId) (s : State) : Res := newelRow .ldhu c s

/-- LDB (R341). -/
def execLdb (c : CoreId) (s : State) : Res := newelRow .ldb c s

/-- LDBU (R341). -/
def execLdbu (c : CoreId) (s : State) : Res := newelRow .ldbu c s

/-- STW (R341). -/
def execStw (c : CoreId) (s : State) : Res := newelRow .stw c s

/-- STH (R341). -/
def execSth (c : CoreId) (s : State) : Res := newelRow .sth c s

/-- STB (R341). -/
def execStb (c : CoreId) (s : State) : Res := newelRow .stb c s

/-- LDFK (R342). -/
def execLdfk (c : CoreId) (s : State) : Res := newelRow .ldfk c s

/-- LDFD (R342). -/
def execLdfd (c : CoreId) (s : State) : Res := newelRow .ldfd c s

/-- STF (R342). -/
def execStf (c : CoreId) (s : State) : Res := newelRow .stf c s

/-- ATOM_ADD (R359). -/
def execAtomAdd (c : CoreId) (s : State) : Res := newelRow .atomAdd c s

/-- ATOM_SWAP (R359). -/
def execAtomSwap (c : CoreId) (s : State) : Res := newelRow .atomSwap c s

/-- ATOM_CAS (R359). -/
def execAtomCas (c : CoreId) (s : State) : Res := newelRow .atomCas c s

/-- ATOM_MIN_SIGNED (R359). -/
def execAtomMinSigned (c : CoreId) (s : State) : Res := newelRow .atomMinSigned c s

/-- ATOM_MAX_SIGNED (R359). -/
def execAtomMaxSigned (c : CoreId) (s : State) : Res := newelRow .atomMaxSigned c s

/-- ATOM_MIN_UNSIGNED (R359). -/
def execAtomMinUnsigned (c : CoreId) (s : State) : Res := newelRow .atomMinUnsigned c s

/-- ATOM_MAX_UNSIGNED (R359). -/
def execAtomMaxUnsigned (c : CoreId) (s : State) : Res := newelRow .atomMaxUnsigned c s

/-- BEQ (R357). -/
def execBeq (c : CoreId) (s : State) : Res := newelRow .beq c s

/-- BNE (R357). -/
def execBne (c : CoreId) (s : State) : Res := newelRow .bne c s

/-- BLT (R357). -/
def execBlt (c : CoreId) (s : State) : Res := newelRow .blt c s

/-- BGE (R357). -/
def execBge (c : CoreId) (s : State) : Res := newelRow .bge c s

/-- BLTU (R357). -/
def execBltu (c : CoreId) (s : State) : Res := newelRow .bltu c s

/-- BGEU (R357). -/
def execBgeu (c : CoreId) (s : State) : Res := newelRow .bgeu c s

/-- JMP (R357). -/
def execJmp (c : CoreId) (s : State) : Res := newelRow .jmp c s

/-- CALL (R336). -/
def execCall (c : CoreId) (s : State) : Res := newelRow .call c s

/-- JMPR (R357). -/
def execJmpr (c : CoreId) (s : State) : Res := newelRow .jmpr c s

/-- CALLR (R336). -/
def execCallr (c : CoreId) (s : State) : Res := newelRow .callr c s

/-- RET (R336). -/
def execRet (c : CoreId) (s : State) : Res := newelRow .ret c s

/-- LEAVE (R336). -/
def execLeave (c : CoreId) (s : State) : Res := newelRow .leave c s

/-- ENTER (R336). -/
def execEnter (c : CoreId) (s : State) : Res := newelRow .enter c s

/-- RETT (R348). -/
def execRett (c : CoreId) (s : State) : Res := newelRow .rett c s

/-- NEWEL_END (R345). -/
def execNewelEnd (c : CoreId) (s : State) : Res := newelRow .newelEnd c s

/-- WFI (R351). -/
def execWfi (c : CoreId) (s : State) : Res := newelRow .wfi c s

/-- TRAP (R347). -/
def execTrap (c : CoreId) (s : State) : Res := newelRow .trap c s

/-- BRK (R354). -/
def execBrk (c : CoreId) (s : State) : Res := newelRow .brk c s

/-- FENCE (R289). -/
def execFence (c : CoreId) (s : State) : Res := newelRow .fence c s

/-- FENCE_R (R289). -/
def execFenceR (c : CoreId) (s : State) : Res := newelRow .fenceR c s

/-- IFENCE (R352). -/
def execIfence (c : CoreId) (s : State) : Res := newelRow .ifence c s

/-- SPILL (R337). -/
def execSpill (c : CoreId) (s : State) : Res := newelRow .spill c s

/-- FILL (R337). -/
def execFill (c : CoreId) (s : State) : Res := newelRow .fill c s

/-- STRA (R344). -/
def execStra (c : CoreId) (s : State) : Res := newelRow .stra c s

/-- STRX (R344). -/
def execStrx (c : CoreId) (s : State) : Res := newelRow .strx c s

/-- SJOIN (R344). -/
def execSjoin (c : CoreId) (s : State) : Res := newelRow .sjoin c s

/-- RDS (R360). -/
def execRds (c : CoreId) (s : State) : Res := newelRow .rds c s

/-- WRS (R360). -/
def execWrs (c : CoreId) (s : State) : Res := newelRow .wrs c s

/-- PUSHA (R343). -/
def execPusha (c : CoreId) (s : State) : Res := newelRow .pusha c s

/-- PMOV (R343). -/
def execPmov (c : CoreId) (s : State) : Res := newelRow .pmov c s

/-- POPN (R343). -/
def execPopn (c : CoreId) (s : State) : Res := newelRow .popn c s

end Sys2Proof.Machine
end

