-- ==== Sys2Proof/Machine/Dispatch.lean ====
section
/-!
DEFINITION. Machine/Dispatch.lean: one arm per command, each a direct call of its meaning.
-/
namespace Sys2Proof.Machine
open Sys2Proof

def exec (i : Instr) (s : State) : Host.Outcome State Fault Refusal :=
  match i with
  | .registerWrite off bs => Sys2Proof.Machine.execRegisterWrite off bs s
  | .wingCreate => Sys2Proof.Machine.execWingCreate s
  | .wingDestroy => Sys2Proof.Machine.execWingDestroy s
  | .clearingZeroingDone w => Sys2Proof.Machine.execClearingZeroingDone w s
  | .controlRun => Sys2Proof.Machine.execControlRun s
  | .controlFreeze => Sys2Proof.Machine.execControlFreeze s
  | .controlThaw => Sys2Proof.Machine.execControlThaw s
  | .wingFrozen w => Sys2Proof.Machine.execWingFrozen w s
  | .houseFloorWrite => Sys2Proof.Machine.execHouseFloorWrite s
  | .deviceCapWrite => Sys2Proof.Machine.execDeviceCapWrite s
  | .socketBudgetWrite => Sys2Proof.Machine.execSocketBudgetWrite s
  | .norWriteDone => Sys2Proof.Machine.execNorWriteDone s
  | .keyInstall => Sys2Proof.Machine.execKeyInstall s
  | .keyRemove => Sys2Proof.Machine.execKeyRemove s
  | .provision => Sys2Proof.Machine.execProvision s
  | .fwImage => Sys2Proof.Machine.execFwImage s
  | .fwNorUpdateDone => Sys2Proof.Machine.execFwNorUpdateDone s
  | .debugUnlock => Sys2Proof.Machine.execDebugUnlock s
  | .debugLock => Sys2Proof.Machine.execDebugLock s
  | .alarmReset => Sys2Proof.Machine.execAlarmReset s
  | .levelMap => Sys2Proof.Machine.execLevelMap s
  | .supplyAlarm => Sys2Proof.Machine.execSupplyAlarm s
  | .clockAlarm => Sys2Proof.Machine.execClockAlarm s
  | .tempAlarm => Sys2Proof.Machine.execTempAlarm s
  | .lidAlarm => Sys2Proof.Machine.execLidAlarm s
  | .tapInstruction at_ => Sys2Proof.Machine.execTapInstruction at_ s
  | .eraseEpochProgrammed => Sys2Proof.Machine.execEraseEpochProgrammed s
  | .keyFileErased => Sys2Proof.Machine.execKeyFileErased s
  | .eraseScrubDone => Sys2Proof.Machine.execEraseScrubDone s
  | .porchSramZeroed => Sys2Proof.Machine.execPorchSramZeroed s
  | .canFrame f => Sys2Proof.Machine.execCanFrame f s
  | .mbxGo w k seg len last irq => Sys2Proof.Machine.execMbxGo w k seg len last irq s
  | .mbxCancel w k => Sys2Proof.Machine.execMbxCancel w k s
  | .mbxNext w k => Sys2Proof.Machine.execMbxNext w k s
  | .segTimeout who seq => Sys2Proof.Machine.execSegTimeout who seq s
  | .mladyxRead => Sys2Proof.Machine.execMladyxRead s
  | .mladyxWrite => Sys2Proof.Machine.execMladyxWrite s
  | .mladyxAnswerSent => Sys2Proof.Machine.execMladyxAnswerSent s
  | .alertQueueSend => Sys2Proof.Machine.execAlertQueueSend s
  | .canBusOffRecovery => Sys2Proof.Machine.execCanBusOffRecovery s
  | .disturbLimitWrite => Sys2Proof.Machine.execDisturbLimitWrite s
  | .configRequest q => Sys2Proof.Machine.execConfigRequest q s
  | .functionLevelReset => Sys2Proof.Machine.execFunctionLevelReset s
  | .ringEnable w => Sys2Proof.Machine.execRingEnable w s
  | .ringEnableDone w => Sys2Proof.Machine.execRingEnableDone w s
  | .ringDisable w => Sys2Proof.Machine.execRingDisable w s
  | .sqDoorbell w v => Sys2Proof.Machine.execSqDoorbell w v s
  | .descriptorCopy w => Sys2Proof.Machine.execDescriptorCopy w s
  | .completionSlotReserve w => Sys2Proof.Machine.execCompletionSlotReserve w s
  | .cqHeadWrite w v => Sys2Proof.Machine.execCqHeadWrite w v s
  | .jobNop w => Sys2Proof.Machine.execJobNop w s
  | .jobProgramLoad w => Sys2Proof.Machine.execJobProgramLoad w s
  | .programLoadDone w serial => Sys2Proof.Machine.execProgramLoadDone w serial s
  | .jobRun w => Sys2Proof.Machine.execJobRun w s
  | .jobHatchCopy w => Sys2Proof.Machine.execJobHatchCopy w s
  | .hatchCopyDone w => Sys2Proof.Machine.execHatchCopyDone w s
  | .msixHoldoffExpiry v => Sys2Proof.Machine.execMsixHoldoffExpiry v s
  | .pcieCompletion w tag data ok => Sys2Proof.Machine.execPcieCompletion w tag data ok s
  | .pcieCompletionTimeout w tag => Sys2Proof.Machine.execPcieCompletionTimeout w tag s
  | .jobImageLoad w => Sys2Proof.Machine.execJobImageLoad w s
  | .imageLoadDone w serial => Sys2Proof.Machine.execImageLoadDone w serial s
  | .jobImageCommit w => Sys2Proof.Machine.execJobImageCommit w s
  | .jobImageErase w => Sys2Proof.Machine.execJobImageErase w s
  | .jobCollective w => Sys2Proof.Machine.execJobCollective w s
  | .hatchWindowWrite w off bs be => Sys2Proof.Machine.execHatchWindowWrite w off bs be s
  | .hatchWindowRead w off n => Sys2Proof.Machine.execHatchWindowRead w off n s
  | .hatchPortWrite w bs full => Sys2Proof.Machine.execHatchPortWrite w bs full s
  | .hatchPortRead w n => Sys2Proof.Machine.execHatchPortRead w n s
  | .hatchAddrWrite w a => Sys2Proof.Machine.execHatchAddrWrite w a s
  | .hatchFlush w => Sys2Proof.Machine.execHatchFlush w s
  | .hatchReadaheadFill w => Sys2Proof.Machine.execHatchReadaheadFill w s
  | .phaseTick => Sys2Proof.Machine.execPhaseTick s
  | .halfCycleBoundary => Sys2Proof.Machine.execHalfCycleBoundary s
  | .mainsEdge dt => Sys2Proof.Machine.execMainsEdge dt s
  | .mainsEdgeMissing => Sys2Proof.Machine.execMainsEdgeMissing s
  | .unlockedDecision => Sys2Proof.Machine.execUnlockedDecision s
  | .holdoverExpiry => Sys2Proof.Machine.execHoldoverExpiry s
  | .unlockedAccountClose => Sys2Proof.Machine.execUnlockedAccountClose s
  | .beacon residence => Sys2Proof.Machine.execBeacon residence s
  | .beaconMissing => Sys2Proof.Machine.execBeaconMissing s
  | .phCmpClaim n w => Sys2Proof.Machine.execPhCmpClaim n w s
  | .phCmpRelease n w => Sys2Proof.Machine.execPhCmpRelease n w s
  | .phCmpArm n room clrLate clrFired event record => Sys2Proof.Machine.execPhCmpArm n room clrLate clrFired event record s
  | .phCmpDisarm n room clrLate clrFired event record => Sys2Proof.Machine.execPhCmpDisarm n room clrLate clrFired event record s
  | .phCmpTimeWrite n t => Sys2Proof.Machine.execPhCmpTimeWrite n t s
  | .phCmpRecWrite n a => Sys2Proof.Machine.execPhCmpRecWrite n a s
  | .phNowLowRead => Sys2Proof.Machine.execPhNowLowRead s
  | .fuseReport => Sys2Proof.Machine.execFuseReport s
  | .reportDeadline => Sys2Proof.Machine.execReportDeadline s
  | .fuseGrant => Sys2Proof.Machine.execFuseGrant s
  | .grantDeadline => Sys2Proof.Machine.execGrantDeadline s
  | .pmbusTransactionDone r ok round rail => Sys2Proof.Machine.execPmbusTransactionDone r ok round rail s
  | .stretchStep e0 => Sys2Proof.Machine.execStretchStep e0 s
  | .cellarSlot at_ => Sys2Proof.Machine.execCellarSlot at_ s
  | .pageReadDone at_ id ok => Sys2Proof.Machine.execPageReadDone at_ id ok s
  | .reconstructionDone at_ id ok => Sys2Proof.Machine.execReconstructionDone at_ id ok s
  | .pageProgramDone at_ b pos ok => Sys2Proof.Machine.execPageProgramDone at_ b pos ok s
  | .rateUpdate => Sys2Proof.Machine.execRateUpdate s
  | .imageCommitEntry => Sys2Proof.Machine.execImageCommitEntry s
  | .imageEraseEntry => Sys2Proof.Machine.execImageEraseEntry s
  | .relocationStart at_ => Sys2Proof.Machine.execRelocationStart at_ s
  | .mapSnapshotDone at_ => Sys2Proof.Machine.execMapSnapshotDone at_ s
  | .blockEraseStart at_ b => Sys2Proof.Machine.execBlockEraseStart at_ b s
  | .blockEraseDone at_ b ok => Sys2Proof.Machine.execBlockEraseDone at_ b ok s
  | .scrubPassStart at_ => Sys2Proof.Machine.execScrubPassStart at_ s
  | .scrubNow at_ => Sys2Proof.Machine.execScrubNow at_ s
  | .dieCommandTimeout at_ d => Sys2Proof.Machine.execDieCommandTimeout at_ d s
  | .larderRequestSlot h patrolDue errs => Sys2Proof.Machine.execLarderRequestSlot h patrolDue errs s
  | .gets line => Sys2Proof.Machine.execGets line s
  | .getx line => Sys2Proof.Machine.execGetx line s
  | .upg line => Sys2Proof.Machine.execUpg line s
  | .atom line => Sys2Proof.Machine.execAtom line s
  | .ncRd line => Sys2Proof.Machine.execNcRd line s
  | .ncWr line => Sys2Proof.Machine.execNcWr line s
  | .fwdGets c line => Sys2Proof.Machine.execFwdGets c line s
  | .fwdGetx c line => Sys2Proof.Machine.execFwdGetx c line s
  | .inv c line => Sys2Proof.Machine.execInv c line s
  | .binv c line => Sys2Proof.Machine.execBinv c line s
  | .ack c line => Sys2Proof.Machine.execAck c line s
  | .wbPending c line => Sys2Proof.Machine.execWbPending c line s
  | .dat c line => Sys2Proof.Machine.execDat c line s
  | .wb c line => Sys2Proof.Machine.execWb c line s
  | .cmp c line => Sys2Proof.Machine.execCmp c line s
  | .wbAck c line => Sys2Proof.Machine.execWbAck c line s
  | .ncAck p line => Sys2Proof.Machine.execNcAck p line s
  | .atomDone p line => Sys2Proof.Machine.execAtomDone p line s
  | .datS c line => Sys2Proof.Machine.execDatS c line s
  | .datE c line => Sys2Proof.Machine.execDatE c line s
  | .datM c line => Sys2Proof.Machine.execDatM c line s
  | .datNc p line => Sys2Proof.Machine.execDatNc p line s
  | .larderAccessDone line errs => Sys2Proof.Machine.execLarderAccessDone line errs s
  | .farAtomicIdle line => Sys2Proof.Machine.execFarAtomicIdle line s
  | .regionEntryWrite n reg v => Sys2Proof.Machine.execRegionEntryWrite n reg v s
  | .storeBufferDrain c => Sys2Proof.Machine.execStoreBufferDrain c s
  | .pantryRangeClaim r range task base lenM1 => Sys2Proof.Machine.execPantryRangeClaim r range task base lenM1 s
  | .pantryRangeRelease r range task => Sys2Proof.Machine.execPantryRangeRelease r range task s
  | .roomTaskWrite r task range => Sys2Proof.Machine.execRoomTaskWrite r task range s
  | .hqConfigWrite r q kind task destRoom destQ auxQ => Sys2Proof.Machine.execHqConfigWrite r q kind task destRoom destQ auxQ s
  | .linkMoveStart r q => Sys2Proof.Machine.execLinkMoveStart r q s
  | .linkMoveDone r q => Sys2Proof.Machine.execLinkMoveDone r q s
  | .waitLimitExpiry r agent => Sys2Proof.Machine.execWaitLimitExpiry r agent s
  | .stallWatchFire r => Sys2Proof.Machine.execStallWatchFire r s
  | .storeyWatchFire at_ => Sys2Proof.Machine.execStoreyWatchFire at_ s
  | .roomIdle r => Sys2Proof.Machine.execRoomIdle r s
  | .roomGangWrite at_ gang lockstep => Sys2Proof.Machine.execRoomGangWrite at_ gang lockstep s
  | .pantryPeek r slot tagSet => Sys2Proof.Machine.execPantryPeek r slot tagSet s
  | .pantryForce r slot tagSet => Sys2Proof.Machine.execPantryForce r slot tagSet s
  | .add c => Sys2Proof.Machine.execAdd c s
  | .sub c => Sys2Proof.Machine.execSub c s
  | .and c => Sys2Proof.Machine.execAnd c s
  | .or c => Sys2Proof.Machine.execOr c s
  | .xor c => Sys2Proof.Machine.execXor c s
  | .sll c => Sys2Proof.Machine.execSll c s
  | .srl c => Sys2Proof.Machine.execSrl c s
  | .sra c => Sys2Proof.Machine.execSra c s
  | .slt c => Sys2Proof.Machine.execSlt c s
  | .sltu c => Sys2Proof.Machine.execSltu c s
  | .mul c => Sys2Proof.Machine.execMul c s
  | .mulh c => Sys2Proof.Machine.execMulh c s
  | .mulhu c => Sys2Proof.Machine.execMulhu c s
  | .div c => Sys2Proof.Machine.execDiv c s
  | .divu c => Sys2Proof.Machine.execDivu c s
  | .rem c => Sys2Proof.Machine.execRem c s
  | .remu c => Sys2Proof.Machine.execRemu c s
  | .addi c => Sys2Proof.Machine.execAddi c s
  | .andi c => Sys2Proof.Machine.execAndi c s
  | .ori c => Sys2Proof.Machine.execOri c s
  | .xori c => Sys2Proof.Machine.execXori c s
  | .slli c => Sys2Proof.Machine.execSlli c s
  | .srli c => Sys2Proof.Machine.execSrli c s
  | .srai c => Sys2Proof.Machine.execSrai c s
  | .slti c => Sys2Proof.Machine.execSlti c s
  | .sltiu c => Sys2Proof.Machine.execSltiu c s
  | .lui c => Sys2Proof.Machine.execLui c s
  | .ldw c e => Sys2Proof.Machine.execLdw c e s
  | .ldh c => Sys2Proof.Machine.execLdh c s
  | .ldhu c => Sys2Proof.Machine.execLdhu c s
  | .ldb c => Sys2Proof.Machine.execLdb c s
  | .ldbu c => Sys2Proof.Machine.execLdbu c s
  | .stw c => Sys2Proof.Machine.execStw c s
  | .sth c => Sys2Proof.Machine.execSth c s
  | .stb c => Sys2Proof.Machine.execStb c s
  | .ldfk c => Sys2Proof.Machine.execLdfk c s
  | .ldfd c => Sys2Proof.Machine.execLdfd c s
  | .stf c => Sys2Proof.Machine.execStf c s
  | .atomAdd c => Sys2Proof.Machine.execAtomAdd c s
  | .atomSwap c => Sys2Proof.Machine.execAtomSwap c s
  | .atomCas c => Sys2Proof.Machine.execAtomCas c s
  | .atomMinSigned c => Sys2Proof.Machine.execAtomMinSigned c s
  | .atomMaxSigned c => Sys2Proof.Machine.execAtomMaxSigned c s
  | .atomMinUnsigned c => Sys2Proof.Machine.execAtomMinUnsigned c s
  | .atomMaxUnsigned c => Sys2Proof.Machine.execAtomMaxUnsigned c s
  | .beq c => Sys2Proof.Machine.execBeq c s
  | .bne c => Sys2Proof.Machine.execBne c s
  | .blt c => Sys2Proof.Machine.execBlt c s
  | .bge c => Sys2Proof.Machine.execBge c s
  | .bltu c => Sys2Proof.Machine.execBltu c s
  | .bgeu c => Sys2Proof.Machine.execBgeu c s
  | .jmp c => Sys2Proof.Machine.execJmp c s
  | .call c => Sys2Proof.Machine.execCall c s
  | .jmpr c => Sys2Proof.Machine.execJmpr c s
  | .callr c => Sys2Proof.Machine.execCallr c s
  | .ret c => Sys2Proof.Machine.execRet c s
  | .leave c => Sys2Proof.Machine.execLeave c s
  | .enter c => Sys2Proof.Machine.execEnter c s
  | .rett c => Sys2Proof.Machine.execRett c s
  | .newelEnd c => Sys2Proof.Machine.execNewelEnd c s
  | .wfi c => Sys2Proof.Machine.execWfi c s
  | .trap c => Sys2Proof.Machine.execTrap c s
  | .brk c => Sys2Proof.Machine.execBrk c s
  | .fence c => Sys2Proof.Machine.execFence c s
  | .fenceR c => Sys2Proof.Machine.execFenceR c s
  | .ifence c => Sys2Proof.Machine.execIfence c s
  | .spill c => Sys2Proof.Machine.execSpill c s
  | .fill c => Sys2Proof.Machine.execFill c s
  | .stra c => Sys2Proof.Machine.execStra c s
  | .strx c => Sys2Proof.Machine.execStrx c s
  | .sjoin c => Sys2Proof.Machine.execSjoin c s
  | .rds c => Sys2Proof.Machine.execRds c s
  | .wrs c => Sys2Proof.Machine.execWrs c s
  | .pusha c => Sys2Proof.Machine.execPusha c s
  | .pmov c => Sys2Proof.Machine.execPmov c s
  | .popn c => Sys2Proof.Machine.execPopn c s
  | .newelInterrupt c => Sys2Proof.Machine.execNewelInterrupt c s
  | .nwlDbgResume r => Sys2Proof.Machine.execNwlDbgResume r s
  | .asNop r => Sys2Proof.Machine.execAsNop r s
  | .ldt r => Sys2Proof.Machine.execLdt r s
  | .stt r => Sys2Proof.Machine.execStt r s
  | .ldtLineDone r id => Sys2Proof.Machine.execLdtLineDone r id s
  | .sttLineDone r id => Sys2Proof.Machine.execSttLineDone r id s
  | .popa r => Sys2Proof.Machine.execPopa r s
  | .adda r => Sys2Proof.Machine.execAdda r s
  | .qpush r => Sys2Proof.Machine.execQpush r s
  | .qpop r => Sys2Proof.Machine.execQpop r s
  | .asGload r => Sys2Proof.Machine.execAsGload r s
  | .asLoop r => Sys2Proof.Machine.execAsLoop r s
  | .asSkip r => Sys2Proof.Machine.execAsSkip r s
  | .asPset r => Sys2Proof.Machine.execAsPset r s
  | .asPpop r => Sys2Proof.Machine.execAsPpop r s
  | .asPloop r => Sys2Proof.Machine.execAsPloop r s
  | .bind r => Sys2Proof.Machine.execBind r s
  | .unbind r => Sys2Proof.Machine.execUnbind r s
  | .asHrecv r => Sys2Proof.Machine.execAsHrecv r s
  | .asHsend r => Sys2Proof.Machine.execAsHsend r s
  | .asWaitph r => Sys2Proof.Machine.execAsWaitph r s
  | .asSync r => Sys2Proof.Machine.execAsSync r s
  | .asEnd r => Sys2Proof.Machine.execAsEnd r s
  | .waitphDone r xs => Sys2Proof.Machine.execWaitphDone r xs s
  | .syncRendezvous r => Sys2Proof.Machine.execSyncRendezvous r s
  | .xsLoop r => Sys2Proof.Machine.execXsLoop r s
  | .xsSkip r => Sys2Proof.Machine.execXsSkip r s
  | .xsPset r => Sys2Proof.Machine.execXsPset r s
  | .xsPpop r => Sys2Proof.Machine.execXsPpop r s
  | .xsPloop r => Sys2Proof.Machine.execXsPloop r s
  | .xsGload r => Sys2Proof.Machine.execXsGload r s
  | .xsHrecv r => Sys2Proof.Machine.execXsHrecv r s
  | .xsHsend r => Sys2Proof.Machine.execXsHsend r s
  | .xsWaitph r => Sys2Proof.Machine.execXsWaitph r s
  | .xsSync r => Sys2Proof.Machine.execXsSync r s
  | .xsEnd r => Sys2Proof.Machine.execXsEnd r s
  | .copy r => Sys2Proof.Machine.execCopy r s
  | .fillc r => Sys2Proof.Machine.execFillc r s
  | .mma r => Sys2Proof.Machine.execMma r s
  | .mmat r => Sys2Proof.Machine.execMmat r s
  | .conv r => Sys2Proof.Machine.execConv r s
  | .seth r => Sys2Proof.Machine.execSeth r s
  | .hearthOpDone r => Sys2Proof.Machine.execHearthOpDone r s
  | .sculleryAdd r => Sys2Proof.Machine.execSculleryAdd r s
  | .scullerySub r => Sys2Proof.Machine.execScullerySub r s
  | .sculleryMul r => Sys2Proof.Machine.execSculleryMul r s
  | .max r => Sys2Proof.Machine.execMax r s
  | .min r => Sys2Proof.Machine.execMin r s
  | .mulg r => Sys2Proof.Machine.execMulg r s
  | .rope r => Sys2Proof.Machine.execRope r s
  | .exp r => Sys2Proof.Machine.execExp r s
  | .silu r => Sys2Proof.Machine.execSilu r s
  | .gelu r => Sys2Proof.Machine.execGelu r s
  | .tanh r => Sys2Proof.Machine.execTanh r s
  | .swiglu r => Sys2Proof.Machine.execSwiglu r s
  | .cvtI8 r => Sys2Proof.Machine.execCvtI8 r s
  | .cvtE4m3 r => Sys2Proof.Machine.execCvtE4m3 r s
  | .cvtE5m2 r => Sys2Proof.Machine.execCvtE5m2 r s
  | .cvtBf16 r => Sys2Proof.Machine.execCvtBf16 r s
  | .cvtF32 r => Sys2Proof.Machine.execCvtF32 r s
  | .cvtI32 r => Sys2Proof.Machine.execCvtI32 r s
  | .rmax r => Sys2Proof.Machine.execRmax r s
  | .rsum r => Sys2Proof.Machine.execRsum r s
  | .rssq r => Sys2Proof.Machine.execRssq r s
  | .rdot r => Sys2Proof.Machine.execRdot r s
  | .sld r => Sys2Proof.Machine.execSld r s
  | .sst r => Sys2Proof.Machine.execSst r s
  | .rsqf r => Sys2Proof.Machine.execRsqf r s
  | .rcpf r => Sys2Proof.Machine.execRcpf r s
  | .tkclr r => Sys2Proof.Machine.execTkclr r s
  | .topk r => Sys2Proof.Machine.execTopk r s
  | .tkout r => Sys2Proof.Machine.execTkout r s
  | .tkmrg r => Sys2Proof.Machine.execTkmrg r s
  | .sample r => Sys2Proof.Machine.execSample r s
  | .dwconv r => Sys2Proof.Machine.execDwconv r s
  | .sculleryOpDone r => Sys2Proof.Machine.execSculleryOpDone r s
  | .streamDebugResume r => Sys2Proof.Machine.execStreamDebugResume r s
  | .dwFrameSend d t => Sys2Proof.Machine.execDwFrameSend d t s
  | .dwFrameReceived d f crcOk lcrcOk t => Sys2Proof.Machine.execDwFrameReceived d f crcOk lcrcOk t s
  | .lockSearchStart d => Sys2Proof.Machine.execLockSearchStart d s
  | .dwSignalDetect d signal => Sys2Proof.Machine.execDwSignalDetect d signal s
  | .trainingStageDone d pass => Sys2Proof.Machine.execTrainingStageDone d pass s
  | .trainingStageTimeout d => Sys2Proof.Machine.execTrainingStageTimeout d s
  | .dwDownRetry d => Sys2Proof.Machine.execDwDownRetry d s
  | .replayTimeout d => Sys2Proof.Machine.execReplayTimeout d s
  | .dwEcho d => Sys2Proof.Machine.execDwEcho d s
  | .dwFabCtrlEn en => Sys2Proof.Machine.execDwFabCtrlEn en s
  | .mladyx => Sys2Proof.Machine.execMladyx s
  | .censusQuery => Sys2Proof.Machine.execCensusQuery s
  | .censusAnswer => Sys2Proof.Machine.execCensusAnswer s
  | .censusResult => Sys2Proof.Machine.execCensusResult s
  | .censusComplete => Sys2Proof.Machine.execCensusComplete s
  | .censusNow => Sys2Proof.Machine.execCensusNow s
  | .rdReq => Sys2Proof.Machine.execRdReq s
  | .wrReq => Sys2Proof.Machine.execWrReq s
  | .atomReq => Sys2Proof.Machine.execAtomReq s
  | .pageReq => Sys2Proof.Machine.execPageReq s
  | .creditDraw => Sys2Proof.Machine.execCreditDraw s
  | .rdRsp => Sys2Proof.Machine.execRdRsp s
  | .wrAck => Sys2Proof.Machine.execWrAck s
  | .atomRsp => Sys2Proof.Machine.execAtomRsp s
  | .pageData => Sys2Proof.Machine.execPageData s
  | .creditGrant => Sys2Proof.Machine.execCreditGrant s
  | .refuse => Sys2Proof.Machine.execRefuse s
  | .move => Sys2Proof.Machine.execMove s
  | .reqTimeout tag => Sys2Proof.Machine.execReqTimeout tag s
  | .dwVcClaim d p w => Sys2Proof.Machine.execDwVcClaim d p w s
  | .dwVcRelease d p w => Sys2Proof.Machine.execDwVcRelease d p w s
  | .dwRouteWrite n v => Sys2Proof.Machine.execDwRouteWrite n v s
  | .stwGroupWrite n v => Sys2Proof.Machine.execStwGroupWrite n v s
  | .collGrant => Sys2Proof.Machine.execCollGrant s
  | .collDataChunk => Sys2Proof.Machine.execCollDataChunk s
  | .collCredit => Sys2Proof.Machine.execCollCredit s
  | .collAbort => Sys2Proof.Machine.execCollAbort s
  | .stwCtxAbort at_ => Sys2Proof.Machine.execStwCtxAbort at_ s
  | .collTimeout at_ => Sys2Proof.Machine.execCollTimeout at_ s
  | .abortHoldExpiry at_ => Sys2Proof.Machine.execAbortHoldExpiry at_ s
  | .abortRecordExpiry => Sys2Proof.Machine.execAbortRecordExpiry s
  | .collChunkSend at_ => Sys2Proof.Machine.execCollChunkSend at_ s
  | .segmentHandlePop at_ => Sys2Proof.Machine.execSegmentHandlePop at_ s
  | .claimStream => Sys2Proof.Machine.execClaimStream s
  | .releaseStream => Sys2Proof.Machine.execReleaseStream s
  | .start => Sys2Proof.Machine.execStart s
  | .stop => Sys2Proof.Machine.execStop s
  | .claimPages => Sys2Proof.Machine.execClaimPages s
  | .releasePages => Sys2Proof.Machine.execReleasePages s
  | .pageZeroed g => Sys2Proof.Machine.execPageZeroed g s
  | .claimParlour => Sys2Proof.Machine.execClaimParlour s
  | .releaseParlour => Sys2Proof.Machine.execReleaseParlour s
  | .parlourRun => Sys2Proof.Machine.execParlourRun s
  | .parlourStop => Sys2Proof.Machine.execParlourStop s
  | .csiBurstStart port vc dt wc errs => Sys2Proof.Machine.execCsiBurstStart port vc dt wc errs s
  | .frameStart port => Sys2Proof.Machine.execFrameStart port s
  | .csiLine port bs crcOk => Sys2Proof.Machine.execCsiLine port bs crcOk s
  | .frameEnd port => Sys2Proof.Machine.execFrameEnd port s
  | .tdmFs port slots => Sys2Proof.Machine.execTdmFs port slots s
  | .sensorPeriod k => Sys2Proof.Machine.execSensorPeriod k s
  | .sensorTransactionDone k rd ok => Sys2Proof.Machine.execSensorTransactionDone k rd ok s
  | .porchConv => Sys2Proof.Machine.execPorchConv s
  | .fc => Sys2Proof.Machine.execFc s
  | .pool => Sys2Proof.Machine.execPool s
  | .porchAdd => Sys2Proof.Machine.execPorchAdd s
  | .mel => Sys2Proof.Machine.execMel s
  | .waitsrc => Sys2Proof.Machine.execWaitsrc s
  | .waitsrcDone k => Sys2Proof.Machine.execWaitsrcDone k s
  | .porchCopy => Sys2Proof.Machine.execPorchCopy s
  | .result => Sys2Proof.Machine.execResult s
  | .porchJmp => Sys2Proof.Machine.execPorchJmp s
  | .porchWaitph => Sys2Proof.Machine.execPorchWaitph s
  | .porchWaitphDone k => Sys2Proof.Machine.execPorchWaitphDone k s
  | .porchEnd => Sys2Proof.Machine.execPorchEnd s
  | .frameTimeout k => Sys2Proof.Machine.execFrameTimeout k s
  | .parlourNop => Sys2Proof.Machine.execParlourNop s
  | .parlourConv => Sys2Proof.Machine.execParlourConv s
  | .parlourFc => Sys2Proof.Machine.execParlourFc s
  | .parlourPool => Sys2Proof.Machine.execParlourPool s
  | .parlourResult => Sys2Proof.Machine.execParlourResult s
  | .wait => Sys2Proof.Machine.execWait s
  | .parlourWaitDone => Sys2Proof.Machine.execParlourWaitDone s
  | .wrw => Sys2Proof.Machine.execWrw s
  | .parlourJmp => Sys2Proof.Machine.execParlourJmp s
  | .parlourLoop => Sys2Proof.Machine.execParlourLoop s
  | .input => Sys2Proof.Machine.execInput s
  | .inputDone => Sys2Proof.Machine.execInputDone s
  | .parlourEnd => Sys2Proof.Machine.execParlourEnd s
  | .porchParResultRead w => Sys2Proof.Machine.execPorchParResultRead w s
  | .resHeadWrite w k v => Sys2Proof.Machine.execResHeadWrite w k v s
  | .voutCommandDone at_ => Sys2Proof.Machine.execVoutCommandDone at_ s
  | .settleExpiry at_ => Sys2Proof.Machine.execSettleExpiry at_ s
  | .pllLockDetect at_ => Sys2Proof.Machine.execPllLockDetect at_ s
  | .lockHoldExpiry at_ => Sys2Proof.Machine.execLockHoldExpiry at_ s
  | .relockTimeout at_ => Sys2Proof.Machine.execRelockTimeout at_ s
  | .storeyGate v => Sys2Proof.Machine.execStoreyGate v s
  | .foyDomHold v => Sys2Proof.Machine.execFoyDomHold v s
  | .foyRoomHold v => Sys2Proof.Machine.execFoyRoomHold v s
  | .foyRoomInval v => Sys2Proof.Machine.execFoyRoomInval v s
  | .roomInvalDone r => Sys2Proof.Machine.execRoomInvalDone r s
  | .powerOnReset => Sys2Proof.Machine.execPowerOnReset s
  | .porEnd => Sys2Proof.Machine.execPorEnd s
  | .sysResetN low => Sys2Proof.Machine.execSysResetN low s
  | .perstN low => Sys2Proof.Machine.execPerstN low s
  | .watchdogExpiry => Sys2Proof.Machine.execWatchdogExpiry s
  | .refClkLoss lost => Sys2Proof.Machine.execRefClkLoss lost s
  | .trstN => Sys2Proof.Machine.execTrstN s
  | .holdupMonitor => Sys2Proof.Machine.execHoldupMonitor s
  | .deviceResetRelease => Sys2Proof.Machine.execDeviceResetRelease s
  | .slotVerifyDone jedec => Sys2Proof.Machine.execSlotVerifyDone jedec s
  | .larderTrainingDone rate ok => Sys2Proof.Machine.execLarderTrainingDone rate ok s
  | .larderZeroingDone => Sys2Proof.Machine.execLarderZeroingDone s
  | .cellarRecoveryDone at_ crcA crcB => Sys2Proof.Machine.execCellarRecoveryDone at_ crcA crcB s
  | .stackTimeout at_ => Sys2Proof.Machine.execStackTimeout at_ s
  | .hostReady => Sys2Proof.Machine.execHostReady s
  | .fabricTimeout => Sys2Proof.Machine.execFabricTimeout s
  | .alarmSourceCleared src => Sys2Proof.Machine.execAlarmSourceCleared src s
  | .engineCommandDone => Sys2Proof.Machine.execEngineCommandDone s
  | .roomZeroingDone r => Sys2Proof.Machine.execRoomZeroingDone r s
  | .emptyLongWord r => Sys2Proof.Machine.execEmptyLongWord r s
  | .markerAbsent d => Sys2Proof.Machine.execMarkerAbsent d s

end Sys2Proof.Machine
end

