-- ==== Sys2Proof/Safety.lean ====
section
/-!
DEFINITION. Safety.lean: the terms in which claims about the device are made: the canonical form of its memories, when an
access of the host is performed at once, and when a Newel's next instruction is the one a command names.
-/
namespace Sys2Proof.Machine
open Sys2Proof

/-! ### Memories in canonical form -/

/-- The addresses of a memory rise strictly. -/
def cellsRising : List Host.Cell → Bool
  | [] => true
  | [_] => true
  | a :: b :: m => decide (a.1 < b.1) && cellsRising (b :: m)

/-- A memory whose unlisted bytes read 0 is in canonical form: addresses rise, and no zero is listed. -/
def Memory.wf (m : List Host.Cell) : Bool := cellsRising m && m.all fun c => c.2 != 0

/-- A Newel's two memories. -/
def Newel.memWf (n : Newel) : Bool := Memory.wf n.imem && Memory.wf n.dmem

/-- A Room's memories: Pantry, Newel, A-stream and X-stream. -/
def Room.memWf (x : Room) : Bool :=
  Memory.wf x.pantry && x.newel.memWf && Memory.wf x.astream.strm.mem && Memory.wf x.xstream.mem

/-- Every memory of the device is in canonical form. An unlisted byte of the Larder is a free value, so its listing may hold
zeros. -/
def State.memWf (s : State) : Prop :=
  cellsRising s.larder.mem = true ∧ (∀ r, (s.room r).memWf = true) ∧ Memory.wf s.porch.sram = true ∧
    s.porchNewel.memWf = true ∧ s.foyerNewel.memWf = true ∧ Memory.wf s.sys.foyerPriv = true

/-! ### Accesses of the host -/

/-- A BAR access to a register of clock domain `d` is performed at once: READY outside D3hot and reset, no access waits, and
the domain runs (R151, R153, R157). -/
def State.barReady (s : State) (d : Nat) : Prop :=
  s.host.ready = true ∧ s.host.cfg.d3hot = false ∧ s.sys.inReset = false ∧ s.host.barBlocked = [] ∧ domainUp s d = true

/-- A mailbox access is performed at once: the dictionary server runs, the interface is ready outside D3hot, and no access
waits (R151, R153, R157). -/
def State.mbxReady (s : State) : Prop :=
  serverUp s = true ∧ s.host.ready = true ∧ s.host.cfg.d3hot = false ∧ s.host.barBlocked = []

/-! ### Requests of the dictionary -/

/-- A request is the one in turn: the server runs, no write is being made in NOR, and every answer queued before it has been
sent (R102). -/
def State.inTurn (s : State) (r : Request) : Prop :=
  serverUp s = true ∧ s.mgmt.norPending = none ∧ s.mgmt.ready.head? = some (r, 0)

/-- The state with the request in turn taken. -/
def State.taken (s : State) : State := s.onMgmt fun m => { m with ready := m.ready.tail }

/-- What a write to an RWA entry comes to (R64-R66, R69, R101): refused by the Threshold; kept until its counter stands in
NOR; refused by a later check; or, where it passes them all, `P` of the state in which it passed. -/
def SealedWrite (s : State) (r : Request) (t : State) (P : State → ObjId → Prop) : Prop :=
  ∃ o e, requestEntry r = some (o, e) ∧
    match thrCheck s.taken r.who r.act r.sealed r.obj r.mem r.value with
    | .refused s2 c => t = answerDone s2 r c
    | .passed s2 k persist =>
      if persist = true then t.mgmt.norPending = some ⟨r, .counter k (s2.thr.ca.get k).last, true⟩
      else if rangeCheck o r.mem.toNat r.value ≠ 0 then t = answerDone s2 r (rangeCheck o r.mem.toNat r.value)
      else if ownCheck s2 r o ≠ 0 then t = answerDone (noteRefusal s2 r o (ownCheck s2 r o)) r (ownCheck s2 r o)
      else P s2 o

/-! ### Requests at a home agent -/

/-- The home agent of a line. -/
def State.homeAt (s : State) (line : Nat) : Home := s.larder.homes.get (homeOf line)

/-- The cache of a core. -/
def State.cache (s : State) (c : CoreId) : Cache := s.larder.caches.get c

/-- The row of the table that handles a request of a kind at its home. -/
def homeCommand (line : Nat) : HomeKind → Instr
  | .getS => .gets line
  | .getX => .getx line
  | .upg => .upg line
  | .ncRd => .ncRd line
  | .ncWr _ _ => .ncWr line
  | .atom _ _ _ _ => .atom line

/-- A request is the one its home handles next for its line: accepted first, the line free, a directory way at hand (R276,
R280). -/
def State.handles (s : State) (t : Tracker) : Prop :=
  (s.homeAt t.req.line).trackers.find? (fun x => x.req.line == t.req.line && x.phase == .accepted) = some t ∧
    lineBusy s t.req.line = false ∧
    ((dirFind (s.homeAt t.req.line) t.req.line).isSome = true ∨ dirFull s (homeOf t.req.line) t.req.line = false)

/-- The transaction of a line waits for its Larder read (R267, R276). -/
def State.reads (s : State) (t : Tracker) : Prop := runningTracker s t.req.line = some t ∧ t.phase = .reading

/-! ### Instructions of a Newel -/

/-- The instruction at the PC of a core is `k`, of word `w`, and it is the next thing the core does: its clock and its Room
run, it waits for no answer, no breakpoint names the PC and no interrupt is due (R351, R352, R354). -/
abbrev State.atWord (s : State) (c : CoreId) (k : NOp) (w : W32) : Prop :=
  issues s c = true ∧ (filledBuf s c).head? = some w ∧ newelDecode w = some k ∧ breakHere s c = false ∧ irqDue s c = none

/-- The core's instruction retires with a change of its Newel: execution goes on at the next word, and of the fetch buffer the
first word has gone (R352). -/
def State.retires (s : State) (c : CoreId) (f : Newel → Newel) : State :=
  onCore s c fun n =>
    { f n with pc := n.pc + 4, retired := n.retired + 1, wait := .ready, skipBreak := false, fetchBuf := (filledBuf s c).drop 1 }

/-- The core's instruction retires with a change of its Newel, and execution goes on at a target with an empty fetch buffer. -/
def State.jumps (s : State) (c : CoreId) (a : W32) (f : Newel → Newel) : State :=
  onCore s c fun n => { f n with pc := a, retired := n.retired + 1, wait := .ready, skipBreak := false, fetchBuf := [] }

/-- A register of a core's current window. -/
def State.reg (s : State) (c : CoreId) (k : BitVec 5) : W32 := regGet (coreNewel s c) k

/-! ### Commands of a stream -/

/-- The A-stream of a Room is at the command word `w`, and it is the next thing the stream does: the Room's agents act, the
stream runs and waits for nothing it does not try again, the word is legal, no breakpoint matches and its predicate holds
(R365, R371, R388-R391). -/
abbrev State.atCommand (s : State) (r : RoomId) (op w : Nat) : Prop :=
  let t := (s.room r).astream.strm
  strmGoes s r .a = true ∧ t.pc % 8 = 0 ∧ t.pc + 8 ≤ 0x4000 ∧ zword t.mem t.pc 8 = w ∧ aLegal (aDecode w) = true ∧
    (aDecode w).op = op ∧ ((s.room r).astream.issued = 0 → strmHalts s r (aDecode w).tag t = false) ∧
    predOn t (aDecode w).psel (aDecode w).pneg = true

/-- The A-stream of a Room goes on with its next command. -/
def State.aNext (s : State) (r : RoomId) : State := onStrm s r .a fun t => stepStrm t (t.pc + 8)

/-- The A-stream of a Room waits with a BLOCK_REASON. -/
def State.aWaits (s : State) (r : RoomId) (why : BlockReason) : State := onStrm s r .a fun t => { t with wait := .blocked why }

/-- A data queue of a Room with its oldest entry taken. -/
def Room.popped (x : Room) (q : Fin 6) : Room :=
  { x with queues := vmod x.queues q fun d => { entries := d.entries.tail, lastPopped := (d.entries.headD (0, 0)).1 }, watchCount := 0 }

/-- A data queue of a Room with an entry added. -/
def Room.pushed (x : Room) (q : Fin 6) (v : W64) (tag : Byte) : Room :=
  { x with queues := vmod x.queues q fun d => { d with entries := d.entries ++ [(v, tag)] }, watchCount := 0 }

/-- The X-stream of a Room is at the long word `x`, which has issued nothing, and it is the next thing the stream does; the
oldest operation of each of the two units, if it holds one, has been performed (R365, R371, R388, R392). -/
abbrev State.atLong (s : State) (r : RoomId) (x : XCmd) : Prop :=
  let y := s.room r
  let t := y.xstream
  strmGoes s r .x = true ∧ t.pc % 2 = 0 ∧ t.pc + 2 ≤ 0x8000 ∧ t.pc + xWordSize t.mem t.pc ≤ 0x8000 ∧ xDecode t.mem t.pc = x ∧
    y.xIssued = false ∧ xLegal t x = true ∧ strmHalts s r x.tag t = false ∧ predOn t x.psel x.pneg = true ∧
    firstWaiting y.compute.hearth = none ∧ firstWaiting y.compute.scullery = none

/-- The X-stream of a Room goes on at an offset. -/
def State.xNext (s : State) (r : RoomId) (pc : Nat) : State := onStrm s r .x fun t => stepStrm t pc

/-! ### Packets of the Stairwell -/

/-- A received packet is a GRANT (1) or CREDIT (2) that its wing takes now (R488, R495, R499). -/
def State.grantDue (s : State) (kind : Nat) (x : RxPacket) : Bool :=
  x.pkt.typ == .chunk && chunkKind x.pkt == kind && !stairHolds s x.pkt.wing

/-- A received packet is a DATA chunk that can be dealt with now (R486, R495). -/
def State.dataDue (s : State) (x : RxPacket) : Bool := x.pkt.typ == .chunk && chunkKind x.pkt == 0 && chunkReady s x

/-- A received packet is a COLL_ABORT that its wing takes now (R493, R495). -/
def State.abortDue (s : State) (x : RxPacket) : Bool := x.pkt.typ == .collAbort && !stairHolds s (abortOf x.pkt).wing

/-- A context with chunks left to send and no handle held does not complete now (R491). -/
def State.unfinished (s : State) (i : Fin 8) : Prop := (s.stair.ctxs.get i).handles = [] ∧ 2 ≤ (s.stair.ctxs.get i).sendLeft

/-! ### The Porch -/

/-- The request that arrived first at the Porch is wing `w`'s, of TYPE `typ`, well formed, from wing 0 or a wing that exists, and not
being cleared (R510, R530). -/
abbrev State.porchAsks (s : State) (w : WingId) (typ : Nat) : Prop :=
  s.porch.arrivals.head? = some w ∧ fieldAt (porchRequest s w) 0 1 = typ ∧ (typ = 1 ∨ requestOk (porchRequest s w) = true) ∧
    ((s.wing w).st.exists_ = true ∨ w = 0) ∧ (s.wing w).st ≠ .clearing

/-- The first request of the Porch's list of streams and lists is the engine's: it is there, or comes next (R520). -/
abbrev State.engineNext (s : State) (e : EngineBy) : Prop :=
  s.porch.running = some e ∨ (s.porch.running = none ∧ s.porch.queue.head? = some e)

/-- The engine with its next list on it. -/
def State.engineHolds (s : State) (e : EngineBy) : State :=
  if s.porch.running = none then s.onPorch fun p => { p with running := some e, queue := p.queue.tail } else s

/-- The engine's next command is the native command `c` of stream `k`, which lies in pages that the wing holds (R520). -/
abbrev State.engineAt (s : State) (k : Fin 16) (c : NCmd) : Prop :=
  let x := s.porch.streams.get k
  s.engineNext (.stream k) ∧ x.st = .running ∧ x.listOn = true ∧ x.issued = false ∧ holdsPages s x.owner x.pc 32 = true ∧
    NCmd.of (zread s.porch.sram x.pc 32) = c

/-- The engine's next command is the Parlour's command `f`, which is no command fault and lies in the window (R524, R528). -/
abbrev State.parlourAt (s : State) (f : ParFetch) : Prop :=
  let p := s.porch.parlour
  s.engineNext .parlour ∧ p.issued = false ∧ p.st = .running ∧ p.cur = f ∧ f.at_ % 2 = 0 ∧ 0 < parWords f.op ∧
    2 * parWords f.op ≤ f.bytes.length ∧ parFieldsOk p f = true

end Sys2Proof.Machine
end

