-- ==== Sys2Proof/Certificates/Slice0/Obligations.lean ====
section
/-!
DEFINITION. Certificates/Slice0/Obligations.lean: the statements about the device, each a Prop for the provers. Words such as
`State.barReady` or `State.atWord` are defined in Safety.lean.
-/
open Sys2Proof Sys2Proof.Machine

/-- For the request in turn, a sealed write is refused by the Threshold, waits for its counter in
NOR, is refused by a later check of R101, or takes effect: a create makes the record's wing
POPULATE with all its resources, a destroy takes the wing to CLEARING or, while it is FREEZING, is
kept for the end of the stopping; HOUSE_FLOOR takes its value; a debug unlock adds its wing and
scope; an alarm reset leaves LOCKED for NORMAL and clears the failure history; a commit makes the
image VERIFYING and an erase makes it ERASING, or EMPTY where no block is its own. (R44, R40, R46,
R64, R65, R66, R69, R78, R85, R101, R223, R224) -/
def Obligations.SealedWritesThatActAtOnce : Prop :=
  (∀ (s : State) (r : Request), s.inTurn r → r.write = true → rowOf r = .create →
    ∃ t, exec .wingCreate s = .next t ∧ SealedWrite s r t fun _ _ =>
      ∀ w, idx 16 (parseCreate r.value).wing = some w → t.wing w = { createdWing (parseCreate r.value) with st := .populate }) ∧
  (∀ (s : State) (r : Request), s.inTurn r → r.write = true → rowOf r = .destroy →
    ∃ t, exec .wingDestroy s = .next t ∧ SealedWrite s r t fun s2 _ => ∀ w, idx 16 (leNat r.value) = some w →
      if (s2.wing w).st = .freezing then (t.wing w).destroyPending = true ∧ (t.wing w).st = .freezing
      else (t.wing w).st = .clearing) ∧
  (∀ (s : State) (r : Request), s.inTurn r → r.write = true → rowOf r = .houseFloor →
    ∃ t, exec .houseFloorWrite s = .next t ∧ SealedWrite s r t fun _ _ =>
      t.wingTop.houseFloor = BitVec.ofNat 16 (leNat r.value)) ∧
  (∀ (s : State) (r : Request), s.inTurn r → r.write = true → rowOf r = .debugUnlock →
    ∃ t, exec .debugUnlock s = .next t ∧ SealedWrite s r t fun s2 _ =>
      t.thr.debugWings = s2.thr.debugWings ||| (1 <<< (leNat r.value / 65536 % 16) : W16) ∧
      t.thr.debugScope = s2.thr.debugScope ||| BitVec.ofNat 4 (leNat r.value)) ∧
  (∀ (s : State) (r : Request), s.inTurn r → r.write = true → rowOf r = .alarmReset →
    ∃ t, exec .alarmReset s = .next t ∧ SealedWrite s r t fun s2 _ =>
      t.thr.st = (if s2.thr.st = .locked then .normal else s2.thr.st) ∧ t.thr.failTimes = []) ∧
  (∀ (s : State) (r : Request), s.inTurn r → r.write = true → rowOf r = .imageCommit →
    ∃ t, exec .imageCommitEntry s = .next t ∧ SealedWrite s r t fun s2 o =>
      (t.image (wingOf o) (imageOf (leNat r.value))).st = .verifying) ∧
  (∀ (s : State) (r : Request), s.inTurn r → r.write = true → rowOf r = .imageErase →
    ∃ t, exec .imageEraseEntry s = .next t ∧ SealedWrite s r t fun s2 o =>
      (t.image (wingOf o) (imageOf (leNat r.value))).st =
        (if hasBlocks s2 (wingOf o) (imageOf (leNat r.value)) = true then .erasing else .empty))

/-- For the request in turn, a sealed write of a key install or removal, of DEVICE_CAP,
SOCKET_BUDGET or LEVEL_MAP, or of a firmware image, where it passes every check, starts its NOR
write and is answered only after it; a firmware image's slot record is erased first and the running
slot is not the one written. (R71, R72, R76, R80, R97, R98, R135, R139, R581) -/
def Obligations.SealedWritesKeptInNor : Prop :=
  (∀ (s : State) (r : Request) (c : Instr) (row : WriteRow), s.inTurn r → r.write = true → rowOf r = row →
    (c, row) ∈ [(Instr.keyInstall, WriteRow.keyInstall), (.keyRemove, .keyRemove)] →
    ∃ t, exec c s = .next t ∧ SealedWrite s r t fun _ _ => t.mgmt.norPending = some ⟨r, .keyFile, true⟩) ∧
  (∀ (s : State) (r : Request) (c : Instr) (row : WriteRow), s.inTurn r → r.write = true → rowOf r = row →
    (c, row) ∈ [(Instr.deviceCapWrite, WriteRow.deviceCap), (.socketBudgetWrite, .socketBudget), (.levelMap, .levelMap)] →
    ∃ t, exec c s = .next t ∧ SealedWrite s r t fun _ _ => t.mgmt.norPending = some ⟨r, .entry, true⟩) ∧
  (∀ (s : State) (r : Request), s.inTurn r → r.write = true → rowOf r = .fwImage →
    ∃ t, exec .fwImage s = .next t ∧ SealedWrite s r t fun s2 _ =>
      t.mgmt.norPending = some ⟨r, .firmware (otherSlot s2), true⟩ ∧
      (t.sys.fwSlots.get (otherSlot s2)).recordOk = false ∧ s2.sys.runningSlot ≠ some (otherSlot s2))

/-- A provisioning record in turn that passes R73 starts its NOR write and one that does not is
answered with its condition; DISTURB_LIMIT in range starts one too. When both copies are written: a
persistent entry holds its value (LEVEL_MAP its twelve bits), a key install fills its slot with the
unwrapped key, a removal empties its slot and counter, a provisioning record makes the state NORMAL
with slots 32 and 48 filled, and a counter is persisted at the value that was consumed. When a
firmware image is written and read back its slot's record becomes valid with the next SLOT_SEQ.
(R69, R71, R72, R73, R76, R97, R98, R140, R581) -/
def Obligations.NorWritesTakeEffect : Prop :=
  (∀ (s : State) (r : Request), s.inTurn r → r.write = true → rowOf r = .provision →
    ∃ t, exec .provision s = .next t ∧
      if provisionCheck s.taken r.who r.value = 0 then t.mgmt.norPending = some ⟨r, .provision, true⟩
      else t = answerDone s.taken r (provisionCheck s.taken r.who r.value)) ∧
  (∀ (s : State) (r : Request), s.inTurn r → r.write = true → rowOf r = .disturbLimit →
    100000000 ≤ leNat r.value → leNat r.value ≤ 1900000000 →
    ∃ t, exec .disturbLimitWrite s = .next t ∧ t.mgmt.norPending = some ⟨r, .entry, false⟩) ∧
  (∀ (s : State) (r : Request) (k : Bool), s.mgmt.norPending = some ⟨r, .entry, k⟩ →
    ∃ t, exec .norWriteDone s = .next t ∧ t.mgmt.norPending = none ∧
      (rowOf r = .deviceCap → t.fuse.deviceCap = BitVec.ofNat 16 (leNat r.value)) ∧
      (rowOf r = .socketBudget → t.fuse.socketBudget = BitVec.ofNat 16 (leNat r.value)) ∧
      (rowOf r = .levelMap → t.thr.levelMap = BitVec.ofNat 16 (leNat r.value % 4096)) ∧
      (rowOf r = .disturbLimit → t.cellar.disturbLimit = BitVec.ofNat 32 (leNat r.value))) ∧
  (∀ (s : State) (r : Request) (k : Bool), s.mgmt.norPending = some ⟨r, .keyFile, k⟩ →
    ∃ t, exec .norWriteDone s = .next t ∧ t.mgmt.norPending = none ∧
      (rowOf r = .keyInstall → ∀ (key : BitVec 512) (n : Fin 64), unwrapKey s r.value = some key →
        n.1 = fieldAt r.value 0 1 % 64 → t.thr.slots.get n = some key) ∧
      (rowOf r = .keyRemove → ∀ (n : Fin 64) (i : Fin 16), n.1 = leNat r.value % 64 → i.1 = leNat r.value % 16 →
        t.thr.slots.get n = none ∧ t.thr.ca.get i = CaKey.empty)) ∧
  (∀ (s : State) (r : Request) (k : Bool), s.mgmt.norPending = some ⟨r, .provision, k⟩ → rowOf r = .provision →
    ∃ t, exec .norWriteDone s = .next t ∧ t.mgmt.norPending = none ∧ t.thr.st = .normal ∧
      t.thr.slots.get 32 = some (BitVec.ofNat 512 (fieldAt r.value 16 32)) ∧
      t.thr.slots.get 48 = some (BitVec.ofNat 512 (fieldAt r.value 48 32))) ∧
  (∀ (s : State) (r : Request) (i : Fin 16) (v : W32) (k : Bool), s.mgmt.norPending = some ⟨r, .counter i v, k⟩ →
    (requestEntry r).isSome = true → ∃ t, exec .norWriteDone s = .next t ∧ (t.thr.ca.get i).persisted = v) ∧
  (∀ (s : State) (r : Request) (i : Fin 2) (k : Bool), s.mgmt.norPending = some ⟨r, .firmware i, k⟩ →
    ∃ t, exec .fwNorUpdateDone s = .next t ∧ t.mgmt.norPending = none ∧ (t.sys.fwSlots.get i).recordOk = true ∧
      (t.sys.fwSlots.get i).image = r.value ∧ (t.sys.fwSlots.get i).seq =
        (match s.sys.runningSlot with | some j => (s.sys.fwSlots.get j).seq + 1 | none => 1))

/-- For the request in turn and a wing 1 to 15: RUN takes a POPULATE wing that holds both keys to
RUN; FREEZE takes a RUN wing to FREEZING by the host and freezes each running Room of its mask;
THAW takes a wing frozen by the host to RUN, clears FROZEN_BY and gives each frozen Room of its
mask the state it had. A FREEZING wing whose agents have stopped becomes FROZEN, or CLEARING after
a destroy. A CLEARING wing whose keys are gone and whose lines are zeroed becomes FREE with every
value at its default but ABORTED_JOBS, and its ring page at reset. (R39, R40, R42, R43) -/
def Obligations.LifecycleOfWings : Prop :=
  (∀ (s : State) (r : Request) (w : WingId), s.inTurn r → r.write = true → rowOf r = .run →
    objectOf r.obj = some (.wing0 w) → w ≠ 0 → (s.wing w).st = .populate → keyFilled s (larderSlot w) = true →
    keyFilled s (cellarSlot w) = true → ∃ t, exec .controlRun s = .next t ∧ (t.wing w).st = .run) ∧
  (∀ (s : State) (r : Request) (w : WingId), s.inTurn r → r.write = true → rowOf r = .freeze →
    objectOf r.obj = some (.wing0 w) → w ≠ 0 → (s.wing w).st = .run →
    ∃ t, exec .controlFreeze s = .next t ∧ (t.wing w).st = .freezing ∧ (t.wing w).frozenBy = .host ∧
      ∀ q : RoomId, (s.wing w).roomMask.getLsbD q.1 = true → (s.room q).st = .running →
        (t.room q).st = .frozen ∧ (t.room q).stBefore = .running) ∧
  (∀ (s : State) (r : Request) (w : WingId), s.inTurn r → r.write = true → rowOf r = .thaw →
    objectOf r.obj = some (.wing0 w) → w ≠ 0 → (s.wing w).st = .frozen → (s.wing w).frozenBy = .host →
    ∃ t, exec .controlThaw s = .next t ∧ (t.wing w).st = .run ∧ (t.wing w).frozenBy = .none ∧
      ∀ q : RoomId, (s.wing w).roomMask.getLsbD q.1 = true → (s.room q).st = .frozen →
        (t.room q).st = (s.room q).stBefore) ∧
  (∀ (s : State) (w : WingId), (s.wing w).st = .freezing → wingStopped s w = true →
    ∃ t, exec (.wingFrozen w) s = .next t ∧
      (t.wing w).st = (if (s.wing w).destroyPending = true then .clearing else .frozen)) ∧
  (∀ (s : State) (w : WingId), (s.wing w).st = .clearing → (s.wing w).keysGone = true → (s.wing w).clearLines = 0 →
    ∃ t, exec (.clearingZeroingDone w) s = .next t ∧
      t.wing w = { Wing.free with abortedJobs := (s.wing w).abortedJobs } ∧
      (t.ring w) = Ring.init)

/-- A read in turn is answered with the entry's value and nothing else changes but the queues of
requests and answers. A write in turn of an entry with no row of its own and no seal, whose value
is in range, sets the entry, counts reserved bits that it would set, and is answered with success,
or starts its NOR write when the entry is persistent; one out of range is answered with its abort.
A debug lock ends every unlock. The oldest answer is sent: its transaction closes, a mailbox shows
its first segment, and the queue moves on. (R78, R96, R98, R99, R101, R102, R103) -/
def Obligations.DictionaryRequests : Prop :=
  (∀ (s : State) (r : Request) (o : ObjId) (e : Entry), s.inTurn r → r.write = false → requestEntry r = some (o, e) →
    ∃ a, exec .mladyxRead s = .next (s.taken.onMgmt fun m => { m with answers := m.answers ++ [a] }) ∧
      a.req = r ∧ a.abort = 0 ∧ a.value = entryBytes s.taken o r.mem.toNat e) ∧
  (∀ (s : State) (r : Request) (o : ObjId) (e : Entry), s.inTurn r → r.write = true → rowOf r = .other →
    requestEntry r = some (o, e) → e.acc ≠ .rwa →
    ∃ t, exec .mladyxWrite s = .next t ∧
      if rangeCheck o r.mem.toNat r.value ≠ 0 then t = answerDone s.taken r (rangeCheck o r.mem.toNat r.value)
      else if e.pers = true then t.mgmt.norPending = some ⟨r, .entry, false⟩
      else t = answerDone (setEntry (countReservedPart s.taken r o) o r.mem.toNat (leNat r.value)) r 0) ∧
  (∀ (s : State) (r : Request), s.inTurn r → r.write = true → rowOf r = .debugLock → leNat r.value = 1 →
    ∃ t, exec .debugLock s = .next t ∧ t.thr.debugWings = 0 ∧ t.thr.debugScope = 0) ∧
  (∀ (s : State) (a : Answer) (rest : List Answer) (w : WingId) (k : Fin 4), s.mgmt.answers = a :: rest →
    a.req.who = .mailbox w k → serverUp s = true →
    ∃ t, exec .mladyxAnswerSent s = .next t ∧ t.mgmt.answers = rest ∧ (t.mbxSlot w k).ready = true ∧
      (t.mbxSlot w k).ansBuf = a.stream.take 1008 ∧ (t.mbxSlot w k).ansSeg = 0 ∧
      (t.mbxSlot w k).more = decide (1008 < a.stream.length)) ∧
  (∀ (s : State) (a : Answer) (rest : List Answer) (n : BitVec 12), s.mgmt.answers = a :: rest →
    a.req.who = .can n → serverUp s = true → s.mgmt.canSt ≠ .busOff →
    ∃ t, exec .mladyxAnswerSent s = .next t ∧ t.mgmt.answers = rest ∧ s.out <+: t.out ∧
      (s.mgmt.canEnable = true → t.out.length = s.out.length + (segments 64 (a.stream.length / 64 + 1) a.stream).length) ∧
      (a.closes = true → ∀ x ∈ t.mgmt.txns, ¬ (x.who = .can n ∧ x.seq = a.req.seq)))

/-- With POR released, a condition source not yet asserted sets its asserted bit and its event bit;
below level 2 the Threshold's state stays; at level 2 NORMAL becomes LOCKED, held by the source,
and every debug unlock ends; at level 3 NORMAL and LOCKED become ERASING, every key slot is emptied
and the Larder refuses every access. A source asserted already does nothing. A source that clears
loses its asserted bit and nothing else. An available TAP instruction is selected; another one sets
the event bit of source 5. While an erase runs: programming ERASE_EPOCH raises the fuse by one up
to 32; then the key file and the CA counters of both NOR copies are erased; the scrub leaves the
Larder and every Pantry without bytes and fills slot 16 again; the Porch's SRAM is zeroed. The step
that is the last one left ends ERASING in RETIRED with 32 epochs used and in UNPROVISIONED
otherwise. (R57, R77, R79, R81, R82, R83) -/
def Obligations.AlarmsAndErases : Prop :=
  (
    (∀ (s : State) (c : Instr) (src : Fin 4), (c, src) ∈ [(Instr.supplyAlarm, (0 : Fin 4)), (.clockAlarm, 1), (.tempAlarm, 2),
        (.lidAlarm, 3)] → powered s = true → s.thr.asserted.getLsbD src.1 = false →
      ∃ t, exec c s = .next t ∧ t.thr.asserted = s.thr.asserted ||| (1 <<< src.1) ∧
        t.thr.events = s.thr.events ||| (1 <<< src.1) ∧
        (alarmLevel s.thr src.1 < 2 → t.thr.st = s.thr.st ∧ t.thr.slots = s.thr.slots) ∧
        (alarmLevel s.thr src.1 = 2 → s.thr.st = .normal →
          t.thr.st = .locked ∧ t.thr.lockSource = BitVec.ofNat 8 src.1 ∧ t.thr.debugWings = 0 ∧ t.thr.debugScope = 0) ∧
        (alarmLevel s.thr src.1 = 3 → s.thr.st = .normal ∨ s.thr.st = .locked →
          t.thr.st = .erasing ∧ t.thr.erase = some ⟨true, true, true, true⟩ ∧ (∀ n : Fin 64, t.thr.slots.get n = none) ∧
          t.larder.refuseAll = true)) ∧
    (∀ (s : State) (c : Instr) (src : Fin 4), (c, src) ∈ [(Instr.supplyAlarm, (0 : Fin 4)), (.clockAlarm, 1), (.tempAlarm, 2),
        (.lidAlarm, 3)] → s.thr.asserted.getLsbD src.1 = true → exec c s = .next s) ∧
    (∀ (s : State) (src : Fin 4), exec (.alarmSourceCleared src) s =
      .next (s.onThr fun t => { t with asserted := t.asserted &&& ~~~((1 : Byte) <<< src.1) })) ∧
    (∀ (s : State) (i : TapInstr), powered s = true →
      (tapAvailable s i = true → exec (.tapInstruction i) s = .next (s.onThr fun t => { t with tap := i })) ∧
      (tapAvailable s i = false → ∃ t, exec (.tapInstruction i) s = .next t ∧ t.thr.events = s.thr.events ||| (1 <<< 5)))) ∧
  (
    (∀ (s : State) (e : EraseSteps), s.thr.erase = some e → e.epochLeft = true →
      ∃ t, exec .eraseEpochProgrammed s = .next t ∧ t.thr.fuses.eraseEpoch.1 = min (s.thr.fuses.eraseEpoch.1 + 1) 32 ∧
        ((e.keyFileLeft || e.scrubLeft || e.porchLeft) = true → t.thr.erase = some { e with epochLeft := false } ∧ t.thr.st = s.thr.st)) ∧
    (∀ (s : State) (e : EraseSteps), s.thr.erase = some e → e.keyFileLeft = true → e.epochLeft = false →
      ∃ t, exec .keyFileErased s = .next t ∧ (∀ i : Fin 16, t.thr.ca.get i = CaKey.empty) ∧
        (∀ i : Fin 2, (t.mgmt.nor.get i).content.slots = Vector.replicate 64 none ∧
          (t.mgmt.nor.get i).content.ca = Vector.replicate 16 CaKey.empty) ∧
        ((e.scrubLeft || e.porchLeft) = true → t.thr.erase = some { e with keyFileLeft := false } ∧ t.thr.st = s.thr.st)) ∧
    (∀ (s : State) (e : EraseSteps), s.thr.erase = some e → e.scrubLeft = true →
      ∃ t, exec .eraseScrubDone s = .next t ∧ t.larder.mem = [] ∧ t.larder.poison = [] ∧
        (∀ r, (t.room r).pantry = [] ∧ (t.room r).full = []) ∧ t.thr.slots.get 16 = some (Config.random512 s.free) ∧
        ((e.epochLeft || e.keyFileLeft || e.porchLeft) = true → t.thr.erase = some { e with scrubLeft := false } ∧ t.thr.st = s.thr.st)) ∧
    (∀ (s : State) (e : EraseSteps), s.thr.erase = some e → e.porchLeft = true →
      ∃ t, exec .porchSramZeroed s = .next t ∧ t.porch.sram = [] ∧
        ((e.epochLeft || e.keyFileLeft || e.scrubLeft) = true → t.thr.erase = some { e with porchLeft := false } ∧ t.thr.st = s.thr.st)) ∧
    (∀ (s : State) (c : Instr) (e : EraseSteps),
      (c, e) ∈ [(Instr.eraseEpochProgrammed, (⟨true, false, false, false⟩ : EraseSteps)), (.keyFileErased, ⟨false, true, false, false⟩),
        (.eraseScrubDone, ⟨false, false, true, false⟩), (.porchSramZeroed, ⟨false, false, false, true⟩)] →
      s.thr.erase = some e → s.thr.st = .erasing →
      ∃ t, exec c s = .next t ∧ t.thr.erase = none ∧
        t.thr.st = if t.thr.fuses.eraseEpoch.1 = 32 then .retired else .unprovisioned))

/-- With the server running: a CAN FD frame with an extended identifier of class 1, segment 0,
addressed to this node and at least 12 bytes long, or a GO of a mailbox slot that is not open,
whose header passes checks 1 to 8 of R101 and whose bytes complete the request, opens its
transaction and puts the request behind those waiting, after the answers already queued; a header
that fails a check is answered with its condition and counted and opens nothing, but a mailbox slot
stays OPEN until its refusal is shown. A frame with a standard identifier or another length is
ignored and counted; a GO of a slot that wants no segment, or with a length of 0 or above 1024, is
counted and has no effect. A stream still incomplete at its segment timeout is answered with 0x0309
and its later segments are discarded, counted in TIMEOUTS. CANCEL of a slot whose request is not
yet handled is answered with 0x030D and takes the request out of the queue. NEXT of a slot that
shows a segment with MORE shows the next 1008 bytes with the next segment number and a new
generation. With the CAN controller able to send, the queued alerts go out and the queue empties.
From bus-off the controller becomes error active with its counters at 0. (R99, R100, R101, R102,
R104, R108, R109, R114, R117, R118) -/
def Obligations.ManagementTransactions : Prop :=
  (
    (∀ (s : State) (f : CanFrame), serverUp s = true → s.mgmt.canEnable = true → s.mgmt.canSt ≠ .busOff →
      f.fdExtended = true → f.payload.length ∈ canLengths → f.id.toNat / 2 ^ 22 % 16 = 1 → f.id.toNat % 16 = 0 →
      12 ≤ f.payload.length → (parseHeader f.payload).target = s.fabric.devAddr.toNat →
      let who := Requester.can (BitVec.ofNat 12 (f.id.toNat / 1024))
      let seq := BitVec.ofNat 6 (f.id.toNat / 16)
      let pri := BitVec.ofNat 3 (f.id.toNat / 2 ^ 26)
      let h := parseHeader f.payload
      let c := headChecks s who seq pri (h.clean && (h.op == 1 || h.op == 2)) (h.op == 2) h.act h.obj h.mem h.length
      ∃ t, exec (.canFrame f) s = .next t ∧
        (c ≠ 0 → t.mgmt.txns = s.mgmt.txns ∧ t.mgmt.ready = s.mgmt.ready ∧
          t.mgmt.answers = s.mgmt.answers ++ [⟨h.request who seq pri false, c, [], false, false⟩] ∧
          t.mgmt.refusedCount = satAdd s.mgmt.refusedCount 1) ∧
        (c = 0 → streamNeed h ≤ f.payload.length → streamCrcOk f.payload = true →
          t.mgmt.ready = s.mgmt.ready ++ [(parseRequest who seq pri false f.payload, s.mgmt.answers.length)] ∧
          (∃ x ∈ t.mgmt.txns, x.who = who ∧ x.seq = seq ∧ x.complete = true) ∧ t.mgmt.answers = s.mgmt.answers)) ∧
    (∀ (s : State) (f : CanFrame), serverUp s = true → s.mgmt.canEnable = true → s.mgmt.canSt ≠ .busOff →
      f.fdExtended = false ∨ f.payload.length ∉ canLengths →
      exec (.canFrame f) s = .next (s.onMgmt fun m => { m with framesIgnored := satAdd m.framesIgnored 1 })) ∧
    (∀ (s : State) (w : WingId) (k : Fin 4) (len : Nat) (irq : Bool), s.mbxReady → mbxOpen s w k = false → 12 ≤ len →
      len ≤ 1024 → let part := bytesAt ((s.mbxSlot w k).reqBuf ++ List.replicate 1024 0) 0 len
      let who := Requester.mailbox w k
      let h := parseHeader part
      let c := headChecks s who 0 0 (h.clean && (h.op == 1 || h.op == 2)) (h.op == 2) h.act h.obj h.mem h.length
      ∃ t, exec (.mbxGo w k 0 len true irq) s = .next t ∧
        (c ≠ 0 → t.mgmt.txns = s.mgmt.txns ++ [⟨who, 0, 0, irq, 1, [], false, true⟩] ∧ t.mgmt.ready = s.mgmt.ready ∧
          t.mgmt.answers = s.mgmt.answers ++ [⟨h.request who 0 0 irq, c, [], false, true⟩]) ∧
        (c = 0 → streamNeed h ≤ len → streamCrcOk part = true →
          t.mgmt.ready = s.mgmt.ready ++ [(parseRequest who 0 0 irq part, s.mgmt.answers.length)] ∧
          mbxOpen t w k = true ∧ (t.mbxSlot w k).ready = false)) ∧
    (∀ (s : State) (w : WingId) (k : Fin 4) (seg : BitVec 4) (len : Nat) (last irq : Bool), s.mbxReady →
      mbxWanted s w k = false ∨ len = 0 ∨ 1024 < len →
      exec (.mbxGo w k seg len last irq) s = .next (s.onMgmt fun m => { m with mbxIgnored := satAdd m.mbxIgnored 1 }))) ∧
  (
    (∀ (s : State) (who : Requester) (seq : BitVec 6) (x : Txn),
      (s.mgmt.txns.find? fun t => t.who == who && t.seq == seq && !t.complete && !t.refused) = some x →
      ∃ t, exec (.segTimeout who seq) s = .next t ∧ t.mgmt.timeouts = satAdd s.mgmt.timeouts 1 ∧
        t.mgmt.answers = s.mgmt.answers ++ [⟨parseRequest who seq x.pri x.irq x.bytes, 0x0309, [], false, true⟩] ∧
        ∀ y ∈ t.mgmt.txns, y.who = who → y.seq = seq → y.refused = true) ∧
    (∀ (s : State) (w : WingId) (k : Fin 4) (x : Txn), s.mbxReady → s.mgmt.norPending = none → s.mgmt.answers = [] →
      (s.mgmt.txns.find? fun t => t.who == .mailbox w k && !t.refused) = some x →
      x.complete = false ∨ s.mgmt.ready.any (fun r => r.1.who == .mailbox w k) = true →
      ∃ t, exec (.mbxCancel w k) s = .next t ∧
        t.mgmt.answers = [⟨parseRequest (.mailbox w k) 0 0 x.irq x.bytes, 0x030D, [], false, true⟩] ∧
        ∀ r ∈ t.mgmt.ready, r.1.who ≠ .mailbox w k) ∧
    (∀ (s : State) (w : WingId) (k : Fin 4), s.mbxReady → (s.mbxSlot w k).ready = true → (s.mbxSlot w k).more = true →
      ∃ t, exec (.mbxNext w k) s = .next t ∧ (t.mbxSlot w k).ansBuf = (s.mbxSlot w k).ansRest.take 1008 ∧
        (t.mbxSlot w k).ansSeg = (s.mbxSlot w k).ansSeg + 1 ∧ (t.mbxSlot w k).gen = (s.mbxSlot w k).gen + 1 ∧
        (t.mbxSlot w k).more = decide (1008 < (s.mbxSlot w k).ansRest.length) ∧ (t.mbxSlot w k).ready = true) ∧
    (∀ (s : State), canUp s = true → ∃ t, exec .alertQueueSend s = .next t ∧ t.mgmt.alertQueue = [] ∧
      t.out.length = s.out.length + s.mgmt.alertQueue.length) ∧
    (∀ (s : State), s.mgmt.canSt = .busOff → ∃ t, exec .canBusOffRecovery s = .next t ∧ t.mgmt.canSt = .errorActive ∧
      t.mgmt.tec = 0 ∧ t.mgmt.recCount = 0))

/-- Outside reset and once retry has ended, a configuration read of function 0 returns Vendor ID
0x1F7C, the Device ID of the part, Revision ID 0xB0, class code 0x120000 and Interrupt Pin 0; a
write of a BAR or of Device Control takes effect on that item alone; another function, I/O and
AtomicOps are Unsupported Requests; before the end of retry the answer is retry status. A Function
Level Reset leaves the configuration items at reset and every ring's EN at 0, and touches no wing,
Room, Cellar or key; with no job and no mailbox transaction open it resets the MSI-X table and the
Hatches too and changes nothing outside the host interface. The end of a vector's hold-off sends
the pending message once, and with none pending only ends the interval. (R147, R148, R151, R152,
R169) -/
def Obligations.HostFunctionAndItsReset : Prop :=
  (
    (∀ s : State, s.sys.inReset = false → cfgRetry s = false →
      exec (.configRequest (.read 0 .vendorId)) s = .next (s.send (.cfgData 0x1F7C)) ∧
      exec (.configRequest (.read 0 .deviceId)) s = .next (s.send (.cfgData (if s.sys.part064 then 0x4F06 else 0x4F28))) ∧
      exec (.configRequest (.read 0 .revisionId)) s = .next (s.send (.cfgData 0xB0)) ∧
      exec (.configRequest (.read 0 .classCode)) s = .next (s.send (.cfgData 0x120000)) ∧
      exec (.configRequest (.read 0 .interruptPin)) s = .next (s.send (.cfgData 0))) ∧
    (∀ (s : State) (v : BitVec 64), s.sys.inReset = false → cfgRetry s = false →
      exec (.configRequest (.write 0 (.bar0 v))) s =
        .next { s with host := { s.host with cfg := { s.host.cfg with bar0 := v } } } ∧
      exec (.configRequest (.write 0 (.bar2 v))) s =
        .next { s with host := { s.host with cfg := { s.host.cfg with bar2 := v } } }) ∧
    (∀ (s : State) (r : Bool) (p q : Nat), s.sys.inReset = false → cfgRetry s = false →
      exec (.configRequest (.write 0 (.deviceControl r p q))) s =
        .next { s with host := { s.host with cfg :=
          { s.host.cfg with enableRelaxed := r, maxPayload := min p 512, maxReadReq := min q 4096 } } }) ∧
    (∀ (s : State) (fn : Nat) (r : CfgReg) (w : CfgWrite), s.sys.inReset = false → cfgRetry s = false → fn ≠ 0 →
      exec (.configRequest (.read fn r)) s = .next (s.send .unsupported) ∧
      exec (.configRequest (.write fn w)) s = .next (s.send .unsupported)) ∧
    (∀ s : State, s.sys.inReset = false →
      exec (.configRequest .io) s = .next (s.send .unsupported) ∧
      exec (.configRequest .atomicOp) s = .next (s.send .unsupported)) ∧
    (∀ (s : State) (fn : Nat) (r : CfgReg), s.sys.inReset = false → cfgRetry s = true →
      exec (.configRequest (.read fn r)) s = .next (s.send .cfgRetry))) ∧
  (
    (∀ s : State, ∃ t, exec .functionLevelReset s = .next t ∧ t.host.cfg = PcieCfg.init ∧ (∀ w, (t.ring w).en = false) ∧
      t.wings = s.wings ∧ t.rooms = s.rooms ∧ t.cellar = s.cellar ∧ t.thr = s.thr) ∧
    (∀ s : State, s.host.jobs = [] → s.mgmt.txns = [] → ∃ t, exec .functionLevelReset s = .next t ∧
      t = { s with host := t.host } ∧ t.host.cfg = PcieCfg.init ∧ (∀ v, t.host.msix.get v = MsixVec.init) ∧
      (∀ w, (t.ring w).en = false ∧ (t.hatch w).lines = [] ∧ (t.hatch w).copy = none ∧ (t.hatch w).addr = 0 ∧
        (t.hatch w).win = 0 ∧ (t.hatch w).winEn = false)) ∧
    (∀ (s : State) (v : Fin 32), (s.host.msix.get v).pending = false → ∃ t, exec (.msixHoldoffExpiry v) s = .next t ∧
      t = { s with host := t.host } ∧ (t.host.msix.get v).holding = false ∧ (t.host.msix.get v).pending = false) ∧
    (∀ (s : State) (v : Fin 32), (s.host.msix.get v).pending = true → (s.host.msix.get v).masked = false →
      s.host.cfg.busMaster = true → s.host.cfg.d3hot = false → s.host.cfg.msixEnable = true →
      s.host.cfg.msixFuncMask = false → ∃ t, exec (.msixHoldoffExpiry v) s = .next t ∧ t.out = s.out ++ [.msix v] ∧
        (t.host.msix.get v).pending = false))

/-- A write of 1 to EN of a ring that is off and meets every condition of R158 sets EN with all
four indices 0, PHASE 1 and no written record unreleased, and changes nothing else; one that meets
them not leaves the ring off and raises 0x0405; when the completion slots hold zeros ACTIVE becomes
1; a write of 0 clears EN and ACTIVE and keeps the indices. With S the ring size: a doorbell value
below S whose pending count plus added count is at most S - 1 becomes SQ_TAIL and nothing else
changes; a value of S or more raises 0x0401, and one that would overfill raises 0x0402; while EN is
0 or the wing is FREE or CLEARING it is ignored. A completion head below S that moves past no
unwritten record is taken and releases the slots; any other raises 0x0401. With the ring enabled
and ACTIVE, the wing dispatching, head and tail apart and the Larder open, the 64 bytes at SQ_HEAD
are copied (none when a line is poisoned), the head moves on by one modulo the ring size, and the
ring's other indices stay; with a slot to spare and no check failing, an unsealed descriptor in
range reserves its slot, which raises INFLIGHT by one and leaves it held. (R151, R158, R159, R160,
R162, R164, R267) -/
def Obligations.RingsAndDispatch : Prop :=
  (
    (∀ (s : State) (w : WingId), s.barReady 2 → s.sys.larderFailed = false → (s.ring w).en = false → ringOk s w = true →
      exec (.ringEnable w) s = .next (s.onRing w fun r =>
        { r with en := true, active := false, sqHead := 0, sqTail := 0, cqHead := 0, cqTail := 0, phase := true,
                 unreleased := 0 })) ∧
    (∀ (s : State) (w : WingId), s.barReady 2 → s.sys.larderFailed = false → (s.ring w).en = false → ringOk s w = false →
      exec (.ringEnable w) s = .next (ringCond s w 0x0405)) ∧
    (∀ (s : State) (w : WingId), (s.ring w).en = true → (s.ring w).active = false →
      ∃ t, exec (.ringEnableDone w) s = .next t ∧ (t.ring w).active = true) ∧
    (∀ (s : State) (w : WingId), s.barReady 2 →
      exec (.ringDisable w) s = .next (s.onRing w fun r => { r with en := false, active := false }))) ∧
  (
    (∀ (s : State) (w : WingId) (v : BitVec 12), s.barReady 2 → (s.ring w).en = true → (s.wing w).st ≠ .free →
      (s.wing w).st ≠ .clearing →
      let n := 2 ^ (s.ring w).sqSize.toNat
      let pend := ((s.ring w).sqTail.toNat + n - (s.ring w).sqHead.toNat) % n
      let added := (v.toNat + n - (s.ring w).sqTail.toNat) % n
      (n ≤ v.toNat → exec (.sqDoorbell w v) s = .next (ringCond s w 0x0401)) ∧
      (v.toNat < n → n - 1 < pend + added → exec (.sqDoorbell w v) s = .next (ringCond s w 0x0402)) ∧
      (v.toNat < n → pend + added ≤ n - 1 →
        exec (.sqDoorbell w v) s = .next (s.onRing w fun r => { r with sqTail := v }))) ∧
    (∀ (s : State) (w : WingId) (v : BitVec 12), s.barReady 2 →
      (s.ring w).en = false ∨ (s.wing w).st = .free ∨ (s.wing w).st = .clearing → exec (.sqDoorbell w v) s = .next s) ∧
    (∀ (s : State) (w : WingId) (v : BitVec 12), s.barReady 2 →
      let n := 2 ^ (s.ring w).cqSize.toNat
      let moved := (v.toNat + n - (s.ring w).cqHead.toNat) % n
      (v.toNat < n → moved ≤ (s.ring w).unreleased → exec (.cqHeadWrite w v) s =
        .next (s.onRing w fun r => { r with cqHead := v, unreleased := r.unreleased - moved })) ∧
      (n ≤ v.toNat ∨ (s.ring w).unreleased < moved → exec (.cqHeadWrite w v) s = .next (ringCond s w 0x0401)))) ∧
  (
    (∀ (s : State) (w : WingId), (s.ring w).en = true → (s.ring w).active = true → dispatchOpen s w = true →
      (s.ring w).sqHead ≠ (s.ring w).sqTail → (s.ring w).held = none → larderOpen s w = true →
      wingFree s w ((s.ring w).sqBase.toNat + 64 * (s.ring w).sqHead.toNat) 64 = true →
      let rd := wingRead s w ((s.ring w).sqBase.toNat + 64 * (s.ring w).sqHead.toNat) 64
      ∃ t, exec (.descriptorCopy w) s = .next t ∧
        (t.ring w).held = some ⟨if rd.2.1 then [] else rd.1, false⟩ ∧
        (t.ring w).sqHead = (if (s.ring w).sqHead.toNat + 1 = 2 ^ (s.ring w).sqSize.toNat then 0 else (s.ring w).sqHead + 1) ∧
        t.rooms = s.rooms ∧ t.wings = s.wings) ∧
    (∀ (s : State) (w : WingId) (b : List Byte), (s.ring w).held = some ⟨b, false⟩ → dispatchOpen s w = true →
      (s.ring w).unreleased + (s.ring w).inflight.toNat < 2 ^ (s.ring w).cqSize.toNat → dSealed b = false →
      descCheck s w b = 0 → descOutside s w b = false → descParked s b = false →
      exec (.completionSlotReserve w) s = .next (s.onRing w fun r =>
        { r with inflight := r.inflight + 1, held := some ⟨b, true⟩ })) ∧
    (∀ (s : State) (w : WingId) (b : List Byte), (s.ring w).held = some ⟨b, false⟩ → dispatchOpen s w = true →
      (s.ring w).unreleased + (s.ring w).inflight.toNat < 2 ^ (s.ring w).cqSize.toNat → descCheck s w b ≠ 0 →
      ∃ t, exec (.completionSlotReserve w) s = .next t ∧ (t.ring w).held = none))

/-- A startable NOP completes at dispatch: the held descriptor is gone, INFLIGHT falls by one, one
more record stands in the ring and JOBS_DONE rises. A startable IMAGE_COMMIT of a LOADED image
makes it VERIFYING with every data page still to read and leaves the job in flight. A startable
IMAGE_ERASE that no check refuses makes the image ERASING, or EMPTY where no block is its own, and
completes; no load of the image running, INFLIGHT falls by one. (R161, R166, R179, R223, R224) -/
def Obligations.JobsEndAtStart : Prop :=
  (∀ (s : State) (w : WingId) (b : List Byte), startable s w 1 = some b →
    ∃ t, exec (.jobNop w) s = .next t ∧ (t.ring w).held = none ∧ (t.ring w).inflight = (s.ring w).inflight - 1 ∧
      (t.ring w).unreleased = (s.ring w).unreleased + 1 ∧ (t.ring w).jobsDone = satAdd (s.ring w).jobsDone 1 ∧
      t.rooms = s.rooms) ∧
  (∀ (s : State) (w : WingId) (b : List Byte) (img : Fin 32), startable s w 6 = some b → img.1 = fieldAt b 16 1 % 32 →
    (s.image w img).st = .loaded →
    ∃ t, exec (.jobImageCommit w) s = .next t ∧ (t.image w img).st = .verifying ∧
      (t.image w img).verifyLeft = List.range (4 * (s.image w img).quarterPages.toNat) ∧
      (t.ring w).held = none ∧ (t.ring w).inflight = (s.ring w).inflight ∧ t.host.jobs.length = s.host.jobs.length + 1) ∧
  (∀ (s : State) (w : WingId) (b : List Byte) (img : Fin 32), startable s w 7 = some b → img.1 = fieldAt b 16 1 % 32 →
    eraseCheck s w img = 0 →
    ∃ t, exec (.jobImageErase w) s = .next t ∧ (t.ring w).held = none ∧
      (t.image w img).st = (if hasBlocks s w img = true then .erasing else .empty) ∧
      ((∀ j ∈ s.host.jobs, j.ring = w → ∀ l a d n, j.kind ≠ .imageLoad img l a d n) →
        (t.ring w).inflight = (s.ring w).inflight - 1))

/-- A startable PROGRAM_LOAD none of whose Rooms is RUNNING or in DEBUG_HALT makes every Room of
its mask LOADING; when its images are read without poison each Room of the mask ends IDLE with the
four images at offset 0 of its four memories, the rest zero. A startable RUN whose Rooms are all
IDLE, not in reset and not being zeroed, naming no checker, makes each Room RUNNING with its Newel
at ENTRY, c0 and c1 the halves of ARG and c2 its rank in the mask. (R179, R338, R324) -/
def Obligations.ProgramLoadAndRun : Prop :=
  (∀ (s : State) (w : WingId) (b : List Byte), startable s w 2 = some b →
    (∀ r : RoomId, (withCheckers s (dMask b)).getLsbD r.1 = true → (s.room r).st ≠ .debugHalt ∧ (s.room r).st ≠ .running) →
    ∃ t, exec (.jobProgramLoad w) s = .next t ∧ (t.ring w).held = none ∧
      ∀ r : RoomId, (withCheckers s (dMask b)).getLsbD r.1 = true → (t.room r).st = .loading) ∧
  (∀ (s : State) (w : WingId) (serial : Nat) (j : Job) (m : W32) (src ni nd a x : Nat), findJob s w serial = some j →
    j.kind = .programLoad m src ni nd a x → wingFree s w src (ni + nd + a + x) = true → larderOpen s w = true →
    (wingRead s w src (ni + nd + a + x)).2.1 = false →
    let d := (wingRead s w src (ni + nd + a + x)).1
    ∃ t, exec (.programLoadDone w serial) s = .next t ∧ ∀ r : RoomId, m.getLsbD r.1 = true →
      (t.room r).st = .idle ∧ (t.room r).newel.imem = memOf (d.take ni) ∧
      (t.room r).newel.dmem = memOf ((d.drop ni).take nd) ∧
      (t.room r).astream.strm.mem = memOf ((d.drop (ni + nd)).take a) ∧
      (t.room r).xstream.mem = memOf ((d.drop (ni + nd + a)).take x)) ∧
  (∀ (s : State) (w : WingId) (b : List Byte), startable s w 3 = some b → noChecker s (dMask b) = true →
    (∀ r : RoomId, (withCheckers s (dMask b)).getLsbD r.1 = true →
      (s.room r).st = .idle ∧ (s.room r).zeroing = false ∧ (s.room r).held = false) → dMask b ≠ 0 →
    ∃ t, exec (.jobRun w) s = .next t ∧ (t.ring w).held = none ∧ ∀ r : RoomId, (dMask b).getLsbD r.1 = true →
      (t.room r).st = .running ∧ (t.room r).newel.pc = BitVec.ofNat 32 (fieldAt b 20 4) ∧
      ((t.room r).newel.outs.get 15).get 0 = BitVec.ofNat 32 (fieldAt b 24 4) ∧
      ((t.room r).newel.outs.get 15).get 1 = BitVec.ofNat 32 (fieldAt b 28 4) ∧
      ((t.room r).newel.outs.get 15).get 2 =
        BitVec.ofNat 32 ((onesOf (dMask b)).filter fun q => decide (q.1 < r.1)).length)

/-- With Bus Master Enable set, a startable HATCH_COPY drops the read-ahead lines and starts the
engine with its direction, nothing moved and every byte of LENGTH either still to read or asked for
in at most 16 reads. A successful completion of an outstanding read stores its bytes at the read's
wing offset and counts them as moved; a Completion Timeout marks the copy failed with 0x0407. A
host-to-Larder copy with nothing left and no read outstanding completes and frees the engine.
(R174, R179) -/
def Obligations.HatchCopyJob : Prop :=
  (∀ (s : State) (w : WingId) (b : List Byte), startable s w 4 = some b → s.host.cfg.busMaster = true →
    ∃ t c, exec (.jobHatchCopy w) s = .next t ∧ (t.hatch w).copy = some c ∧ (t.hatch w).lines = [] ∧
      c.toHost = (fieldAt b 16 1).testBit 0 ∧ c.moved = 0 ∧ c.failed = none ∧ c.reads.length ≤ 16 ∧
      c.left + (c.reads.map (·.len)).sum = fieldAt b 20 4 ∧ (t.ring w).held = none) ∧
  (∀ (s : State) (w : WingId) (tag : Nat) (bs : List Byte) (c : CopyEngine) (r : HostRead), (s.hatch w).copy = some c →
    (c.reads.find? fun r => r.tag == tag) = some r → bs.length = r.len →
    ∃ t c', exec (.pcieCompletion w tag bs true) s = .next t ∧ (t.hatch w).copy = some c' ∧ c'.moved = c.moved + r.len ∧
      t.larder = (postWrite s w r.wingOff bs).larder) ∧
  (∀ (s : State) (w : WingId) (tag : Nat) (c : CopyEngine) (r : HostRead), (s.hatch w).copy = some c →
    (c.reads.find? fun r => r.tag == tag) = some r →
    exec (.pcieCompletionTimeout w tag) s = .next (s.onHatch w fun h =>
      { h with copy := some { c with reads := c.reads.erase r, failed := some (c.failed.getD 0x0407) } })) ∧
  (∀ (s : State) (w : WingId) (c : CopyEngine) (j : Job), (s.hatch w).copy = some c → findJob s w c.serial = some j →
    c.failed = none → s.host.cfg.busMaster = true → c.toHost = false → c.left = 0 → c.reads = [] →
    ∃ t, exec (.hatchCopyDone w) s = .next t ∧ (t.hatch w).copy = none ∧
      (t.ring w).inflight = (s.ring w).inflight - 1 ∧ (t.ring w).unreleased = (s.ring w).unreleased + 1)

/-- A startable IMAGE_LOAD with DEST not 0 into an image that is LOADING or LOADED, with the Cellar
key present and the range inside the image, takes the copy engine and drops the read-ahead lines.
One of a wing 1 to 15 with DEST 0 into an EMPTY image reads the header page: where it is read
without poison and passes every check of R222, the image is LOADING with the header's page count,
CRC and salt; where it does not, the image is as it was. When no page is left the job completes and
the engine is free. (R217, R221, R222) -/
def Obligations.ImageLoadJob : Prop :=
  (∀ (s : State) (w : WingId) (b : List Byte) (img : Fin 32), startable s w 5 = some b → img.1 = fieldAt b 16 1 % 32 →
    keyFilled s (cellarSlot w) = true → (s.image w img).st = .loading ∨ (s.image w img).st = .loaded →
    fieldAt b 32 8 ≠ 0 → fieldAt b 32 8 + fieldAt b 20 4 ≤ 16384 * (4 * (s.image w img).quarterPages.toNat + 1) →
    ∃ t, exec (.jobImageLoad w) s = .next t ∧ (t.hatch w).imageJob = some (s.ring w).nextSerial ∧ (t.hatch w).lines = [] ∧
      (t.ring w).held = none ∧ t.cellar = s.cellar) ∧
  (∀ (s : State) (w : WingId) (b : List Byte) (img : Fin 32), startable s w 5 = some b → img.1 = fieldAt b 16 1 % 32 →
    keyFilled s (cellarSlot w) = true → (s.image w img).st = .empty → fieldAt b 32 8 = 0 → fieldAt b 20 4 ≠ 0 →
    wingFree s w (fieldAt b 24 8) 16384 = true → larderOpen s w = true → w ≠ 0 →
    let rd := wingRead s w (fieldAt b 24 8) 16384
    let g := openImage rd.1
    ∃ t, exec (.jobImageLoad w) s = .next t ∧ (t.ring w).held = none ∧
      if rd.2.1 = false ∧ headerOk rd.2.2 w img rd.1 = true ∧
          quotaUsed s w + g.rows.toNat ≤ (s.wing w).celQuota.toNat ∧
          fieldAt b 20 4 ≤ 16384 * (4 * g.quarterPages.toNat + 1) then
        t.image w img = g ∧ g.st = .loading ∧ g.quarterPages = BitVec.ofNat 32 (fieldAt rd.1 8 4) ∧
          g.crc = BitVec.ofNat 32 (fieldAt rd.1 12 4) ∧ g.salt = BitVec.ofNat 64 (fieldAt rd.1 16 8) ∧
          (t.hatch w).imageJob = some (s.ring w).nextSerial
      else t.image w img = s.image w img) ∧
  (∀ (s : State) (w : WingId) (serial : Nat) (j : Job) (img : Fin 32) (src dest done : Nat), findJob s w serial = some j →
    j.kind = .imageLoad img [] src dest done →
    ∃ t, exec (.imageLoadDone w serial) s = .next t ∧ (t.hatch w).imageJob ≠ some serial ∧
      (t.ring w).inflight = (s.ring w).inflight - 1 ∧ (t.ring w).unreleased = (s.ring w).unreleased + 1)

/-- Within the first 32 KiB of an open Hatch aperture whose wing has its key, with WIN_EN set and
the range in the wing's windows: a write with every byte enable stores its bytes at HATCH_WIN plus
the offset after dropping the read-ahead lines it overlaps; a read whose lines are free returns the
bytes there. With WIN_EN clear a write is discarded and a read returns zeros. An access past 0x8000
raises 0x0409. A port write of 4 to 512 bytes, a multiple of 4, with every byte enable, in reach of
the wing, stores its bytes at HATCH_ADDR, advances HATCH_ADDR and HATCH_COUNT by its length and
drops every read-ahead line; one that is partial or has another length raises 0x0409 and one out of
the windows raises 0x0102, HATCH_ADDR unchanged. A port read of 4 to 4096 bytes, a multiple of 4,
in reach and with its lines free, advances HATCH_ADDR and HATCH_COUNT by its length and, with no
read-ahead line held, returns the bytes there. Any other length raises 0x0409 and returns zeros. A
write of a 4-aligned HATCH_ADDR below 2^36 sets it, restarts HATCH_COUNT and drops every read-ahead
line; FLUSH drops every line and changes nothing else; with RA_EN, an idle engine, an open Hatch,
no line held and the 4 KiB line that holds HATCH_ADDR in reach, free and not poisoned, the fill
takes the snapshot of that line. (R170, R171, R172, R173, R174, R175, R181) -/
def Obligations.HatchAccesses : Prop :=
  (
    (∀ (s : State) (w : WingId) (off : Nat) (bs : List Byte), s.barReady 2 → off + bs.length ≤ 0x8000 →
      hatchRefuse s w = none → (s.hatch w).winEn = true → wingRange s w ((s.hatch w).win.toNat + off) bs.length = true →
      exec (.hatchWindowWrite w off bs (List.replicate bs.length true)) s = .next
        (postWrite (s.onHatch w fun h => dropLines h ((s.hatch w).win.toNat + off) bs.length) w
          ((s.hatch w).win.toNat + off) bs)) ∧
    (∀ (s : State) (w : WingId) (off n : Nat), s.barReady 2 → off + n ≤ 0x8000 → hatchRefuse s w = none →
      (s.hatch w).winEn = true → wingRange s w ((s.hatch w).win.toNat + off) n = true →
      wingFree s w ((s.hatch w).win.toNat + off) n = true →
      let rd := wingRead s w ((s.hatch w).win.toNat + off) n
      exec (.hatchWindowRead w off n) s =
        .next ((if rd.2.1 then hatchCond rd.2.2 w 0x0703 else rd.2.2).send (.barData rd.1))) ∧
    (∀ (s : State) (w : WingId) (off n : Nat) (bs : List Byte) (be : List Bool), s.barReady 2 → hatchRefuse s w = none →
      (s.hatch w).winEn = false →
      (off + bs.length ≤ 0x8000 → exec (.hatchWindowWrite w off bs be) s = .next s) ∧
      (off + n ≤ 0x8000 → exec (.hatchWindowRead w off n) s = .next (s.send (.barData (List.replicate n 0))))) ∧
    (∀ (s : State) (w : WingId) (off n : Nat) (bs : List Byte) (be : List Bool), s.barReady 2 →
      (0x8000 < off + bs.length → exec (.hatchWindowWrite w off bs be) s = .next (hatchCond s w 0x0409)) ∧
      (0x8000 < off + n → exec (.hatchWindowRead w off n) s =
        .next ((hatchCond s w 0x0409).send (.barData (List.replicate n 0)))))) ∧
  (
    (∀ (s : State) (w : WingId) (bs : List Byte), s.barReady 2 → 4 ≤ bs.length → bs.length ≤ 512 → bs.length % 4 = 0 →
      hatchRefuse s w = none →
      (wingRange s w (s.hatch w).addr.toNat bs.length = true →
        exec (.hatchPortWrite w bs true) s = .next ((postWrite s w (s.hatch w).addr.toNat bs).onHatch w fun h =>
          { h with addr := h.addr + BitVec.ofNat 36 bs.length, count := h.count + BitVec.ofNat 64 bs.length, lines := [] })) ∧
      (wingRange s w (s.hatch w).addr.toNat bs.length = false →
        exec (.hatchPortWrite w bs true) s = .next (hatchCond s w 0x0102))) ∧
    (∀ (s : State) (w : WingId) (bs : List Byte) (full : Bool), s.barReady 2 →
      full = false ∨ bs.length < 4 ∨ 512 < bs.length ∨ bs.length % 4 ≠ 0 →
      exec (.hatchPortWrite w bs full) s = .next (hatchCond s w 0x0409)) ∧
    (∀ (s : State) (w : WingId) (n : Nat), s.barReady 2 → 4 ≤ n → n ≤ 4096 → n % 4 = 0 → hatchRefuse s w = none →
      wingRange s w (s.hatch w).addr.toNat n = true → wingFree s w (s.hatch w).addr.toNat n = true →
      let rd := wingRead s w (s.hatch w).addr.toNat n
      ∃ t, exec (.hatchPortRead w n) s = .next t ∧
        ((s.hatch w).lines = [] → rd.2.1 = false →
          t = (rd.2.2.onHatch w fun h =>
                { h with addr := h.addr + BitVec.ofNat 36 n, count := h.count + BitVec.ofNat 64 n,
                         lines := h.lines.filter fun l => decide ((s.hatch w).addr.toNat + n < l.off + 4096) }).send
              (.barData ((List.range n).map fun i => rd.1.getD i 0))) ∧
        (∃ bs, bs.length = n ∧ t.out.getLast? = some (.barData bs))) ∧
    (∀ (s : State) (w : WingId) (n : Nat), s.barReady 2 → n < 4 ∨ 4096 < n ∨ n % 4 ≠ 0 →
      exec (.hatchPortRead w n) s = .next ((hatchCond s w 0x0409).send (.barData (List.replicate n 0))))) ∧
  (
    (∀ (s : State) (w : WingId) (a : W64), s.barReady 2 → a.toNat % 4 = 0 → a.toNat < 2 ^ 36 →
      ∃ t, exec (.hatchAddrWrite w a) s = .next t ∧ t = s.onHatch w (fun h => { h with addr := a.setWidth 36, count := 0, lines := [] })) ∧
    (∀ (s : State) (w : WingId), s.barReady 2 → exec (.hatchFlush w) s = .next (s.onHatch w fun h => { h with lines := [] })) ∧
    (∀ (s : State) (w : WingId), (s.hatch w).raEn = true → engineBusy s w = false → hatchOpen s w = true →
      larderOpen s w = true → 0 < (s.hatch w).raDepth.toNat → (s.hatch w).lines = [] →
      let first := (s.hatch w).addr.toNat / 4096 * 4096
      wingRange s w first 4096 = true → wingFree s w first 4096 = true →
      ∃ t, exec (.hatchReadaheadFill w) s = .next t ∧
        ((wingRead s w first 4096).2.1 = false → t = (wingRead s w first 4096).2.2.onHatch w fun h =>
          { h with lines := h.lines ++ [⟨first, (wingRead s w first 4096).1⟩] })))

/-- A naturally aligned 32-bit write of a Room's ROOM_WAIT_LIMIT sets it and changes nothing else.
A 64-bit write of ROOM_AS_BKC sets all of it, a 32-bit write of either half sets that half alone.
An access that is not naturally aligned 32-bit or 64-bit raises 0x040A at wing 0, one that reaches
a reserved offset 0x0701, and neither writes anything. NWL_DBG.RESUME, with debug scope 0 granted
for the Room's wing, lets a Room that its Newel halted run again with its next instruction executed
past the breakpoint, and otherwise does nothing. FOY_DOM_GATE stops the clock of every Storey whose
bit is 1 and runs the others', and no other clock changes. FOY_DOM_HOLD sets the HOLD bits; a
Storey newly held reads gang and lockstep 0, a Doorway newly held is at its reset values with its
claims kept and its clock stopped. FOY_ROOM_HOLD puts each Room whose bit goes to 1 in reset and
starts the zeroing of each Room whose bit goes to 0. FOY_ROOM_INVAL adds its bits; a bit reads 0
once the cache is discarded. A Room whose zeroing is done holds an empty Pantry, empty tags and
empty program memories and reads IDLE, unless it is quarantined. (R156, R176, R281, R307, R330,
R354, R388, R539, R553, R554, R555, R561) -/
def Obligations.HostAndDomainRegisters : Prop :=
  (
    (∀ (s : State) (r : RoomId) (v : W32), s.barReady (storeyDomain r) →
      exec (.registerWrite (0x140018 + 0x400 * r.1) (leBytes 4 v.toNat)) s =
        .next (s.onRoom r fun x => { x with waitLimit := v })) ∧
    (∀ (s : State) (r : RoomId) (v : W64) (w : W32), s.barReady (storeyDomain r) →
      (∃ t, exec (.registerWrite (0x1400A0 + 0x400 * r.1) (leBytes 8 v.toNat)) s = .next t ∧
        (t.room r).astream.strm.bkc = v) ∧
      (∃ t, exec (.registerWrite (0x1400A0 + 0x400 * r.1) (leBytes 4 w.toNat)) s = .next t ∧
        (t.room r).astream.strm.bkc = (s.room r).astream.strm.bkc.extractLsb' 32 32 ++ w) ∧
      (∃ t, exec (.registerWrite (0x1400A4 + 0x400 * r.1) (leBytes 4 w.toNat)) s = .next t ∧
        (t.room r).astream.strm.bkc = w ++ (s.room r).astream.strm.bkc.extractLsb' 0 32)) ∧
    (∀ (s : State) (off : Nat) (bs : List Byte), s.barReady 2 → mailboxOff off = false →
      (regShape off bs.length = false → exec (.registerWrite off bs) s = .next (ringCond s 0 0x040A)) ∧
      (regShape off bs.length = true → regMapped s off bs.length = false →
        exec (.registerWrite off bs) s = .next (ringCond s 0 0x0701))) ∧
    (∀ (s : State) (r : RoomId), s.barReady (storeyDomain r) →
      ((s.room r).st = .debugHalt → (s.room r).sdbgWhich = 0 → debugAllows s r 0 = true →
        exec (.nwlDbgResume r) s = .next (s.onRoom r fun x =>
          { x with st := .running, newel := { x.newel with skipBreak := true } })) ∧
      (debugAllows s r 0 = false → exec (.nwlDbgResume r) s = .next s))) ∧
  (
    (∀ (s : State) (v : W32), s.barReady 1 → v.toNat &&& 0xFFFFF87F = 0 →
      ∃ t, exec (.storeyGate v) s = .next t ∧ (∀ i : StoreyId, t.sys.clkRunning.getLsbD (7 + i.1) = !v.getLsbD (7 + i.1)) ∧
        (∀ k, k < 7 ∨ 11 ≤ k → t.sys.clkRunning.getLsbD k = s.sys.clkRunning.getLsbD k) ∧
        t.sys.domGate = v.extractLsb' 7 4 ∧ t.rooms = s.rooms) ∧
    (∀ (s : State) (v : W32), s.barReady 1 → ∃ t, exec (.foyDomHold v) s = .next t ∧ t.sys.domHold = v.extractLsb' 7 10 ∧
      (∀ i : StoreyId, v.getLsbD (7 + i.1) = true → s.sys.domHold.getLsbD i.1 = false →
        (t.storey i).gang = 0 ∧ (t.storey i).lockstep = 0) ∧
      (∀ d : DoorId, v.getLsbD (11 + d.1) = true → s.sys.domHold.getLsbD (4 + d.1) = false →
        t.door d = { Doorway.init with claims := (s.door d).claims } ∧ t.sys.clkRunning.getLsbD (11 + d.1) = false)) ∧
    (∀ (s : State) (v : W32), s.barReady 1 → ∃ t, exec (.foyRoomHold v) s = .next t ∧ t.sys.roomHold = v ∧
      (∀ r : RoomId, v.getLsbD r.1 = true → s.sys.roomHold.getLsbD r.1 = false → (t.room r).held = true ∧
        (t.room r).st = (if (s.room r).st = .quarantined then .quarantined else .idle) ∧ (t.room r).queues = Room.init.queues) ∧
      (∀ r : RoomId, v.getLsbD r.1 = false → s.sys.roomHold.getLsbD r.1 = true → (t.room r).held = false ∧
        (t.room r).zeroing = true)) ∧
    (∀ (s : State) (v : W32), s.barReady 1 →
      exec (.foyRoomInval v) s = .next (s.onSys fun y => { y with roomInval := y.roomInval ||| v })) ∧
    (∀ (s : State) (r : RoomId), s.sys.roomInval.getLsbD r.1 = true → ∃ t, exec (.roomInvalDone r) s = .next t ∧
      t.sys.roomInval = s.sys.roomInval &&& ~~~((1 : W32) <<< r.1)) ∧
    (∀ (s : State) (r : RoomId), (s.room r).zeroing = true → (s.room r).held = false →
      domainUp s (storeyDomain r) = true → ∃ t, exec (.roomZeroingDone r) s = .next t ∧ (t.room r).pantry = [] ∧
        (t.room r).full = [] ∧ (t.room r).newel.imem = [] ∧ (t.room r).newel.dmem = [] ∧ (t.room r).zeroing = false ∧
        (t.room r).st = (if (s.room r).st = .quarantined then .quarantined else .idle)))

/-- POWER_ON_RESET, SYS_RESET_N low, PERST_N low, a watchdog expiry outside a reset and the loss of
REF_CLK put the device in reset with the lowest code of the joined sources recorded; Rooms, wings,
host interface, rings, Hatches and the dictionary's queues are at their reset values, and the NOR
copies, the fuses, the images and the queue of commands are kept; the Threshold's state is kept by
every source but POR. A source held low stays asserted until it is released. The end of POR samples
the straps. TRST_N selects IDCODE and changes nothing else. The hold-up monitor stops the clocks of
domains 1 to 16 while the epoch of an erase is still to be programmed. With no source asserted the
device leaves reset at stage 1. When VOUT_COMMAND is done a step up waits for the settling and a
step down is complete; the end of settling sets the PLL; lock detect starts the hold; at the end of
the hold OP is the target, the relock count rises and, for a step down with a valid board block,
the lower voltage is commanded. A lock that does not come within its time ends the step with
0x0E01, leaves OP at the lower of the two points and counts the failure; after the third in a row
no step is tried. (R12, R57, R78, R542, R544, R545, R556, R557, R559, R571, R580, R609) -/
def Obligations.ResetsAndOperatingPoints : Prop :=
  (
    (∀ (s : State) (c : Instr) (src : ResetSrc), (c, src) ∈ [(Instr.powerOnReset, ResetSrc.por), (.sysResetN true, .sys),
        (.perstN true, .perst), (.refClkLoss true, .refClk), (.watchdogExpiry, .watchdog)] →
      (src = .watchdog → s.sys.inReset = false) →
      ∃ t, exec c s = .next t ∧ t.sys.inReset = true ∧
        t.sys.resetCause = (if s.sys.inReset = true ∧ s.sys.resetCause.toNat < src.code.toNat then s.sys.resetCause else src.code) ∧
        t.rooms = State.reset.rooms ∧ t.wings = State.reset.wings ∧ t.host = State.reset.host ∧
        t.mgmt = Mgmt.init s.mgmt.nor ∧ t.thr.fuses = s.thr.fuses ∧ t.cellar.images = s.cellar.images ∧
        t.pending = s.pending ∧ (src ≠ .por → t.thr.st = s.thr.st ∧ t.thr.failTimes = s.thr.failTimes) ∧
        (src ≠ .watchdog → src ∈ t.sys.asserted) ∧ t.thr.debugWings = 0 ∧ t.thr.slots.get 16 = none) ∧
    (∀ (s : State) (c : Instr) (src : ResetSrc), (c, src) ∈ [(Instr.sysResetN false, ResetSrc.sys), (.perstN false, .perst),
        (.refClkLoss false, .refClk)] → ∃ t, exec c s = .next t ∧ src ∉ t.sys.asserted ∧
        t = s.onSys fun y => { y with asserted := t.sys.asserted }) ∧
    (∀ (s : State), ResetSrc.por ∈ s.sys.asserted → ∃ t, exec .porEnd s = .next t ∧ ResetSrc.por ∉ t.sys.asserted ∧
      t.sys.straps = s.sys.strapPins ∧ t.fabric = Fabric.init s.sys.strapPins.pos s.sys.strapPins.posAuto
        (s.sys.strapPins.master && s.sys.strapPins.posAuto)) ∧
    (∀ (s : State), exec .trstN s = .next (s.onThr fun t => { t with tap := .idcode })) ∧
    (∀ (s : State) (e : EraseSteps), s.thr.erase = some e →
      (e.epochLeft = true → exec .holdupMonitor s = .next (s.onSys fun y => { y with clkRunning := y.clkRunning &&& 1 })) ∧
      (e.epochLeft = false → exec .holdupMonitor s = .next s)) ∧
    (∀ (s : State), s.sys.inReset = true → s.sys.asserted = [] → ∃ t, exec .deviceResetRelease s = .next t ∧
      t.sys.inReset = false ∧ t.sys.bootStage = 1 ∧ t.sys.clkRunning = 0x79F ∧ t.sys.resetHeld = 0x60 ∧ t.thr = s.thr)) ∧
  (
    (∀ (s : State) (i : StoreyId), (s.storey i).step = .volt → exec (.voutCommandDone i) s = .next (s.onStorey i fun x =>
      { x with step := if (s.storey i).op.toNat < (s.storey i).target.toNat then .settle else .idle })) ∧
    (∀ (s : State) (i : StoreyId), (s.storey i).step = .settle →
      exec (.settleExpiry i) s = .next (s.onStorey i fun x => { x with step := .waitLock })) ∧
    (∀ (s : State) (i : StoreyId), (s.storey i).step = .waitLock →
      exec (.pllLockDetect i) s = .next (s.onStorey i fun x => { x with step := .hold })) ∧
    (∀ (s : State) (i : StoreyId), (s.storey i).step = .hold → ∃ t, exec (.lockHoldExpiry i) s = .next t ∧
      (t.storey i).op = (s.storey i).target ∧ (t.storey i).relocks = satAdd (s.storey i).relocks 1 ∧
      (t.storey i).failsInRow = 0 ∧
      (if (s.storey i).target.toNat ≤ (s.storey i).op.toNat ∧ s.sys.boardValid = true then
        (t.storey i).step = .volt ∧ t.out = s.out ++ [.pmbus i (opPoint (s.storey i).target.toNat).2]
       else (t.storey i).step = .idle ∧ t.out = s.out)) ∧
    (∀ (s : State) (i : StoreyId), (s.storey i).step = .waitLock → ∃ t, exec (.relockTimeout i) s = .next t ∧
      (t.storey i).step = .idle ∧ (t.storey i).op.toNat = min (s.storey i).op.toNat (s.storey i).target.toNat ∧
      (t.storey i).failsInRow = (s.storey i).failsInRow + 1 ∧
      (t.storey i).stuck = decide (3 ≤ (s.storey i).failsInRow + 1)))

/-- While phase time runs, a tick adds 1 to it, modulo 2^48. A held, armed comparator whose wing is
not frozen and whose TIME is reached fires: FIRED is set, the count of matches rises, EVENT raises
the Newel phase interrupt of its Room; with PERIOD 0 it disarms, with another PERIOD it stays armed
at the first target not yet reached and MISSED grows by the targets skipped. A comparator not
reached, free or disarmed is unchanged. While UNLOCKED a tick changes nothing. A claim of a free
comparator for wing 0 or an existing wing gives it to the wing with every other field at reset; its
owner's release frees it; a claim of a held one raises 0x0503. A CTRL write that leaves ARM 1, with
its Room in the owner's mask where EVENT is set and its record in the owner's windows where RECORD
is set, sets the fields, clears MISSED and sets LATE for a TIME already reached when it arms; ARM 0
disarms. TIME and REC take what is written. A read of PH_NOW's low word answers it and latches the
high one. (R183, R184, R185, R194, R195, R196, R197, R198, R212, R213) -/
def Obligations.PhaseTimeAndComparators : Prop :=
  (
    (∀ (s : State), phaseRuns s = true → ∃ t, exec .phaseTick s = .next t ∧ t.phase.time = s.phase.time + 1 ∧
      (∀ n : Fin 64, (s.phase.cmps.get n).held = true → (s.phase.cmps.get n).arm = true →
        wingFrozen s (s.phase.cmps.get n).wing = false → reached (s.phase.time + 1) (s.phase.cmps.get n).time = true →
        (t.phase.cmps.get n).fired = true ∧ (t.phase.cmps.get n).fires = (s.phase.cmps.get n).fires + 1 ∧
        ((s.phase.cmps.get n).event = true → (t.room (s.phase.cmps.get n).room).newel.pendPhase = true) ∧
        ((s.phase.cmps.get n).period = 0 → (t.phase.cmps.get n).arm = false ∧
          (t.phase.cmps.get n).time = (s.phase.cmps.get n).time) ∧
        ((s.phase.cmps.get n).period ≠ 0 →
          let k := targetsPassed (s.phase.time + 1) (s.phase.cmps.get n).time (s.phase.cmps.get n).period
          (t.phase.cmps.get n).arm = true ∧
          (t.phase.cmps.get n).time = (s.phase.cmps.get n).time + BitVec.ofNat 48 (k * (s.phase.cmps.get n).period.toNat) ∧
          (t.phase.cmps.get n).missed = satAdd (s.phase.cmps.get n).missed (k - 1))) ∧
      (∀ n : Fin 64, (s.phase.cmps.get n).held = false ∨ (s.phase.cmps.get n).arm = false ∨
        reached (s.phase.time + 1) (s.phase.cmps.get n).time = false → t.phase.cmps.get n = s.phase.cmps.get n)) ∧
    (∀ (s : State), phaseRuns s = false → exec .phaseTick s = .next s)) ∧
  (
    (∀ (s : State) (n : Fin 64) (w : WingId), s.barReady 1 →
      ((s.phase.cmps.get n).held = false → wingClaims s w = true →
        exec (.phCmpClaim n w) s = .next (s.onCmp n fun _ => { Cmp.init with held := true, wing := w })) ∧
      ((s.phase.cmps.get n).held = true → exec (.phCmpClaim n w) s = .next (ringCond s 0 0x0503)) ∧
      ((s.phase.cmps.get n).held = true → (s.phase.cmps.get n).wing = w →
        exec (.phCmpRelease n w) s = .next (s.onCmp n fun _ => { Cmp.init with wing := w }))) ∧
    (∀ (s : State) (n : Fin 64) (room : RoomId) (cl cf ev re : Bool), s.barReady 1 → (s.phase.cmps.get n).held = true →
      cmpRefused s (s.phase.cmps.get n).wing ev re room (s.phase.cmps.get n).recAddr.toNat = false →
      exec (.phCmpArm n room cl cf ev re) s = .next (s.onCmp n fun c =>
        { c with room := room, event := ev, record := re, arm := true, fired := c.fired && !cf,
                 late := if (s.phase.cmps.get n).arm = true then c.late && !cl else reached s.phase.time c.time,
                 missed := if (s.phase.cmps.get n).arm = true then c.missed else 0 })) ∧
    (∀ (s : State) (n : Fin 64) (room : RoomId) (cl cf ev re : Bool), s.barReady 1 → (s.phase.cmps.get n).held = true →
      exec (.phCmpDisarm n room cl cf ev re) s = .next (s.onCmp n fun c =>
        { c with room := room, event := ev, record := re, arm := false, fired := c.fired && !cf, late := c.late && !cl })) ∧
    (∀ (s : State) (n : Fin 64) (x : W48), s.barReady 1 → (s.phase.cmps.get n).held = true →
      exec (.phCmpTimeWrite n x) s = .next (s.onCmp n fun c =>
        { c with time := x, late := if c.arm = true then reached s.phase.time x else c.late })) ∧
    (∀ (s : State) (n : Fin 64) (a : BitVec 36), s.barReady 1 → (s.phase.cmps.get n).held = true →
      (s.phase.cmps.get n).arm = false ∨ (s.phase.cmps.get n).record = false →
      exec (.phCmpRecWrite n a) s = .next (s.onCmp n fun c => { c with recAddr := a &&& 0xFFFFFFFF0 })) ∧
    (∀ (s : State), s.barReady 1 → exec .phNowLowRead s =
      .next ((s.onPhase fun p => { p with nowHigh := BitVec.ofNat 32 (p.time.toNat / 2 ^ 32) }).send
        (.barData (leBytes 4 s.phase.time.toNat)))))

/-- On the master device or one outside any fabric: an edge whose period lies within 2% of the mean
of the last 8 and at 45 to 65 Hz joins the last 8 periods and gives MAINS_MHZ; in ACQUIRING the
16th edge in a row with a phase error of at most 1 tick gives LOCKED; a period outside 45 to 65 Hz
that is not an outlier gives HOLDOVER. The second expected edge missing in a row gives HOLDOVER,
the first is counted. A decision of UNLOCKED gives ACQUIRING with 4 valid periods and, where
VIRTUAL_OK allows, VIRTUAL when the count of decisions without an edge, which starts at 1, comes to
11. HOLDOVER ends after HOLDOVER_MAX cycles in VIRTUAL or UNLOCKED. A beacon taken by a device that
is not the master sets phase time in one step to its phase plus the delay of its path when it is
the first, and otherwise leaves phase time and gives ALIGN_ERR and the state: that of the beacon
while the error is at most 2 ticks, ACQUIRING above. The fourth beacon missing in a row gives
HOLDOVER; at the eighth a candidate becomes the master. (R187, R188, R189, R191, R192, R210, R459)
-/
def Obligations.MainsAndBeacons : Prop :=
  (
    (∀ (s : State) (dt : Nat), readsMains s = true → s.phase.st = .acquiring ∨ s.phase.st = .locked →
      s.phase.startPending = false → s.phase.periods ≠ [] →
      20 * absGap (dt * s.phase.periods.length) (sumOf s.phase.periods) ≤ sumOf s.phase.periods →
      (hzOk dt = true → 50 * absGap (dt * s.phase.periods.length) (sumOf s.phase.periods) ≤ sumOf s.phase.periods →
        ∃ t, exec (.mainsEdge dt) s = .next t ∧ t.phase.periods = (dt :: s.phase.periods).take 8 ∧
          t.phase.mainsMhz = mhzOf ((dt :: s.phase.periods).take 8) ∧ t.phase.missingEdges = 0 ∧
          t.phase.time = s.phase.time ∧
          let good := if -1 ≤ phaseError s.phase.time ∧ phaseError s.phase.time ≤ 1 then s.phase.goodEdges + 1 else 0
          t.phase.goodEdges = good ∧
          t.phase.st = if s.phase.st = .acquiring ∧ 16 ≤ good then .locked else s.phase.st) ∧
      (hzOk dt = false → ∃ t, exec (.mainsEdge dt) s = .next t ∧ t.phase.st = .holdover ∧ t.phase.holdoverUsed = 0)) ∧
    (∀ (s : State), readsMains s = true → s.phase.st = .acquiring ∨ s.phase.st = .locked →
      ∃ t, exec .mainsEdgeMissing s = .next t ∧
        (s.phase.missingEdges = 0 → t.phase.missingEdges = 1 ∧ t.phase.st = s.phase.st) ∧
        (1 ≤ s.phase.missingEdges → t.phase.st = .holdover)) ∧
    (∀ (s : State), ownMains s = true → s.phase.st = .unlocked → ∃ t, exec .unlockedDecision s = .next t ∧
      (4 ≤ s.phase.run.length → t.phase.st = .acquiring ∧ t.phase.startPending = true) ∧
      (s.phase.run.length < 4 → t.phase.quietDecisions = s.phase.quietDecisions + 1 ∧
        t.phase.st = if s.phase.virtualOk = true ∧ 11 ≤ s.phase.quietDecisions + 1 then .virtual else .unlocked)) ∧
    (∀ (s : State), s.phase.st = .holdover → s.phase.holdoverMax.toNat ≤ s.phase.holdoverUsed →
      ∃ t, exec .holdoverExpiry s = .next t ∧ t.phase.st = (if s.phase.virtualOk = true then .virtual else .unlocked) ∧
        t.phase.mainsMhz = if s.phase.virtualOk = true then 50000 else 0)) ∧
  (
    (∀ (s : State) (residence : Nat) (x : RxPacket) (s1 : State),
      takePacket s (fun x => x.pkt.typ == .beacon) = some (x, s1) → s.fabric.isMaster = false →
      let b := parseBeacon x.pkt.data
      let proj := b.phase + BitVec.ofNat 48 (ticksOf (b.delayNs.toNat + (s.door x.door).delay.toNat / 4) b.mhz.toNat)
      ∃ t, exec (.beacon residence) s = .next t ∧ t.phase.mainsMhz = b.mhz ∧ t.phase.missedBeacons = 0 ∧
        t.phase.beaconSeen = true ∧
        (s.phase.beaconSeen = false → t.phase.time = proj ∧ t.phase.st = b.state ∧ t.phase.alignErr = 0) ∧
        (s.phase.beaconSeen = true → t.phase.time = s.phase.time ∧
          t.phase.alignErr = BitVec.ofInt 32 (s.phase.time - proj).toInt ∧
          t.phase.st = if -2 ≤ (s.phase.time - proj).toInt ∧ (s.phase.time - proj).toInt ≤ 2 then b.state else .acquiring)) ∧
    (∀ (s : State), s.fabric.isMaster = false → s.phase.beaconSeen = true → ∃ t, exec .beaconMissing s = .next t ∧
      (s.phase.missedBeacons + 1 = 4 → t.phase.st = .holdover) ∧
      (s.phase.missedBeacons + 1 = 8 → s.fabric.candidate = true → s.fabric.excluded = false →
        t.fabric.isMaster = true ∧ t.fabric.masterAddr = s.fabric.devAddr)))

/-- At tick 0 or 32,768 of running phase time, once per half-cycle, the spend of the half-cycle in
whole mJ becomes SPENT_LAST, its excess over the grant is kept, and every running account starts at
zero. When armed and not UNLOCKED the grant is U of R205: allotment plus loan less LEND, less the
excess, at most the spend plus the ramp, less the derate, and at least the floors. The account
close of UNLOCKED grants the floors. With no regulator failed, a step adds each existing wing's
charge to its account and the rest to the house. A Room of a wing above 0 outside any gang goes to
level 15 once the account reaches the grant, up one level (to 15 at most) while ahead of the glide
path and down one (to 0 at least) while behind it; a Room of wing 0 is at level 0. A telemetry read
counts: three failures in a row fail a regulator, two good ones in a row restore it, and a round
gives the measured power and core voltage. (R184, R199, R200, R203, R205, R206, R207, R210, R546)
-/
def Obligations.EnergyAccounts : Prop :=
  (
    (∀ (s : State), phaseRuns s = true → s.phase.time.toNat % 32768 = 0 → s.fuse.half ≠ some (halfIndex s.phase.time) →
      ∃ t, exec .halfCycleBoundary s = .next t ∧ t.fuse.half = some (halfIndex s.phase.time) ∧
        (let spent := (sumOf ((List.finRange 16).map fun w => (s.fuse.wings.get w).spendUj) + s.fuse.houseUj) / 1000
         t.fuse.spentLast = BitVec.ofNat 32 spent ∧ t.fuse.excess = spent - s.fuse.grant.toNat ∧ t.fuse.houseUj = 0 ∧
         t.fuse.steps = 0 ∧ (∀ w : WingId, (t.fuse.wings.get w).spendUj = 0 ∧ (t.fuse.wings.get w).reached = false) ∧
         (s.fuse.armed = true → s.phase.st ≠ .unlocked → t.fuse.grant = BitVec.ofNat 32 (max
           (min (energyOf s s.fuse.allot.toNat + s.fuse.borrowGranted - s.fuse.lend - (spent - s.fuse.grant.toNat))
             ((BitVec.ofNat 32 spent).toNat + energyOf s s.fuse.rampLimit.toNat) - energyOf s (s.fuse.derateW * 100))
           (floorEnergy s))))) ∧
    (∀ (s : State), s.phase.st = .unlocked → 6 ≤ s.sys.bootStage.toNat → s.sys.bootStage.toNat ≤ 10 → s.sys.inReset = false →
      ∃ t, exec .unlockedAccountClose s = .next t ∧ t.fuse.grant = BitVec.ofNat 32 (floorEnergy s) ∧
        ∀ w : WingId, (t.fuse.wings.get w).spendUj = 0)) ∧
  (
    (∀ (s : State) (e : StepEnergy), (∀ i, (s.fuse.regs.get i).failed = false) → ∃ t, exec (.stretchStep e) s = .next t ∧
      t.fuse.steps = s.fuse.steps + 1 ∧
      (∀ w : WingId, (t.fuse.wings.get w).spendUj = (s.fuse.wings.get w).spendUj + if w = 0 then 0 else stepCharge s e w) ∧
      (∀ r : RoomId, (s.storey (storeyOf r)).gang.getLsbD (r.1 % 8) = false →
        let w := roomOwner s r
        let spend := (s.fuse.wings.get w).spendUj + stepCharge s e w
        let mhz := if s.phase.mainsMhz = 0 then 50000 else s.phase.mainsMhz.toNat
        let path := (s.fuse.wings.get w).grant.toNat * 1000 * (2 * (s.fuse.steps + 1)) * mhz / 500000000
        (w = 0 → t.fuse.stretch.get r = 0) ∧
        (w ≠ 0 → (s.fuse.wings.get w).reached = true ∨
            ((s.wing w).st.exists_ = true ∧ (s.fuse.wings.get w).grant.toNat * 1000 ≤ spend) →
          t.fuse.stretch.get r = 15) ∧
        (w ≠ 0 → (s.fuse.wings.get w).reached = false → spend < (s.fuse.wings.get w).grant.toNat * 1000 →
          (t.fuse.stretch.get r).toNat = if path < spend then min 15 ((s.fuse.stretch.get r).toNat + 1)
            else if spend < path then (s.fuse.stretch.get r).toNat - 1 else (s.fuse.stretch.get r).toNat))) ∧
    (∀ (s : State) (r : Fin 4) (ok : Bool) (round : Option (W16 × W16)),
      ∃ t, exec (.pmbusTransactionDone r ok round none) s = .next t ∧
        (ok = true → (t.fuse.regs.get r).goodInRow = (s.fuse.regs.get r).goodInRow + 1 ∧ (t.fuse.regs.get r).failsInRow = 0 ∧
          (1 ≤ (s.fuse.regs.get r).goodInRow → (t.fuse.regs.get r).failed = false)) ∧
        (ok = false → (t.fuse.regs.get r).goodInRow = 0 ∧ (t.fuse.regs.get r).failsInRow = (s.fuse.regs.get r).failsInRow + 1 ∧
          (2 ≤ (s.fuse.regs.get r).failsInRow → (t.fuse.regs.get r).failed = true)) ∧
        ∀ p, round = some p → t.fuse.powerNow = p.1 ∧ t.fuse.vddCoreMv = p.2))

/-- The loans of a half-cycle sum to at most the energy lent, a device gets at most what it asked
for, and all of it when the requests do not exceed the energy lent. The armed master keeps a report
of its own half-cycle that comes before tick 8,192, and at tick 8,192 takes its own loan. An armed
device that is not the master takes a grant for the next half-cycle before tick 16,384; at tick
16,384 without one it borrows nothing. (R201, R203, R204, R214) -/
def Obligations.LoansAtTheMaster : Prop :=
  (∀ rs : List ReportAt, sumOf ((loans rs).map (·.2)) ≤ sumOf (rs.map (·.report.lend)) ∧
    (∀ p ∈ loans rs, ∃ r ∈ rs, r.device = p.1 ∧ p.2 ≤ r.report.borrow) ∧
    (sumOf (rs.map (·.report.borrow)) ≤ sumOf (rs.map (·.report.lend)) →
      ∀ r ∈ rs, (r.device, r.report.borrow) ∈ loans rs)) ∧
  (∀ (s : State) (p : Packet) (s1 : State), takeFuse s 2 = some (p, s1) → s.fabric.isMaster = true →
    s.fuse.armed = true → (parseReport p.data).half = BitVec.ofNat 16 (halfIndex s.phase.time) →
    s.phase.time.toNat % 32768 < 8192 →
    ∃ t, exec .fuseReport s = .next t ∧ (⟨p.src, parseReport p.data⟩ : ReportAt) ∈ t.fuse.reports ∧
      t.fuse.borrowGranted = s.fuse.borrowGranted) ∧
  (∀ (s : State) (b : Nat), s.fabric.isMaster = true → s.fuse.armed = true → s.phase.time.toNat % 32768 = 8192 →
    (∀ p ∈ loans (allReports s), p.1 = s.fabric.devAddr → p.2 = b) → (∃ p ∈ loans (allReports s), p.1 = s.fabric.devAddr) →
    ∃ t, exec .reportDeadline s = .next t ∧ t.fuse.borrowGranted = b ∧ t.fuse.grantSeen = true) ∧
  (∀ (s : State) (p : Packet) (s1 : State), takeFuse s 3 = some (p, s1) → s.fabric.isMaster = false →
    s.fuse.armed = true → (parseGrant p.data).half = BitVec.ofNat 16 (halfIndex s.phase.time + 1) →
    s.phase.time.toNat % 32768 < 16384 →
    ∃ t, exec .fuseGrant s = .next t ∧ t.fuse.borrowGranted = (parseGrant p.data).borrow ∧ t.fuse.grantSeen = true ∧
      t.fuse.allot = (parseGrant p.data).allot) ∧
  (∀ (s : State), s.fuse.armed = true → s.fuse.grantSeen = false → s.phase.time.toNat % 32768 = 16384 →
    ∃ t, exec .grantDeadline s = .next t ∧ t.fuse.borrowGranted = 0 ∧ t.fuse.grantSeen = false)

/-- A signal at an ABSENT, enabled Doorway out of reset and from stage FABRIC on begins TRAINING
with DETECT. DETECT gives EQUALISE; EQUALISE with lanes passed gives ALIGN with their lane set and
with none DOWN; ALIGN gives LOCK; LOCK gives EXCHANGE once lock is declared; EXCHANGE with the
opposite Doorway's parameters gives UP with its address as neighbour, 224 class 0 and 32 class 1
credits of each VC, and with another Doorway's gives DOWN. A stage past its bound gives DOWN. A
DOWN, enabled Doorway trains again. 64 frame intervals after lock was lost the receiver searches. A
write of EN takes every Doorway whose bit is 0 to ABSENT. (R439, R440, R441, R442, R445, R448,
R473) -/
def Obligations.DoorwayTraining : Prop :=
  (∀ (s : State) (d : DoorId), s.sys.inReset = false → s.fabric.en.getLsbD d.1 = true →
    ((s.door d).st = .absent → s.sys.resetHeld.getLsbD (11 + d.1) = false → 7 ≤ s.sys.bootStage.toNat →
      s.sys.bootStage.toNat ≤ 10 → ∃ t, exec (.dwSignalDetect d true) s = .next t ∧ (t.door d).st = .training ∧
        (t.door d).stage = .detect) ∧
    ((s.door d).st = .down → ∃ t, exec (.dwDownRetry d) s = .next t ∧ (t.door d).st = .training ∧
      (t.door d).stage = .detect)) ∧
  (∀ (s : State) (d : DoorId) (p : BitVec 4), (s.door d).st = .training → s.sys.inReset = false →
    ∃ t, exec (.trainingStageDone d p) s = .next t ∧
      ((s.door d).stage = .detect → (t.door d).stage = .equalise ∧ (t.door d).st = .training) ∧
      ((s.door d).stage = .equalise → (laneSet p ≠ 0 → (t.door d).stage = .align ∧ (t.door d).laneMask = laneSet p) ∧
        (laneSet p = 0 → (t.door d).st = .down)) ∧
      ((s.door d).stage = .align → (t.door d).stage = .lock) ∧
      ((s.door d).stage = .lock → (t.door d).stage = if (s.door d).rxLocked = true then .exchange else .lock) ∧
      ((s.door d).stage = .exchange → ∀ e, (s.door d).peer = some e →
        (e.door = opposite d → (t.door d).st = .up ∧ (t.door d).neighbour = some e.addr ∧
          (t.door d).credits = Vector.replicate 8 (224, 32) ∧ (t.door d).laneMask = agreeLanes (s.door d).laneMask e.lanes) ∧
        (e.door ≠ opposite d → (t.door d).st = .down))) ∧
  (∀ (s : State) (d : DoorId), (s.door d).st = .training →
    ∃ t, exec (.trainingStageTimeout d) s = .next t ∧ (t.door d).st = .down) ∧
  (∀ (s : State) (d : DoorId), (s.door d).lockHold = true → ∃ t, exec (.lockSearchStart d) s = .next t ∧
    (t.door d).lockHold = false ∧ (t.door d).searching = (!(s.door d).rxLocked && framesGo (s.door d))) ∧
  (∀ (s : State) (en : BitVec 6), s.barReady 1 → ∃ t, exec (.dwFabCtrlEn en) s = .next t ∧ t.fabric.en = en ∧
    ∀ d : DoorId, (en.getLsbD d.1 = false → (t.door d).st = .absent) ∧
      (en.getLsbD d.1 = true → (t.door d).st = (s.door d).st))

/-- An UP Doorway with no replay under way and fewer than 64 frames unacknowledged sends one new
frame with the next FSEQ and keeps it; in a replay it sends the oldest frame to be repeated. A
Doorway in LOCK, EXCHANGE or DOWN sends a training frame that nothing keeps. A frame that follows
one held, of the next FSEQ and with a matching LCRC, accepts the held frame: a packet whose header
it holds and whose data fits, for this device on its VC, enters the inbox. A control flit with a
wrong CRC-16 counts an error and asks for a replay once; so does a frame interval without the
marker, and the fourth in a row loses lock. A replay timeout repeats every unacknowledged frame, up
to eight times in a row. An UP Doorway asks for an echo when its time has come. (R434, R436, R437,
R443, R444, R446, R448, R452) -/
def Obligations.DoorwayFrames : Prop :=
  (∀ (s : State) (d : DoorId) (t0 : W16), (s.door d).st = .up → s.sys.inReset = false →
    ∃ t f, exec (.dwFrameSend d t0) s = .next t ∧ t.out = s.out ++ [.frame d f] ∧
      ((s.door d).replayNext = [] → (s.door d).replay.length < 64 → f.fseq = (s.door d).fseq ∧
        (t.door d).fseq = (s.door d).fseq + 1 ∧ (∃ g, (t.door d).replay = (s.door d).replay ++ [g] ∧ g.fseq = f.fseq)) ∧
      (∀ g rest, (s.door d).replayNext = g :: rest → f.fseq = g.fseq ∧ f.heads = g.heads ∧
        (t.door d).replayNext = rest ∧ (t.door d).replay = (s.door d).replay)) ∧
  (∀ (s : State) (d : DoorId) (t0 : W16), framesGo (s.door d) = true → (s.door d).st ≠ .up → s.sys.inReset = false →
    ∃ t f, exec (.dwFrameSend d t0) s = .next t ∧ t.out = s.out ++ [.frame d f] ∧ f.train = true ∧ f.heads = [] ∧
      (t.door d).replay = (s.door d).replay) ∧
  (∀ (s : State) (d : DoorId) (f g : Frame) (h : FrameHead) (t0 : W16), (s.door d).st = .up → s.sys.inReset = false →
    (s.door d).rxLocked = true → (s.door d).rxHeld = some g → g.train = false → g.fseq = (s.door d).rxSeq + 1 → f.nak = false →
    (s.door d).reasm = [] → g.heads = [h] → pktLen h.pkt + h.start ≤ 32 → h.malformed = false → vcFits h.pkt = true →
    h.pkt.dst = s.fabric.devAddr → s.fabric.assignWait = false →
    ∃ t, exec (.dwFrameReceived d f true true t0) s = .next t ∧ (t.door d).rxSeq = g.fseq ∧ (t.door d).rxHeld = some f ∧
      t.fabric.inbox = s.fabric.inbox ++ [⟨d, h.cls, h.pkt⟩]) ∧
  (∀ (s : State) (d : DoorId) (f : Frame) (b : Bool) (t0 : W16), framesGo (s.door d) = true → s.sys.inReset = false →
    (s.door d).rxLocked = true → ∃ t, exec (.dwFrameReceived d f false b t0) s = .next t ∧ (t.door d).rxHeld = none ∧
      (t.door d).rxError = true ∧ (t.door d).nak = ((s.door d).nak || !(s.door d).rxError) ∧
      t.fabric.inbox = s.fabric.inbox) ∧
  (∀ (s : State) (d : DoorId), framesGo (s.door d) = true → s.sys.inReset = false → (s.door d).rxLocked = true →
    ∃ t, exec (.markerAbsent d) s = .next t ∧ ((s.door d).absentMarks < 3 →
      (t.door d).absentMarks = (s.door d).absentMarks + 1 ∧ (t.door d).rxError = true ∧ (t.door d).rxLocked = true) ∧
      (3 ≤ (s.door d).absentMarks → (t.door d).rxLocked = false)) ∧
  (∀ (s : State) (d : DoorId), (s.door d).st = .up → (s.door d).replay ≠ [] → (s.door d).noProgress < 8 →
    ∃ t, exec (.replayTimeout d) s = .next t ∧ (t.door d).replayNext = (s.door d).replay ∧
      (t.door d).noProgress = (s.door d).noProgress + 1) ∧
  (∀ (s : State) (d : DoorId), (s.door d).st = .up →
    exec (.dwEcho d) s = .next (s.onDoor d fun x => { x with echoAsk := true }))

/-- A claim of a free private channel by a wing with a share of the Doorway holds it, and its
owner's release frees it; a claim of a held one raises 0x0B03. A routing override takes its value
with reserved bits zero, unless it names Doorway 6 or is enabled with MASK 0, which raises 0x0B0B.
CENSUS_NOW starts a census of the next epoch at the master and does nothing elsewhere. A device
that is not excluded answers a query of a candidate no higher than any it has seen once per epoch:
it becomes a member with that Doorway upstream and queues its answer there when the Doorway is UP;
the same query again changes nothing. The master keeps an answer of the running epoch and a member
passes it on upstream. The completion at the master ends the census with the master in it; a device
with no Doorway UP and no answer is a census of one of size 1 in each dimension, every dimension
open. A member that finds its serial in the result takes the census and, with assigned addresses,
its address. (R45, R451, R454, R455, R456, R457, R458, R463, R473) -/
def Obligations.FabricRegistersAndCensus : Prop :=
  (
    (∀ (s : State) (d : DoorId) (p : Fin 3) (w : WingId), s.barReady 1 →
      (((s.door d).claims.get p).held = false → doorShares s w ≠ 0 → exec (.dwVcClaim d p w) s =
        .next (s.onDoor d fun x => { x with claims := vset x.claims p ⟨true, w⟩ })) ∧
      (((s.door d).claims.get p).held = true → exec (.dwVcClaim d p w) s = .next (ringCond s 0 0x0B03)) ∧
      (((s.door d).claims.get p).held = true → ((s.door d).claims.get p).wing = w → exec (.dwVcRelease d p w) s =
        .next (s.onDoor d fun x => { x with claims := vset x.claims p ⟨false, w⟩ }))) ∧
    (∀ (s : State) (n : Fin 64) (v : W32), s.barReady 1 →
      (v.toNat / 2 ^ 28 % 8 ≠ 6 → v.getLsbD 31 = false ∨ v.toNat / 65536 % 4096 ≠ 0 → v.toNat / 4096 % 16 = 0 →
        exec (.dwRouteWrite n v) s = .next (s.onFabric fun f => { f with routes := vset f.routes n (v &&& 0xFFFF0FFF) })) ∧
      (v.toNat / 2 ^ 28 % 8 = 6 ∨ (v.getLsbD 31 = true ∧ v.toNat / 65536 % 4096 = 0) →
        exec (.dwRouteWrite n v) s = .next (ringCond s 0 0x0B0B))) ∧
    (∀ (s : State), s.barReady 1 → (s.fabric.isMaster = true → ∃ t, exec .censusNow s = .next t ∧
        t.fabric.epoch = s.fabric.epoch + 1 ∧ t.fabric.censusSt = .running ∧ t.fabric.answers = []) ∧
      (s.fabric.isMaster = false → exec .censusNow s = .next s))) ∧
  (
    (∀ (s s1 : State) (x : RxPacket), takePacket s (isCensus censusQuery) = some (x, s1) → s.fabric.excluded = false →
      let cand : DevAddr := BitVec.ofNat 12 (fieldAt x.pkt.data 0 2)
      (s.fabric.candidate = false ∨ cand.toNat < s.fabric.devAddr.toNat) →
      (∀ l, s.fabric.lowestSeen = some l → cand.toNat ≤ l.toNat) →
      (s.fabric.answeredEpoch ≠ some (cand, x.pkt.tag) → ∃ t, exec .censusQuery s = .next t ∧
        t.fabric.lowestSeen = some cand ∧ t.fabric.answeredEpoch = some (cand, x.pkt.tag) ∧ t.fabric.epoch = x.pkt.tag ∧
        t.fabric.upstream = some x.door ∧ t.fabric.isMaster = false ∧
        ((s.door x.door).st = .up → ∃ p ∈ (t.door x.door).txq, p.pkt.typ = .census ∧ p.pkt.param = censusAnswer ∧
          p.pkt.tag = x.pkt.tag)) ∧
      (s.fabric.answeredEpoch = some (cand, x.pkt.tag) → exec .censusQuery s = .next s1)) ∧
    (∀ (s s1 : State) (x : RxPacket), takePacket s (isCensus censusAnswer) = some (x, s1) →
      (s.fabric.isMaster = true → s.fabric.censusSt = .running → x.pkt.tag = s.fabric.epoch →
        ∃ t, exec .censusAnswer s = .next t ∧ parseAnswer x.pkt.data ∈ t.fabric.answers) ∧
      (s.fabric.isMaster = false → ∀ d, s.fabric.upstream = some d →
        exec .censusAnswer s = .next (censusOn s1 d censusAnswer x.pkt.tag x.pkt.data))) ∧
    (∀ (s : State), s.fabric.isMaster = true → s.fabric.censusSt = .running → ∃ t, exec .censusComplete s = .next t ∧
      s.fabric.devAddr ∈ t.fabric.census ∧ t.fabric.masterAddr = s.fabric.devAddr ∧
      (s.fabric.answers = [] → (∀ d, (s.door d).st ≠ .up) → t.fabric.censusSt = .done ∧ t.fabric.census = [s.fabric.devAddr] ∧
        t.fabric.torus = 0 ∧ t.fabric.open_ = 7)) ∧
    (∀ (s s1 : State) (x : RxPacket) (low : W32) (a : Nat), takePacket s (isCensus censusResult) = some (x, s1) →
      s.fabric.isMaster = false → s.fabric.resultTaken = false →
      s.fabric.answeredEpoch = some (BitVec.ofNat 12 (x.pkt.param / 4 / 2 ^ 16), x.pkt.tag) →
      (parseTable 4096 (x.pkt.data.drop 512)).find? (fun e => e.1 == s.thr.fuses.serial.setWidth 32) = some (low, a) → a ≠ 0xFFFF →
      ∃ t, exec .censusResult s = .next t ∧ t.fabric.census = censusOf (x.pkt.data.take 512) ∧ t.fabric.resultTaken = true ∧
        t.fabric.devAddr = if s.fabric.addrSource = true then BitVec.ofNat 12 a else s.fabric.devAddr))

/-- A request that its home handles next (GETS, GETX, UPG, NC_RD, NC_WR or ATOM), in a line with no
directory entry and no answer at hand, waits for the Larder read; with an entry whose holders must
be snooped it sends the snoop to each of them, lowest cache first, and waits for their answers.
GETS and NC_RD of a line another cache owns send FWD_GETS to the owner; GETX, UPG, ATOM and NC_WR
of an owned line send FWD_GETX; those of a shared line send INV to the sharers, the requester
itself left out; an entry that names the requester alone sends nothing. An upgrade by the only
sharer is answered with CMP at once. A write of a whole uncached line is stored and acknowledged at
once. When the read of a line's transaction is done without error the home answers: GETS with no
entry DAT_E with the line and the requester as owner, GETS of a shared line DAT_S with the
requester added, GETX DAT_M with the requester as owner, NC_RD DAT_NC with no entry made, ATOM
ATOM_DONE with the old word, its result then read at the home. An idle line of the far-atomic
buffer is stored in the Larder and leaves the buffer. A request slot of a running home takes the
oldest waiting request of the wing whose turn it is into a tracker while fewer than 256 are held.
(R265, R267, R268, R269, R270, R276, R280, R282, R284, R285) -/
def Obligations.HomeAgents : Prop :=
  (
    (∀ (s : State) (x : Tracker), s.handles x →
      dirFind (s.homeAt x.req.line) x.req.line = none → noRead s (homeOf x.req.line) x = false →
      ∃ t, exec (homeCommand x.req.line x.req.kind) s = .next t ∧ t.reads { x with phase := .reading } ∧
        t.larder.net = s.larder.net) ∧
    (∀ (s : State) (x : Tracker) (e : DirEntry) (k : MsgKind) (v : BitVec 34), s.handles x →
      dirFind (s.homeAt x.req.line) x.req.line = some e → snoopFor x.req (some e) = (k, v) → v ≠ 0 →
      ∃ t, exec (homeCommand x.req.line x.req.kind) s = .next t ∧
        t.larder.net = s.larder.net ++ (onesOf v).map (fun c => bareMsg k x.req.line (.cache c)) ∧
        ∃ y, runningTracker t x.req.line = some y ∧ y.req = x.req ∧ y.phase = .snooping v) ∧
    (∀ (line : Nat) (c o : CoreId) (v : BitVec 34) (op : AtomOp) (a b : W32) (word : Fin 16) (data : List Byte) (be : BitVec 64),
      let self : BitVec 34 := 1 <<< c.1
      snoopFor ⟨.getS, line, .cache c⟩ (some ⟨line, .owned o⟩) = (MsgKind.fwdGetS, (1 <<< o.1) &&& ~~~self) ∧
      (snoopFor ⟨.getS, line, .cache c⟩ (some ⟨line, .shared v⟩)).2 = 0 ∧
      snoopFor ⟨.getX, line, .cache c⟩ (some ⟨line, .owned o⟩) = (MsgKind.fwdGetX, (1 <<< o.1) &&& ~~~self) ∧
      snoopFor ⟨.getX, line, .cache c⟩ (some ⟨line, .shared v⟩) = (MsgKind.inv, v &&& ~~~self) ∧
      snoopFor ⟨.upg, line, .cache c⟩ (some ⟨line, .shared v⟩) = (MsgKind.inv, v &&& ~~~self) ∧
      snoopFor ⟨.ncRd, line, .cache c⟩ (some ⟨line, .owned o⟩) = (MsgKind.fwdGetS, (1 : BitVec 34) <<< o.1) ∧
      snoopFor ⟨.atom op a b word, line, .cache c⟩ (some ⟨line, .shared v⟩) = (MsgKind.inv, v) ∧
      snoopFor ⟨.ncWr data be, line, .cache c⟩ (some ⟨line, .owned o⟩) = (MsgKind.fwdGetX, (1 : BitVec 34) <<< o.1)) ∧
    (∀ (s : State) (x : Tracker) (c : CoreId), s.handles x → x.req.kind = .upg → x.req.src = .cache c → x.snooped = false →
      dirFind (s.homeAt x.req.line) x.req.line = some ⟨x.req.line, .shared (1 <<< c.1)⟩ →
      ∃ t, exec (.upg x.req.line) s = .next t ∧ t.larder.net = s.larder.net ++ [bareMsg .cmp x.req.line (.cache c)] ∧
        dirFind (t.homeAt x.req.line) x.req.line = some ⟨x.req.line, .owned c⟩) ∧
    (∀ (s : State) (x : Tracker) (data : List Byte), s.handles x → x.req.kind = .ncWr data (BitVec.allOnes 64) →
      data.length = 64 → dirFind (s.homeAt x.req.line) x.req.line = none → farFind (s.homeAt x.req.line) x.req.line = none →
      ∃ t, exec (.ncWr x.req.line) s = .next t ∧ larderLine t.larder x.req.line = data ∧
        x.req.line ∉ t.larder.poison ∧ t.larder.net = s.larder.net ++ [bareMsg .ncAck x.req.line x.req.src])) ∧
  (
    (∀ (s : State) (x : Tracker) (c : CoreId), s.reads x → x.req.src = .cache c →
      let line := x.req.line
      let answer (k : MsgKind) : HMsg :=
        { bareMsg k line (.cache c) with data := (homeGet s line).1, poison := (homeGet s line).2, contended := x.snooped }
      ∃ t, exec (.larderAccessDone line 0) s = .next t ∧
        (∀ y ∈ (t.homeAt line).trackers, y.req = x.req → y.phase = .accepted) ∧
        (x.req.kind = .getS → dirFind (s.homeAt line) line = none → t.larder.net = s.larder.net ++ [answer .datE] ∧
          dirFind (t.homeAt line) line = some ⟨line, .owned c⟩) ∧
        (x.req.kind = .getS → ∀ l v, dirFind (s.homeAt line) line = some ⟨l, .shared v⟩ →
          t.larder.net = s.larder.net ++ [answer .datS] ∧
          dirFind (t.homeAt line) line = some ⟨line, .shared (v ||| 1 <<< c.1)⟩) ∧
        (x.req.kind = .getX → t.larder.net = s.larder.net ++ [answer .datM] ∧
          dirFind (t.homeAt line) line = some ⟨line, .owned c⟩) ∧
        (x.req.kind = .ncRd → t.larder.net = s.larder.net ++ [answer .datNc] ∧ (t.homeAt line).dir = (s.homeAt line).dir) ∧
        (∀ op a b word, x.req.kind = .atom op a b word →
          let old : W32 := BitVec.ofNat 32 (fieldAt (homeGet s line).1 (4 * word.1) 4)
          (∃ m, t.larder.net = s.larder.net ++ [m] ∧ m.kind = .atomDone ∧ m.old = old ∧ m.peer = .cache c) ∧
          (homeGet t line).1 = putAt (homeGet s line).1 (4 * word.1) (leBytes 4 (atomNew op old a b).toNat))) ∧
    (∀ (s : State) (line : Nat) (f : FarLine), farFind (s.homeAt line) line = some f → f.data.length = 64 →
      ∃ t, exec (.farAtomicIdle line) s = .next t ∧ farFind (t.homeAt line) line = none ∧
        larderLine t.larder line = f.data ∧ t.larder.poison.contains line = f.poison) ∧
    (∀ (s : State) (h : Fin 4) (e : WingId × HomeReq) (p : Bool) (errs : Nat), domainUp s 5 = true → s.larder.posted = [] →
      waitingFor s h (rotate (s.larder.homes.get h).rot (larderShare s)).1 = some e →
      (s.larder.homes.get h).trackers.length < 256 →
      ∃ t, exec (.larderRequestSlot h p errs) s = .next t ∧
        (t.larder.homes.get h).trackers = (s.larder.homes.get h).trackers ++ [⟨e.2, .accepted, false, false, false⟩] ∧
        t.larder.waiting.get (pairOf h) = (s.larder.waiting.get (pairOf h)).erase e))

/-- A snoop whose turn it is leaves the message queue. FWD_GETS of a line held in E or M is
answered with DAT, dirty from M, and the cache keeps S; FWD_GETX of such a line is answered with
DAT and the line leaves the cache; INV and BINV remove the line and are answered with ACK, from M
with dirty DAT. A line that is not held is answered with ACK, or with WB_PENDING while its WB is on
the way, unless FWD_GETS or FWD_GETX comes while the answer to the cache's own request is on its
way, when the snoop is held. A snoop answer other than the last leaves the request waiting for the
caches that have not answered: ACK without data, DAT with the line, which a dirty one also stores
at the home. WB_PENDING before its WB leaves the request waiting for the WB. A WB that no request
waits for is stored, frees the directory entry and is answered with WB_ACK. (R276, R277, R278,
R280, R282) -/
def Obligations.SnoopsAndTheirAnswers : Prop :=
  (
    (∀ (s s1 : State) (c : CoreId) (m : HMsg) (x : CacheLine), x.st = .e ∨ x.st = .m →
      cacheFind (s.cache c) x.line = some x →
      let dat : HMsg := { bareMsg .dat x.line (.cache c) with data := x.data, poison := x.poison, dirty := decide (x.st = .m) }
      (takeMsg s .fwdGetS (.cache c) x.line = some (m, s1) → ∃ t, exec (.fwdGets c x.line) s = .next t ∧
        cacheFind (t.cache c) x.line = some { x with st := .s } ∧ t.larder.net = s1.larder.net ++ [dat]) ∧
      (takeMsg s .fwdGetX (.cache c) x.line = some (m, s1) → ∃ t, exec (.fwdGetx c x.line) s = .next t ∧
        cacheFind (t.cache c) x.line = none ∧ t.larder.net = s1.larder.net ++ [dat])) ∧
    (∀ (s s1 : State) (c : CoreId) (m : HMsg) (x : CacheLine) (i : Instr) (k : MsgKind),
      (i, k) ∈ [(Instr.inv c x.line, MsgKind.inv), (.binv c x.line, .binv)] →
      cacheFind (s.cache c) x.line = some x → takeMsg s k (.cache c) x.line = some (m, s1) →
      ∃ t, exec i s = .next t ∧ cacheFind (t.cache c) x.line = none ∧
        t.larder.net = s1.larder.net ++ [if x.st = .m then
          { bareMsg .dat x.line (.cache c) with data := x.data, poison := x.poison, dirty := true }
          else bareMsg .ack x.line (.cache c)]) ∧
    (∀ (s s1 : State) (c : CoreId) (m : HMsg) (line : Nat) (i : Instr) (k : MsgKind),
      (i, k) ∈ [(Instr.fwdGets c line, MsgKind.fwdGetS), (.fwdGetx c line, .fwdGetX), (.inv c line, .inv), (.binv c line, .binv)] →
      cacheFind (s.cache c) line = none → takeMsg s k (.cache c) line = some (m, s1) →
      ((k = .inv ∨ k = .binv ∨ answerComing s1 c line = false) → ∃ t, exec i s = .next t ∧
        ((∀ w, (s.cache c).wb = some w → w.line ≠ line) → t.larder.net = s1.larder.net ++ [bareMsg .ack line (.cache c)]) ∧
        (∀ w, (s.cache c).wb = some w → w.line = line → t.larder.net = s1.larder.net ++ [bareMsg .wbPending line (.cache c)])) ∧
      ((k = .fwdGetS ∨ k = .fwdGetX) → answerComing s1 c line = true → ∃ t, exec i s = .next t ∧
        (t.cache c).heldSnoop = some m ∧ t.larder.net = s1.larder.net))) ∧
  (
    (∀ (s s1 : State) (c : CoreId) (line : Nat) (m : HMsg) (x : Tracker) (v : BitVec 34),
      awaiting s1 line c = some x → x.req.line = line → x.phase = .snooping v → v &&& ~~~((1 : BitVec 34) <<< c.1) ≠ 0 →
      (takeMsg s .ack (.cache c) line = some (m, s1) → ∃ t, exec (.ack c line) s = .next t ∧
        { x with phase := .snooping (v &&& ~~~((1 : BitVec 34) <<< c.1)), wbWait := false } ∈ (t.homeAt line).trackers) ∧
      (takeMsg s .dat (.cache c) line = some (m, s1) → ∃ t, exec (.dat c line) s = .next t ∧
        { x with phase := .snooping (v &&& ~~~((1 : BitVec 34) <<< c.1)), gotData := true, wbWait := false } ∈
          (t.homeAt line).trackers ∧
        (m.dirty = true → m.data.length = 64 → farFind (s1.homeAt line) line = none → larderLine t.larder line = m.data)) ∧
      (takeMsg s .wbPending (.cache c) line = some (m, s1) →
        (∀ d ∈ (s1.homeAt line).wbData, ¬ (d.1 = c ∧ d.2.1 = line)) → ∃ t, exec (.wbPending c line) s = .next t ∧
        { x with wbWait := true } ∈ (t.homeAt line).trackers)) ∧
    (∀ (s s1 : State) (c : CoreId) (line : Nat) (m : HMsg), takeMsg s .wb (.cache c) line = some (m, s1) →
      awaiting s1 line c = none → m.data.length = 64 → farFind (s1.homeAt line) line = none →
      ∃ t, exec (.wb c line) s = .next t ∧ larderLine t.larder line = m.data ∧ dirFind (t.homeAt line) line = none ∧
        t.larder.net = s1.larder.net ++ [bareMsg .wbAck line (.cache c)]))

/-- DAT_S and DAT_E install the line in S and E, the request is done, and a waiting load of the
line gets its bytes, buffered stores laid over them. DAT_M installs the line in M, and CMP turns
the line held into M; with no atomic waiting the oldest buffered store of the line is merged into
it and leaves the buffer, and a waiting near atomic writes its result and gives its register the
old word. WB_ACK frees the writeback slot. NC_ACK and DAT_NC of an A-stream's line part are kept as
its answer; of a Newel, NC_ACK ends its oldest buffered store and DAT_NC its waiting load; of
another device, an acknowledgement or the data goes back to it as a packet. ATOM_DONE gives a
waiting far atomic's register the old word and moves the contention predictor. A region register
takes a value with no reserved bit that leaves the entry disabled or in order below the usable top;
another one is refused with 0x0704 and changes no entry. (R275, R276, R277, R282, R283, R284, R285,
R286, R287, R293, R382) -/
def Obligations.AnswersReachTheirAgents : Prop :=
  (
    (∀ (s s1 : State) (c : CoreId) (line : Nat) (m : HMsg) (i : Instr) (k : MsgKind) (st : Mesi) (rd : BitVec 5)
        (form : LoadForm) (a : W48) (va : W32),
      (i, k, st) ∈ [(Instr.datS c line, MsgKind.datS, Mesi.s), (.datE c line, .datE, .e)] →
      takeMsg s k (.cache c) line = some (m, s1) → m.poison = false → (s.cache c).heldSnoop = none →
      (coreNewel s c).wait = .load rd form a va → a.toNat / 64 = line →
      ∃ t, exec i s = .next t ∧ cacheFind (t.cache c) line = some ⟨line, st, m.data, false⟩ ∧ (t.cache c).req = none ∧
        coreNewel t c = retire (regSet (coreNewel s c) rd (formValue form
          (overStores (coreNewel s c).stores a.toNat ((m.data.drop (a.toNat % 64)).take (formBytes form)))))) ∧
    (∀ (s s1 : State) (c : CoreId) (line : Nat) (m : HMsg) (e : StoreEntry) (rest : List StoreEntry),
      (s.cache c).heldSnoop = none → (coreNewel s c).wait = .ready → (coreNewel s c).stores = e :: rest →
      e.addr.toNat / 64 = line →
      (takeMsg s .datM (.cache c) line = some (m, s1) → ∃ t, exec (.datM c line) s = .next t ∧ (t.cache c).req = none ∧
        cacheFind (t.cache c) line = some ⟨line, .m, putAt m.data (e.addr.toNat % 64) e.bytes, m.poison⟩ ∧
        (coreNewel t c).stores = rest) ∧
      (takeMsg s .cmp (.cache c) line = some (m, s1) → ∀ x, cacheFind (s.cache c) line = some x →
        ∃ t, exec (.cmp c line) s = .next t ∧ (t.cache c).req = none ∧
          cacheFind (t.cache c) line = some ⟨line, .m, putAt x.data (e.addr.toNat % 64) e.bytes, x.poison⟩ ∧
          (coreNewel t c).stores = rest)) ∧
    (∀ (s s1 : State) (c : CoreId) (line : Nat) (m : HMsg) (rd : BitVec 5) (op : AtomOp) (b d : W32) (a : W48) (va : W32),
      takeMsg s .datM (.cache c) line = some (m, s1) → m.poison = false → (s.cache c).heldSnoop = none →
      (coreNewel s c).wait = .nearAtom rd op b d a va → a.toNat / 64 = line →
      let old : W32 := BitVec.ofNat 32 (fieldAt m.data (a.toNat % 64) 4)
      ∃ t, exec (.datM c line) s = .next t ∧
        cacheFind (t.cache c) line = some ⟨line, .m, putAt m.data (a.toNat % 64) (leBytes 4 (atomNew op old b d).toNat), false⟩ ∧
        coreNewel t c = retire (regSet (predMove (coreNewel s c) a.toNat m.contended) rd old)) ∧
    (∀ (s s1 : State) (c : CoreId) (line : Nat) (m : HMsg), takeMsg s .wbAck (.cache c) line = some (m, s1) →
      ∃ t, exec (.wbAck c line) s = .next t ∧ (t.cache c).wb = none)) ∧
  (
    (∀ (s s1 : State) (line : Nat) (m : HMsg) (c : CoreId),
      (takeMsg s .ncAck (.cache c) line = some (m, s1) → ∃ t, exec (.ncAck (.cache c) line) s = .next t ∧
        (t.cache c).req = none ∧ (coreNewel t c).stores = (coreNewel s c).stores.drop 1) ∧
      (∀ rd form a va, takeMsg s .datNc (.cache c) line = some (m, s1) → m.poison = false →
        (coreNewel s c).wait = .load rd form a va → ∃ t, exec (.datNc (.cache c) line) s = .next t ∧ (t.cache c).req = none ∧
        coreNewel t c = retire (regSet (coreNewel s c) rd (formValue form
          (overStores (coreNewel s c).stores a.toNat ((m.data.drop (a.toNat % 64)).take (formBytes form)))))) ∧
      (∀ rd a va, takeMsg s .atomDone (.cache c) line = some (m, s1) → m.poison = false →
        (coreNewel s c).wait = .farAtom rd a va → ∃ t, exec (.atomDone (.cache c) line) s = .next t ∧ (t.cache c).req = none ∧
        coreNewel t c = retire (regSet (predMove (coreNewel s c) a.toNat m.contended) rd m.old))) ∧
    (∀ (s s1 : State) (line : Nat) (m : HMsg) (r : RoomId) (id : Nat),
      (takeMsg s .ncAck (.astream r id) line = some (m, s1) →
        exec (.ncAck (.astream r id) line) s = .next (answerLine s1 r id ([], false, 0))) ∧
      (takeMsg s .datNc (.astream r id) line = some (m, s1) →
        exec (.datNc (.astream r id) line) s = .next (answerLine s1 r id (m.data, m.poison, 0)))) ∧
    (∀ (s s1 : State) (line : Nat) (m : HMsg) (dev : DevAddr) (tag : W16) (w : WingId) (i : Instr) (k : MsgKind) (p : PktType),
      (i, k, p) ∈ [(Instr.ncAck (.remote dev tag w) line, MsgKind.ncAck, PktType.wrAck),
        (.datNc (.remote dev tag w) line, .datNc, .rdRsp), (.atomDone (.remote dev tag w) line, .atomDone, .atomRsp)] →
      takeMsg s k (.remote dev tag w) line = some (m, s1) →
      ∃ t pkt, exec i s = .next t ∧ t = postPacket s1 pkt ∧ pkt.typ = p ∧ pkt.dst = dev ∧ pkt.tag = tag ∧ pkt.wing = w ∧
        (p = .rdRsp → pkt.data = m.data) ∧ (p = .atomRsp → pkt.data.take 4 = leBytes 4 m.old.toNat)) ∧
    (∀ (s : State) (n : Fin 16) (reg : Fin 4) (v : W32), s.barReady 3 → regionReserved reg v = false →
      let x := regionWith (s.larder.regions.get n) reg v
      (x.en = false ∨ regionOk s x = true → exec (.regionEntryWrite n reg v) s =
        .next (s.onLarder fun l => { l with regions := vset l.regions n x })) ∧
      (x.en = true → regionOk s x = false → exec (.regionEntryWrite n reg v) s = .next (ringCond s 0 0x0704))))

/-- A MLADYX packet with segment 0 is taken as the first segment of a request of its sender, unless
its incomplete stream has come round to number 0. RD_REQ, WR_REQ and ATOM_REQ of a wing in the same
span, inside its windows and with its key, wait at the line's home pair as NC_RD, NC_WR and a far
atomic of that device and tag; out of the span they are refused with 0x0102. A PAGE_REQ for a page
of the image is queued, of a bound stream or as the first one of a committed image with a context
free; a page outside it is refused with 0x0609. A CREDIT_DRAW for a RECV queue takes the first
handle of its CREDIT_Q when the handle fits both. A MOVE writes its contents in the granted handle,
and its last part pushes the handle. (R26, R51, R115, R231, R265, R283, R286, R318, R320, R472) -/
def Obligations.RequestsFromOtherDevices : Prop :=
  (∀ (s s1 : State) (x : RxPacket), takePacket s (fun x => x.pkt.typ == .mladyx) = some (x, s1) → serverUp s = true →
    x.pkt.wing = 0 → startsStream s1 (.fabric x.pkt.src) x.pkt.seq 0 = true → exec .mladyx s = .next (takeFirst s1 (.fabric x.pkt.src) x.pkt.seq 0 false x.pkt.data
      (lastByLength 256 x.pkt.data x.pkt.data))) ∧
  (∀ (s s1 : State) (x : RxPacket) (a : Nat) (i : Instr) (p : PktType) (k : HomeKind),
    (i, p, some k) ∈ [(Instr.rdReq, PktType.rdReq, some HomeKind.ncRd),
      (.wrReq, .wrReq, some (.ncWr (bytesAt (x.pkt.data ++ List.replicate 96 0) 32 64) (BitVec.ofNat 64 (fieldAt x.pkt.data 16 8)))),
      (.atomReq, .atomReq, (atomOpOf (fieldAt x.pkt.data 2 1 % 16)).map fun op => .atom op (BitVec.ofNat 32 (fieldAt x.pkt.data 24 4))
        (BitVec.ofNat 32 (fieldAt x.pkt.data 28 4)) ⟨a / 4 % 16, Nat.mod_lt _ (by decide)⟩)] →
    takePacket s (fun x => x.pkt.typ == p) = some (x, s1) →
    (spanTest s x.pkt = true → reqAddr s x.pkt = some a → larderOpen s x.pkt.wing = true →
      exec i s = .next (postReq s1 ⟨k, a / 64, .remote x.pkt.src x.pkt.tag x.pkt.wing⟩)) ∧
    (spanTest s x.pkt = false → exec i s = .next (sendRefuse s1 x.pkt.wing x.pkt.src x.pkt.tag 0x0102))) ∧
  (∀ (s s1 : State) (x : RxPacket), takePacket s (fun x => x.pkt.typ == .pageReq) = some (x, s1) →
    x.pkt.param ≠ pageReqUnbind → spanTest s x.pkt = true → fieldAt x.pkt.data 0 4 < 32 → fieldAt x.pkt.data 8 4 < 64 →
    fieldAt x.pkt.data 4 4 < 4 * (s.image x.pkt.wing ⟨fieldAt x.pkt.data 0 4 % 32, Nat.mod_lt _ (by decide)⟩).quarterPages.toNat →
    let n : Fin 64 := ⟨fieldAt x.pkt.data 8 4 % 64, Nat.mod_lt _ (by decide)⟩
    let img : Fin 32 := ⟨fieldAt x.pkt.data 0 4 % 32, Nat.mod_lt _ (by decide)⟩
    (remoteCtx s1 x.pkt n).isSome = true ∨ ((s.image x.pkt.wing img).st = .committed ∧
      ∃ k, (s.cellar.remote.get k).used = false) →
    ∃ t, exec .pageReq s = .next t ∧ t.cellar.pageReqs = s.cellar.pageReqs ++ [⟨x.pkt.wing, x.pkt.src, n, img,
      fieldAt x.pkt.data 4 4, fieldAt x.pkt.data 12 4, x.pkt.tag⟩]) ∧
  (∀ (s s1 : State) (x : RxPacket), takePacket s (fun x => x.pkt.typ == .pageReq) = some (x, s1) →
    x.pkt.param ≠ pageReqUnbind → spanTest s x.pkt = true →
    let n : Fin 64 := ⟨fieldAt x.pkt.data 8 4 % 64, Nat.mod_lt _ (by decide)⟩
    let img : Fin 32 := ⟨fieldAt x.pkt.data 0 4 % 32, Nat.mod_lt _ (by decide)⟩
    (remoteCtx s1 x.pkt n).isSome = true → 4 * (s.image x.pkt.wing img).quarterPages.toNat ≤ fieldAt x.pkt.data 4 4 →
    exec .pageReq s = .next (sendRefuse s1 x.pkt.wing x.pkt.src x.pkt.tag 0x0609)) ∧
  (∀ (s s1 : State) (x : RxPacket) (hc : W32) (rest : List W32),
    takePacket s (fun x => x.pkt.typ == .creditDraw && drawReady s x.pkt) = some (x, s1) → spanTest s x.pkt = true →
    roomOwner s (drawRoom x.pkt) = x.pkt.wing →
    let y := s.room (drawRoom x.pkt)
    let d := y.hqs.get (drawQueue x.pkt)
    d.kind = .receive → (y.hqs.get d.auxQ).kind = .local → (y.hqs.get d.auxQ).handles = hc :: rest →
    handleOk y (drawRoom x.pkt) d.auxQ hc = true → handleOk y (drawRoom x.pkt) (drawQueue x.pkt) hc = true →
    ∃ t p, exec .creditDraw s = .next t ∧ t = postPacket (s1.onRoom (drawRoom x.pkt) fun y => hqDrop y d.auxQ) p ∧
      p.typ = .creditGrant ∧ p.dst = x.pkt.src ∧ p.tag = x.pkt.tag ∧ p.data = leBytes 4 hc.toNat ∧
      ((t.room (drawRoom x.pkt)).hqs.get d.auxQ).handles = rest) ∧
  (∀ (s s1 : State) (x : RxPacket) (r : RoomId),
    takePacket s (fun x => x.pkt.typ == .move && moveReady s x.pkt) = some (x, s1) → handleRoom (moveHandle x.pkt) = r.1 →
    spanTest s x.pkt = true → roomOwner s r = x.pkt.wing → handleOk (s.room r) r (moveQueue x.pkt) (moveHandle x.pkt) = true →
    ∃ t, exec .move s = .next t ∧ (x.pkt.param % 2 = 0 →
        t = s1.onRoom r fun y => handleWrite y (moveHandle x.pkt) (64 * x.pkt.tag.toNat) x.pkt.data) ∧
      (x.pkt.param % 2 = 1 → (t.room r).pantry = (handleWrite (s.room r) (moveHandle x.pkt) (64 * x.pkt.tag.toNat) x.pkt.data).pantry ∧
        (((s.room r).hqs.get (moveQueue x.pkt)).kind ≠ .off → ((s.room r).hqs.get (moveQueue x.pkt)).handles.length < 32 →
          ((t.room r).hqs.get (moveQueue x.pkt)).handles = ((s.room r).hqs.get (moveQueue x.pkt)).handles ++ [moveHandle x.pkt])))

/-- An answer closes the request with its tag and device. RD_RSP ends a Newel's waiting remote load
with the bytes of the line at the address; WR_ACK ends one remote store; ATOM_RSP gives the
register the old word and moves the predictor; PAGE_DATA is gathered until the page is whole;
CREDIT_GRANT starts the move with the granted handle. REFUSE and a timeout end a remote load in an
access trap with the condition (0x0B04 for a timeout), and halt the Room of an A-stream line.
RD_RSP, WR_ACK, ATOM_RSP or PAGE_DATA with no request is counted as late. (R231, R285, R286, R289,
R318, R320, R340, R465, R471) -/
def Obligations.AnswersOfOtherDevices : Prop :=
  (∀ (s s1 : State) (p : Packet) (q : OutReq) (c : CoreId) (va : W32), q.by_ = .newel c va →
    (∀ rd form a v, takeAnswer s .rdRsp (· == .rdReq) = some (p, some q, s1) → p.poison = false →
      (coreNewel s1 c).wait = .load rd form a v → a.getLsbD 47 = true → ∃ t, exec .rdRsp s = .next t ∧
        coreNewel t c = retire (regSet (coreNewel s1 c) rd (formValue form
          (overStores (coreNewel s1 c).stores a.toNat ((p.data.drop (a.toNat % 64)).take (formBytes form)))))) ∧
    (takeAnswer s .wrAck (· == .wrReq) = some (p, some q, s1) → ∃ t, exec .wrAck s = .next t ∧
      (coreNewel t c).remoteOut = (coreNewel s1 c).remoteOut - 1) ∧
    (∀ rd a v, takeAnswer s .atomRsp (· == .atomReq) = some (p, some q, s1) → p.poison = false →
      (coreNewel s1 c).wait = .farAtom rd a v → a.getLsbD 47 = true → ∃ t, exec .atomRsp s = .next t ∧
        regGet (coreNewel t c) rd = (if rd = 0 then 0 else BitVec.ofNat 32 (fieldAt p.data 0 4)) ∧
        (coreNewel t c).wait = .ready ∧ (coreNewel t c).remoteOut = (coreNewel s1 c).remoteOut - 1) ∧
    (∀ rd form a v, takeAnswer s .refuse (fun _ => true) = some (p, some q, s1) → q.typ = .rdReq →
      (coreNewel s1 c).wait = .load rd form a v → a.getLsbD 47 = true →
      exec .refuse s = .next (trapHere (onCore s1 c fun n => { n with wait := .ready }) c
        (if BitVec.ofNat 16 p.param = (0x0703 : Cond) then 5 else 4) v (BitVec.ofNat 16 p.param)))) ∧
  (∀ (s s1 : State) (p : Packet) (q : OutReq) (r : RoomId) (id : Nat) (l : LineXfer),
    takeAnswer s .refuse (fun _ => true) = some (p, some q, s1) → q.by_ = .aLine r id →
    ((s1.room r).astream.lines.find? fun l => decide (l.id = id / 2)) = some l → ∃ t, exec .refuse s = .next t ∧
      (t.room r).st = .halted ∧ (t.room r).lastCond = BitVec.ofNat 16 p.param) ∧
  (∀ (s s1 : State) (x : RxPacket) (i : Instr) (p q : PktType), (i, p, q) ∈ [(Instr.rdRsp, PktType.rdRsp, PktType.rdReq),
      (.wrAck, .wrAck, .wrReq), (.atomRsp, .atomRsp, .atomReq), (.pageData, .pageData, .pageReq)] →
    takePacket s (fun x => x.pkt.typ == p) = some (x, s1) → findReq s1 x.pkt (· == q) = none →
    exec i s = .next (s1.onDoor x.door fun y => { y with late := satAdd y.late 1 })) ∧
  (∀ (s s1 : State) (p : Packet) (q : OutReq) (n : Fin 64) (ix : Nat),
    takeAnswer s .pageData (· == .pageReq) = some (p, some q, s1) → q.by_ = .stream n ix →
    ((q.got ++ p.data).length < 16384 → ∃ t, exec .pageData s = .next t ∧
      t.fabric.reqs = s1.fabric.reqs ++ [{ q with got := q.got ++ p.data }]) ∧
    (16384 ≤ (q.got ++ p.data).length → ∀ g, ((s1.cellar.streams.get n).flight.find? fun g => g.index == ix) = some g →
      exec .pageData s = .next (landPage s1 n g (q.got ++ p.data)))) ∧
  (∀ (s s1 : State) (x : RxPacket) (q : OutReq) (r : RoomId) (k : Fin 32) (hp : W32) (rest : List W32),
    takePacket s (fun x => x.pkt.typ == .creditGrant && grantReady s x.pkt) = some (x, s1) →
    findReq s1 x.pkt (· == .creditDraw) = some q → q.by_ = .link r k → ((s.room r).hqs.get k).handles = hp :: rest →
    handleSize hp ≤ handleSize (BitVec.ofNat 32 x.pkt.param) → ∃ t, exec .creditGrant s = .next t ∧
      ((t.room r).hqs.get k).handles = rest ∧ ((t.room r).hqs.get k).draw = none ∧
      ∃ m, ((t.room r).hqs.get k).flight = ((s.room r).hqs.get k).flight ++ [m] ∧ m.hp = hp ∧
        m.hc = BitVec.ofNat 32 x.pkt.param) ∧
  (∀ (s : State) (tag : W16) (q : OutReq), (s.fabric.reqs.find? fun q => q.tag == tag) = some q →
    (∀ r id l, q.by_ = .aLine r id → ((s.room r).astream.lines.find? fun l => decide (l.id = id / 2)) = some l →
      ∃ t, exec (.reqTimeout tag) s = .next t ∧ (t.room r).st = .halted ∧ (t.room r).lastCond = 0x0B04 ∧
        (t.room r).faultAddr = BitVec.ofNat 32 l.pc) ∧
    (∀ c va rd form a v, q.by_ = .newel c va → q.typ = .rdReq → (coreNewel s c).wait = .load rd form a v → a.getLsbD 47 = true →
      exec (.reqTimeout tag) s = .next (trapHere (onCore (dropReq s q) c fun n => { n with wait := .ready }) c 4 v 0x0B04)))

/-- A claim of a free range within the Pantry that meets no held range gives it to the task and the
Room's wing; its task's release frees it; both clear ROOM_PR_RESULT, and a claim that meets a held
range leaves 0x0803 there. ROOM_TASK with both streams stopped and a range held by the task sets
the window. A handle queue without handles and moves, OFF or of the same task, takes its
configuration. A gang of IDLE Rooms of one wing is taken. With scope 1 granted a peek reads the
slot and its tag, and a force writes them. (R307, R308, R309, R310, R315, R325, R330, R331) -/
def Obligations.RoomConfiguration : Prop :=
  (∀ (s : State) (r : RoomId) (g : Fin 16) (task : BitVec 4) (base len : BitVec 11), s.barReady (storeyDomain r) →
    let x := s.room r
    ((x.ranges.get g).held = false → (∀ p ∈ x.ranges.toList, groupsMeet p base.toNat (len.toNat + 1) = false) →
      base.toNat + len.toNat + 1 ≤ 2048 → exec (.pantryRangeClaim r g task base len) s = .next (s.onRoom r fun x =>
        { x with prResult := 0, ranges := vset x.ranges g ⟨true, roomOwner s r, task, base, len⟩ })) ∧
    (∀ p ∈ x.ranges.toList, groupsMeet p base.toNat (len.toNat + 1) = true →
      exec (.pantryRangeClaim r g task base len) s = .next (s.onRoom r fun x => { x with prResult := 0x0803 })) ∧
    ((x.ranges.get g).held = true → (x.ranges.get g).task = task → ∃ t, exec (.pantryRangeRelease r g task) s = .next t ∧
      (t.room r).ranges = vset x.ranges g PRange.init ∧ (t.room r).prResult = 0 ∧
      (x.taskRange.toNat = g.1 → (t.room r).winLen = 0)) ∧
    ((x.ranges.get g).held = true → (x.ranges.get g).task = task → x.astream.strm.running = false → x.xstream.running = false →
      exec (.roomTaskWrite r task (BitVec.ofNat 4 g.1)) s = .next (s.onRoom r fun x =>
        { x with prResult := 0, task := task, taskRange := BitVec.ofNat 4 g.1, winBase := (x.ranges.get g).base,
                 winLen := BitVec.ofNat 12 ((x.ranges.get g).lenM1.toNat + 1) }))) ∧
  (∀ (s : State) (r : RoomId) (q : Fin 32) (kind : HqKind) (task : BitVec 4) (room : RoomId) (dq aq : Fin 32),
    s.barReady (storeyDomain r) → let k := (s.room r).hqs.get q
    k.handles = [] → k.flight = [] → k.draw = none → moveInto s r q = false →
    kind = .off ∨ k.kind = .off ∨ k.task = task →
    exec (.hqConfigWrite r q kind task room dq aq) s = .next (s.onRoom r fun x =>
      { x with prResult := 0,
               hqs := vset x.hqs q { k with kind := kind, task := task, destRoom := room, destQ := dq, auxQ := aq } })) ∧
  (∀ (s : State) (i : StoreyId) (gang : Byte) (lock : BitVec 4), s.barReady (7 + i.1) →
    (∀ r ∈ gangRooms i gang lock, (s.room r).st = .idle) →
    (∀ r ∈ gangRooms i gang lock, ∀ q ∈ gangRooms i gang lock, roomOwner s r = roomOwner s q) →
    exec (.roomGangWrite i gang lock) s = .next (s.onStorey i fun x => { x with gang := gang, lockstep := lock })) ∧
  (∀ (s : State) (r : RoomId) (slot : BitVec 14) (tag : Bool), s.barReady (storeyDomain r) →
    peekAllowed s r = true →
    (∃ t, exec (.pantryPeek r slot tag) s = .next t ∧ (t.room r).peekData = slotRead (s.room r) slot.toNat ∧
      (t.room r).peekTagRead = tagFull (s.room r) slot.toNat ∧ (t.room r).peekDone = true ∧
      (t.room r).pantry = (s.room r).pantry) ∧
    (∃ t, exec (.pantryForce r slot tag) s = .next t ∧ tagFull (t.room r) slot.toNat = tag ∧ (t.room r).peekDone = true ∧
      (Memory.wf (s.room r).pantry = true → (s.room r).peekData.length = 64 →
        slotRead (t.room r) slot.toNat = (s.room r).peekData)))

/-- A SEND queue whose head handle is good, toward a RECV queue of a Room of the same wing with a
good credit at least as large, takes both handles out and starts the move; the oldest move done in
the device, toward a Room not quarantined, writes the slots of its handle into those of the credit
with full tags, and gives the credit to DEST_Q and the handle back to RETURN_Q. A wait at the wait
limit halts a running Room with 0x0806; a running Room whose three agents are stalled becomes
WATCHED with 0x0810, and when two such Rooms of a Storey wait for handles every such Room of it
does with 0x0811. IDLE returns a HALTED or WATCHED Room to IDLE. (R179, R318, R319, R322, R326,
R327, R328) -/
def Obligations.LinksAndWatches : Prop :=
  (∀ (s : State) (r : RoomId) (q : Fin 32) (hp hc : W32) (rest cs : List W32),
    let x := s.room r
    let k := x.hqs.get q
    let y := s.room k.destRoom
    let cq := (y.hqs.get k.destQ).auxQ
    k.kind = .send → k.handles = hp :: rest → moveOpen x = true → k.flight.length < 4 → lastStepWaits s r k = false →
    k.dev = s.fabric.devAddr → roomOwner s k.destRoom = roomOwner s r → moveOpen y = true → linkConfigured s r k = true →
    (y.hqs.get cq).handles = hc :: cs → handleOk x r q hp = true → handleOk x r k.auxQ hp = true →
    handleOk y k.destRoom cq hc = true → handleOk y k.destRoom k.destQ hc = true → handleSize hp ≤ handleSize hc →
    r ≠ k.destRoom → ∃ t, exec (.linkMoveStart r q) s = .next t ∧ ((t.room r).hqs.get q).handles = rest ∧
      ((t.room k.destRoom).hqs.get cq).handles = cs ∧ (t.room r).pantry = x.pantry ∧
      ((t.room r).hqs.get q).flight = k.flight ++ [⟨hp, hc, k.destRoom, k.destQ, k.auxQ, none⟩]) ∧
  (∀ (s : State) (r : RoomId) (q : Fin 32) (m : LinkMove) (rest : List LinkMove),
    ((s.room r).hqs.get q).flight = m :: rest → m.remote = none → r ≠ m.destRoom → m.returnQ ≠ q →
    (s.room m.destRoom).st ≠ .quarantined →
    ((s.room r).hqs.get m.returnQ).handles.length < 32 → ((s.room m.destRoom).hqs.get m.destQ).handles.length < 32 →
    ((s.room r).hqs.get m.returnQ).kind ≠ .off → ((s.room m.destRoom).hqs.get m.destQ).kind ≠ .off →
    ∃ t, exec (.linkMoveDone r q) s = .next t ∧ ((t.room r).hqs.get q).flight = rest ∧
      ((t.room r).hqs.get m.returnQ).handles = ((s.room r).hqs.get m.returnQ).handles ++ [m.hp] ∧
      ((t.room m.destRoom).hqs.get m.destQ).handles = ((s.room m.destRoom).hqs.get m.destQ).handles ++ [m.hc] ∧
      (Memory.wf (s.room m.destRoom).pantry = true →
        zread (t.room m.destRoom).pantry (64 * handleStart m.hc) (64 * handleSlots m.hp) = handleRead (s.room r) m.hp) ∧
      (∀ i < handleSlots m.hp, tagFull (t.room m.destRoom) (handleStart m.hc + i) = true ∧
        tagFull (t.room r) (handleStart m.hp + i) = false)) ∧
  (∀ (s : State) (r : RoomId), roomGoes s r = true →
    ((s.room r).waitLimit ≠ 0 → limited (newelReason (s.room r)) = true → ∃ t, exec (.waitLimitExpiry r 0) s = .next t ∧
      (t.room r).st = .halted ∧ (t.room r).lastCond = 0x0806 ∧ (t.room r).faultAddr = (s.room r).newel.pc) ∧
    (agentsStalled (s.room r) = true → ∃ t, exec (.stallWatchFire r) s = .next t ∧ (t.room r).st = .watched ∧
      (t.room r).lastCond = 0x0810)) ∧
  (∀ (s : State) (i : StoreyId) (a b : RoomId), a ≠ b →
    (∀ r ∈ [a, b], r ∈ roomsOf i ∧ roomGoes s r = true ∧ agentsStalled (s.room r) = true ∧ showsHandle (s.room r) = true) →
    ∃ t, exec (.storeyWatchFire i) s = .next t ∧ ∀ r ∈ roomsOf i, roomGoes s r = true → agentsStalled (s.room r) = true →
      showsHandle (s.room r) = true → (t.room r).st = .watched ∧ (t.room r).lastCond = 0x0811) ∧
  (∀ (s : State) (r : RoomId), s.barReady (storeyDomain r) → (s.room r).st = .halted ∨ (s.room r).st = .watched →
    ∃ t, exec (.roomIdle r) s = .next t ∧ (t.room r).st = .idle ∧ (t.room r).astream.strm.running = false ∧
      (t.room r).xstream.running = false ∧ (t.room r).newel.wait = .ended)

/-- A read slot of a running stack with a free tag, owned by a wing without timing isolation that
has streams eligible, issues the next page of the one with the smallest time to dry: its handle
leaves FREE_Q, the page is in flight and a tag is used. A stream page read without error lands in
its handle's slots with the image's plaintext and full tags, and when it is next in order its
handle enters FULL_Q. A read with errors is repeated at the next of five steps, and after the fifth
rebuilt from seven companion pages when no other die is lost. The end of a rebuild marks its block
suspect, and again for retirement. A die that misses three commands in a row is lost. RATE moves an
eighth of the way to the measured rate. (R216, R218, R226, R227, R228, R229, R230, R241, R250,
R251, R254) -/
def Obligations.CellarSlotsAndReads : Prop :=
  (∀ (s : State) (i : StoreyId) (w : WingId) (n : Fin 64) (b pos : Nat) (h : W32) (hs : List W32),
    cellarRuns s i = true → slotClass (s.stack i).slot = .read → (slotOwner s i).1 = w → (s.wing w).isolated = false →
    smallestTtd s (eligible s i (· == w)) = some n → streamPage s i n = some (b, pos) → (s.stack i).tagsUsed < 1024 →
    (∀ m, (s.cellar.streams.get m).remote = false) →
    let x := s.cellar.streams.get n
    ((s.room x.room).hqs.get (queueOf x.freeQ)).handles = h :: hs → pageHandleOk s n h = true →
    ∃ t, exec (.cellarSlot i) s = .next t ∧ (t.cellar.streams.get n).issued = x.issued + 1 ∧
      (t.cellar.streams.get n).flight = x.flight ++ [⟨x.issued.toNat, x.pageAt x.issued.toNat, h, some b, 0, false⟩] ∧
      ((t.room x.room).hqs.get (queueOf x.freeQ)).handles = hs ∧ (t.stack i).tagsUsed = (s.stack i).tagsUsed + 1 ∧
      (t.stack i).slot = (s.stack i).slot + 1) ∧
  (∀ (s : State) (i : StoreyId) (n : Fin 64) (ix : Nat) (a : ReadAt) (p : FlightPage), cellarRuns s i = true →
    findRead s i (.stream n ix) = some a → flightPage s i n ix = some p → a.rebuilding = false →
    (s.stack i).lostDies.contains (dieOf a.pos) = false →
    let x := s.cellar.streams.get n
    keyFilled s (cellarSlot x.wing) = true → s.larder.refuseAll = false → x.unbinding = false → x.st ≠ .faulted →
    let data := (s.image x.wing x.image).pageData p.page
    data.length = 16384 → Memory.wf (s.room x.room).pantry = true →
    ∃ t, exec (.pageReadDone i (.stream n ix) true) s = .next t ∧
      zread (t.room x.room).pantry (64 * handleStart p.handle) 16384 = data ∧
      (∀ k < 256, tagFull (t.room x.room) (handleStart p.handle + k) = true) ∧
      (x.landed = [] → p.index = x.delivered.toNat → x.total ≠ x.delivered.toNat + 1 →
        ((s.room x.room).hqs.get (queueOf x.fullQ)).kind ≠ .off →
        ((s.room x.room).hqs.get (queueOf x.fullQ)).handles.length < 32 →
        ((t.room x.room).hqs.get (queueOf x.fullQ)).handles =
          ((s.room x.room).hqs.get (queueOf x.fullQ)).handles ++ [p.handle] ∧
        (t.cellar.streams.get n).delivered = x.delivered + 1)) ∧
  (∀ (s : State) (i : StoreyId) (b pos : Nat) (a : ReadAt), cellarRuns s i = true →
    findRead s i (.work b pos) = some a → a.rebuilding = false → (s.stack i).lostDies.contains (dieOf a.pos) = false →
    (a.step < 5 → ∃ t, exec (.pageReadDone i (.work b pos) false) s = .next t ∧
      findRead t i (.work b pos) = some { a with step := a.step + 1 } ∧
      ((t.stack i).block b).reads = satAdd ((s.stack i).block b).reads 1) ∧
    (a.step = 5 → canRebuild (s.stack i) (dieOf a.pos) = true → ∃ t, exec (.pageReadDone i (.work b pos) false) s = .next t ∧
      findRead t i (.work b pos) = some { a with rebuilding := true } ∧
      ((t.stack i).block b).reads = satAdd ((s.stack i).block b).reads 7)) ∧
  (∀ (s : State) (i : StoreyId) (b pos : Nat) (a : ReadAt) (ok : Bool), cellarRuns s i = true →
    findRead s i (.work b pos) = some a → a.rebuilding = true → (s.stack i).lostDies.contains (dieOf a.pos) = false →
    ∃ t, exec (.reconstructionDone i (.work b pos) ok) s = .next t ∧ ((t.stack i).block a.block).suspect = true ∧
      ((t.stack i).block a.block).retireAfter =
        (((s.stack i).block a.block).retireAfter || ((s.stack i).block a.block).suspect)) ∧
  (∀ (s : State) (i : StoreyId) (d : Fin 9), cellarRuns s i = true → ∃ t, exec (.dieCommandTimeout i d) s = .next t ∧
    (t.stack i).dieMisses.get d = (s.stack i).dieMisses.get d + 1 ∧
    (2 ≤ (s.stack i).dieMisses.get d → d ∈ (t.stack i).lostDies ∧
      ((s.stack i).lostDies = [] → (t.stack i).st = .degraded ∧ (t.stack i).failedDie = BitVec.ofNat 8 d.1))) ∧
  (∀ (s : State), s.sys.clkRunning.getLsbD 6 = true → ∃ t, exec .rateUpdate s = .next t ∧
    ∀ n : Fin 64, let x := s.cellar.streams.get n
      x.st ≠ .free → (t.cellar.streams.get n).rate = ((x.rate : Int) + Int.tdiv (125 * (x.popped : Int) - (x.rate : Int)) 8).toNat ∧
        (t.cellar.streams.get n).popped = 0)

/-- A page programmed for a load joins the pages of its image, and its bit joins the block's
programmed pages; a relocation's page programmed sets its bit. A relocation that can start takes
the first queued block and the least worn erased one, the most worn for wear levelling, and starts
with every programmed page still to copy. A snapshot is written in the copy that its number names,
with the next number and every block's read count kept. A block to be erased with no read in flight
and its image's change recorded starts its erase, and its end returns it to the pool with one more
cycle, unless it failed, was to be retired or had reached 10,000 before. A scrub pass starts when
its period has passed, or when the host asks while none runs. (R221, R240, R241, R243, R246, R248,
R252, R253, R257, R261) -/
def Obligations.CellarProgramsAndUpkeep : Prop :=
  (∀ (s : State) (i : StoreyId) (b pos : Nat) (g : ProgWork),
    ((s.stack i).progs.find? fun g => g.block == b && g.pos == pos) = some g →
    (∀ w serial, g.job = some (w, serial) → ∃ t, exec (.pageProgramDone i b pos true) s = .next t ∧
      (g.page, g.data) ∈ (t.image w g.image.2).pages ∧ (pos < 1536 → ((t.stack i).block b).programmed.getLsbD pos = true)) ∧
    (g.job = none → (s.stack i).reloc.isSome = true → pos < 1536 → ∃ t, exec (.pageProgramDone i b pos true) s = .next t ∧
      ((t.stack i).block b).programmed.getLsbD pos = true)) ∧
  (∀ (s : State) (i : StoreyId) (q : Nat × RelocCause) (x : Nat), cellarRuns s i = true → (s.stack i).st ≠ .failed →
    (s.stack i).reloc = none → nextReloc (s.stack i) = some q →
    (if q.2 = .wear then mostWorn s (s.stack i) else leastWorn s (s.stack i)) = some x →
    let left := (List.range 1536).filter fun p => ((s.stack i).block q.1).programmed.getLsbD p
    ∃ t, exec (.relocationStart i) s = .next t ∧
      (t.stack i).reloc = some ⟨q.1, x, q.2, left, [], left.isEmpty⟩ ∧ ((t.stack i).block x).st = .isOpen ∧
      ((t.stack i).block x).owner = ((s.stack i).block q.1).owner) ∧
  (∀ (s : State) (i : StoreyId), cellarRuns s i = true → (s.stack i).snapPending = true →
    let seq : W32 := (match newestMap (s.stack i) with | some m => m.seq | none => 0) + 1
    ∃ t, exec (.mapSnapshotDone i) s = .next t ∧ (t.stack i).snapPending = false ∧
      ((t.stack i).maps.get ⟨seq.toNat % 2, Nat.mod_lt _ (by decide)⟩).seq = seq ∧
      ((t.stack i).maps.get ⟨seq.toNat % 2, Nat.mod_lt _ (by decide)⟩).crcOk = true ∧
      ((s.stack i).reloc = none → (t.stack i).blocks = (s.stack i).blocks.map fun b => (b.1, { b.2 with readsKept := b.2.reads }))) ∧
  (∀ (s : State) (i : StoreyId) (b : Nat), cellarRuns s i = true → let x := (s.stack i).block b
    (x.st = .toErase → x.inflight = 0 → x.erasing = false →
      (∀ o, x.owner = some o → (s.image o.1 o.2.1).snaps.getLsbD i.1 = false) →
      exec (.blockEraseStart i b) s = .next (s.onStack i fun k => k.setBlock b fun x => { x with erasing := true })) ∧
    (x.erasing = true → x.retireAfter = false → x.pe.toNat < 10000 → ∃ t, exec (.blockEraseDone i b true) s = .next t ∧
      (t.stack i).block b = { Block.fresh with pe := x.pe + 1 }) ∧
    (x.erasing = true → ∃ t, exec (.blockEraseDone i b false) s = .next t ∧ ((t.stack i).block b).st = .retired)) ∧
  (∀ (s : State) (i : StoreyId), cellarRuns s i = true → (s.stack i).scrubActive = false →
    ((s.stack i).lastPass + (s.stack i).periodH.toNat * 3600000000 ≤ poweredUs s (s.stack i) →
      ∃ t, exec (.scrubPassStart i) s = .next t ∧ (t.stack i).scrubActive = true ∧ (t.stack i).nextBlock = 0) ∧
    (s.barReady 6 → ∃ t, exec (.scrubNow i) s = .next t ∧ (t.stack i).scrubActive = true ∧ (t.stack i).nextBlock = 0))

/-- Where the instruction at a core's PC is the row's, each register form writes rd with its
function of rs1 and rs2, each immediate form with its function of rs1 and IMM, LUI with IMM in the
upper half, and execution goes on at the next word. The divisions do so where rs2 is not 0; where
it is, the trap DIVZERO (cause 6, NWL_TVAL 0) is taken. In a state so reached every register number
below 30 other than rd reads as before, as do the Newel's status registers, store buffer, predictor
and memories. (R335, R347, R356, R357) -/
def Obligations.NewelArithmetic : Prop :=
  (∀ p ∈ ([(Instr.add, NOp.add, fun x y => x + y), (Instr.sub, NOp.sub, fun x y => x - y), (Instr.and, NOp.and, fun x y => x &&& y),
      (Instr.or, NOp.or, fun x y => x ||| y), (Instr.xor, NOp.xor, fun x y => x ^^^ y),
      (Instr.sll, NOp.sll, fun x y => x <<< (y.toNat % 32)), (Instr.srl, NOp.srl, fun x y => x >>> (y.toNat % 32)),
      (Instr.sra, NOp.sra, fun x y => x.sshiftRight (y.toNat % 32)),
      (Instr.slt, NOp.slt, fun x y => if x.toInt < y.toInt then 1 else 0),
      (Instr.sltu, NOp.sltu, fun x y => if x.toNat < y.toNat then 1 else 0), (Instr.mul, NOp.mul, fun x y => x * y),
      (Instr.mulh, NOp.mulh, fun x y => ((x.signExtend 64 * y.signExtend 64) >>> 32).setWidth 32),
      (Instr.mulhu, NOp.mulhu, fun x y => ((x.setWidth 64 * y.setWidth 64) >>> 32).setWidth 32)] :
      List ((CoreId → Instr) × NOp × (W32 → W32 → W32))),
    ∀ (s : State) (c : CoreId) (w : W32), s.atWord c p.2.1 w →
      exec (p.1 c) s = .next (s.retires c fun n => regSet n (nRd w) (p.2.2 (s.reg c (nRs1 w)) (s.reg c (nRs2 w))))) ∧
  (∀ p ∈ ([(Instr.div, NOp.div, fun x y => x.sdiv y), (Instr.divu, NOp.divu, fun x y => x / y),
      (Instr.rem, NOp.rem, fun x y => x.srem y), (Instr.remu, NOp.remu, fun x y => x % y)] :
      List ((CoreId → Instr) × NOp × (W32 → W32 → W32))),
    ∀ (s : State) (c : CoreId) (w : W32), s.atWord c p.2.1 w →
      exec (p.1 c) s = .next (if s.reg c (nRs2 w) = 0 then trapHere s c 6 0 0
        else s.retires c fun n => regSet n (nRd w) (p.2.2 (s.reg c (nRs1 w)) (s.reg c (nRs2 w))))) ∧
  (∀ p ∈ ([(Instr.addi, NOp.addi, fun x i => x + i.signExtend 32), (Instr.andi, NOp.andi, fun x i => x &&& i.setWidth 32),
      (Instr.ori, NOp.ori, fun x i => x ||| i.setWidth 32), (Instr.xori, NOp.xori, fun x i => x ^^^ i.setWidth 32),
      (Instr.slli, NOp.slli, fun x i => x <<< (i.toNat % 32)), (Instr.srli, NOp.srli, fun x i => x >>> (i.toNat % 32)),
      (Instr.srai, NOp.srai, fun x i => x.sshiftRight (i.toNat % 32)),
      (Instr.slti, NOp.slti, fun x i => if x.toInt < i.toInt then 1 else 0),
      (Instr.sltiu, NOp.sltiu, fun x i => if x.toNat < (i.signExtend 32).toNat then 1 else 0),
      (Instr.lui, NOp.lui, fun _ i => i ++ (0 : W16))] : List ((CoreId → Instr) × NOp × (W32 → W16 → W32))),
    ∀ (s : State) (c : CoreId) (w : W32), s.atWord c p.2.1 w →
      exec (p.1 c) s = .next (s.retires c fun n => regSet n (nRd w) (p.2.2 (s.reg c (nRs1 w)) (nImm w)))) ∧
  (∀ (s : State) (c : CoreId) (rd : BitVec 5) (v : W32),
    let t := s.retires c fun n => regSet n rd v
    t.reg c rd = (if rd = 0 ∨ 30 ≤ rd.toNat then 0 else v) ∧ (∀ k : BitVec 5, k ≠ rd → t.reg c k = s.reg c k) ∧
      coreNewel t c = { coreNewel s c with
        globals := (coreNewel t c).globals, outs := (coreNewel t c).outs, locals := (coreNewel t c).locals,
        shadow := (coreNewel t c).shadow, pc := (coreNewel s c).pc + 4, retired := (coreNewel s c).retired + 1, wait := .ready,
        skipBreak := false, fetchBuf := (filledBuf s c).drop 1 } ∧
      (∀ d, d ≠ c → coreNewel t d = coreNewel s d) ∧ t.larder = s.larder ∧ t.pending = s.pending)

/-- With A = rs1 + IMM and n the bytes of the form: where A is no multiple of n the instruction
takes the misalignment trap; where A names nothing it may reach, the access trap with that
condition. Of aligned data memory a load writes rd with the n bytes there, extended as the form
says, and a store replaces those n bytes and no other; a load of a cached WB line of the Larder
with no store waiting writes rd from the line, and one of a line that is not cached asks for it and
waits; a store to a device address enters the store buffer. The oldest buffered store of a line
held in E or M is merged into it. (R265, R275, R287, R339, R341, R347, R356) -/
def Obligations.NewelLoadsAndStores : Prop :=
  (∀ p ∈ ([((fun c => Instr.ldw c .none), NOp.ldw, LoadForm.word), (Instr.ldh, NOp.ldh, LoadForm.half),
      (Instr.ldhu, NOp.ldhu, LoadForm.halfU), (Instr.ldb, NOp.ldb, LoadForm.byte), (Instr.ldbu, NOp.ldbu, LoadForm.byteU)] :
      List ((CoreId → Instr) × NOp × LoadForm)),
    ∀ (s : State) (c : CoreId) (w : W32), s.atWord c p.2.1 w →
      let a := s.reg c (nRs1 w) + (nImm w).signExtend 32
      let n := formBytes p.2.2
      (a.toNat % n ≠ 0 → exec (p.1 c) s = .next (trapHere s c 3 a 0)) ∧
      (a.toNat % n = 0 → a.toNat + n ≤ dmemSize c →
        exec (p.1 c) s = .next (s.retires c fun m => regSet m (nRd w) (formValue p.2.2 (zread m.dmem a.toNat n)))) ∧
      (∀ k, a.toNat % n = 0 → coreTarget s c false a.toNat n = .bad k → exec (p.1 c) s = .next (trapHere s c 4 a k)) ∧
      (∀ d la, a.toNat % n = 0 → coreTarget s c false a.toNat n = .dev d (.larder la) → isUncached s la = false →
        (coreNewel s c).stores = [] →
        (∀ x, cacheFind (s.cache c) (la / 64) = some x → x.poison = false →
          exec (p.1 c) s = .next ((s.onCache c fun q => cachePut q x).retires c fun m =>
            regSet m (nRd w) (formValue p.2.2 ((x.data.drop (la % 64)).take n)))) ∧
        (∀ t, cacheFind (s.cache c) (la / 64) = none → cacheRequest (fetched s c) c .getS (la / 64) = some t →
          exec (p.1 c) s = .next (onCore t c fun m => { m with wait := .load (nRd w) p.2.2 (BitVec.ofNat 48 la) a })))) ∧
  (∀ p ∈ ([(Instr.stw, NOp.stw, 4), (Instr.sth, NOp.sth, 2), (Instr.stb, NOp.stb, 1)] : List ((CoreId → Instr) × NOp × Nat)),
    ∀ (s : State) (c : CoreId) (w : W32), s.atWord c p.2.1 w →
      let a := s.reg c (nRs1 w) + (nImm w).signExtend 32
      let bs := leBytes p.2.2 (s.reg c (nRd w)).toNat
      (a.toNat % p.2.2 ≠ 0 → exec (p.1 c) s = .next (trapHere s c 3 a 0)) ∧
      (a.toNat % p.2.2 = 0 → a.toNat + p.2.2 ≤ dmemSize c →
        exec (p.1 c) s = .next (s.retires c fun m => { m with dmem := zwrite m.dmem a.toNat bs })) ∧
      (∀ k, a.toNat % p.2.2 = 0 → coreTarget s c true a.toNat p.2.2 = .bad k → exec (p.1 c) s = .next (trapHere s c 4 a k)) ∧
      (∀ d t, a.toNat % p.2.2 = 0 → coreTarget s c true a.toNat p.2.2 = .dev d t → targetUp s t = true →
        (coreNewel s c).stores.length < 4 →
        exec (p.1 c) s = .next (s.retires c fun m =>
          { m with stores := m.stores ++ [{ addr := BitVec.ofNat 48 d, va := a, bytes := bs }] }))) ∧
  (∀ (s : State) (c : CoreId) (e : StoreEntry) (rest : List StoreEntry) (la : Nat) (x : CacheLine), drainGoes s c = true →
    (coreNewel s c).stores = e :: rest → (∀ r, coreRoom c = some r → isChecker s r = false) →
    devDecode s e.addr.toNat e.bytes.length = some (.larder la) → drainRefuse s c e.bytes.length (.larder la) = 0 →
    isUncached s la = false → cacheFind (s.cache c) (la / 64) = some x → x.st ≠ .s →
    exec (.storeBufferDrain c) s =
      .next (onCore (s.onCache c fun q => cachePut q (linePatch x la e.bytes)) c fun m => { m with stores := rest }))

/-- For a word of the task window at Pantry byte P: LDFK of a full slot reads the word, LDFD reads
it and empties the slot, STF of an empty slot writes the word and fills the slot, and the
instruction retires; where the slot is not in the state that the instruction asks for, it waits
with BLOCK_REASON 1 and writes nothing. The tag of every other slot stays. With A = rs1, 4-byte
aligned and a Larder line of this device that the core may write, no store waiting: placed near
with the line held in E or M and not poisoned, the word becomes the function of the old word, rs2
and (for CAS) rd, rd takes the old word, the line is M and the instruction retires; placed far, the
request goes to the home with rs2 and rd and the Newel waits for the old word. A misaligned A takes
the misalignment trap, and an address of data memory the access trap with 0x0705. (R284, R285,
R286, R304, R305, R342, R347, R359) -/
def Obligations.NewelTaggedAndAtomicAccess : Prop :=
  (
    ∀ (s : State) (c : CoreId) (r : RoomId) (w : W32) (p : Nat), coreRoom c = some r →
      let a := s.reg c (nRs1 w) + (nImm w).signExtend 32
      a.toNat % 4 = 0 → 0x100000 ≤ a.toNat → a.toNat < 0x200000 → windowAddr (s.room r) (a.toNat - 0x100000) 4 = some p →
      let waits := onCore s c fun m => { m with fetchBuf := filledBuf s c, wait := .blocked .pantryTag }
      (s.atWord c .ldfk w → exec (.ldfk c) s = .next (if tagFull (s.room r) (p / 64) = true then
        s.retires c fun m => regSet m (nRd w) (BitVec.ofNat 32 (zword (s.room r).pantry p 4)) else waits)) ∧
      (s.atWord c .ldfd w → exec (.ldfd c) s = .next (if tagFull (s.room r) (p / 64) = true then
        (s.onRoom r fun x => setTag x (p / 64) false).retires c fun m =>
          regSet m (nRd w) (BitVec.ofNat 32 (zword (s.room r).pantry p 4)) else waits)) ∧
      (s.atWord c .stf w → exec (.stf c) s = .next (if tagFull (s.room r) (p / 64) = true then waits else
        (s.onRoom r fun x => setTag (pantryWrite x p (leBytes 4 (s.reg c (nRd w)).toNat)) (p / 64) true).retires c id)) ∧
      (∀ (x : Room) (k j : Nat) (b : Bool), j ≠ k → tagFull (setTag x k b) j = tagFull x j)) ∧
  (
    ∀ p ∈ ([(Instr.atomAdd, NOp.atomAdd, AtomOp.add, fun old x _ => old + x), (Instr.atomSwap, NOp.atomSwap, AtomOp.swap, fun _ x _ => x),
        (Instr.atomCas, NOp.atomCas, AtomOp.cas, fun old x cmp => if old = cmp then x else old),
        (Instr.atomMinSigned, NOp.atomMinSigned, AtomOp.minS, fun old x _ => if x.toInt < old.toInt then x else old),
        (Instr.atomMaxSigned, NOp.atomMaxSigned, AtomOp.maxS, fun old x _ => if old.toInt < x.toInt then x else old),
        (Instr.atomMinUnsigned, NOp.atomMinUnsigned, AtomOp.minU, fun old x _ => if x.toNat < old.toNat then x else old),
        (Instr.atomMaxUnsigned, NOp.atomMaxUnsigned, AtomOp.maxU, fun old x _ => if old.toNat < x.toNat then x else old)] :
        List ((CoreId → Instr) × NOp × AtomOp × (W32 → W32 → W32 → W32))),
      ∀ (s : State) (c : CoreId) (w : W32), s.atWord c p.2.1 w →
        let a := s.reg c (nRs1 w)
        (a.toNat % 4 ≠ 0 → exec (p.1 c) s = .next (trapHere s c 3 a 0)) ∧
        (a.toNat % 4 = 0 → a.toNat < dmemSize c → exec (p.1 c) s = .next (trapHere s c 4 a 0x0705)) ∧
        (∀ d la, a.toNat % 4 = 0 → coreMap s c a.toNat 4 = .dev d (.larder la) → la < 2 ^ 48 →
          localRefuse s (coreWing s c) (isFoyer c) true (.larder la) 4 = 0 → (coreNewel s c).stores = [] →
          (∀ x, placeFar s c (nPlace w) la = false → cacheFind (s.cache c) (la / 64) = some x → x.st ≠ .s → x.poison = false →
            let old : W32 := BitVec.ofNat 32 (fieldAt x.data (la % 64) 4)
            exec (p.1 c) s = .next ((s.onCache c fun q => cachePut q
                { x with st := .m,
                         data := putAt x.data (la % 64) (leBytes 4 (p.2.2.2 old (s.reg c (nRs2 w)) (s.reg c (nRd w))).toNat) }).retires c
              fun m => regSet (predMove m la false) (nRd w) old)) ∧
          (∀ t, placeFar s c (nPlace w) la = true →
            cacheRequest (fetched s c) c (.atom p.2.2.1 (s.reg c (nRs2 w)) (s.reg c (nRd w))
              ⟨la % 64 / 4, Nat.div_lt_of_lt_mul (Nat.mod_lt _ (by decide))⟩) (la / 64) = some t →
            exec (p.1 c) s = .next (onCore t c fun m => { m with wait := .farAtom (nRd w) (BitVec.ofNat 48 la) a }))))

/-- A branch whose comparison of rs1 and rs2 holds goes to its address plus 4 × OFF, where that is
an address of the instruction space and 4-byte aligned, and else takes the FETCH trap with the
target; one whose comparison fails retires. JMP and JMPR jump so; CALL and CALLR write the address
after into x5 and enter the next window where RES is below 14, and take WOVF where not; ENTER does
so without link and jump; RET goes to c5 and to the caller's window where RES is above 0, LEAVE
without the jump, and both take WUNF where RES is 0. In a handler SPILL stores the oldest resident
caller's frame at NWL_WSP and adds 64, FILL takes 64 off and loads the frame below it. (R336, R337,
R347, R356, R357) -/
def Obligations.NewelBranchesAndFrames : Prop :=
  (∀ p ∈ ([(Instr.beq, NOp.beq, fun x y => decide (x = y)), (Instr.bne, NOp.bne, fun x y => decide (x ≠ y)),
      (Instr.blt, NOp.blt, fun x y => decide (x.toInt < y.toInt)), (Instr.bge, NOp.bge, fun x y => decide (y.toInt ≤ x.toInt)),
      (Instr.bltu, NOp.bltu, fun x y => decide (x.toNat < y.toNat)),
      (Instr.bgeu, NOp.bgeu, fun x y => decide (y.toNat ≤ x.toNat))] : List ((CoreId → Instr) × NOp × (W32 → W32 → Bool))),
    ∀ (s : State) (c : CoreId) (w : W32), s.atWord c p.2.1 w →
      let dest := (coreNewel s c).pc + 4 * (nImm w).signExtend 32
      exec (p.1 c) s = .next (if p.2.2 (s.reg c (nRd w)) (s.reg c (nRs1 w)) = true then
          (if jumpOk s c dest = true then s.jumps c dest id else trapHere s c 2 dest 0)
        else s.retires c id)) ∧
  (∀ p ∈ ([(Instr.jmp, Instr.call, NOp.jmp, NOp.call, fun s c w => (coreNewel s c).pc + 4 * (BitVec.ofNat 26 w.toNat).signExtend 32),
      (Instr.jmpr, Instr.callr, NOp.jmpr, NOp.callr, fun s c w => s.reg c (nRs1 w) + (nImm w).signExtend 32)] :
      List ((CoreId → Instr) × (CoreId → Instr) × NOp × NOp × (State → CoreId → W32 → W32))),
    ∀ (s : State) (c : CoreId) (w : W32),
      (s.atWord c p.2.2.1 w → exec (p.1 c) s = .next (if jumpOk s c (p.2.2.2.2 s c w) = true then s.jumps c (p.2.2.2.2 s c w) id
        else trapHere s c 2 (p.2.2.2.2 s c w) 0)) ∧
      (s.atWord c p.2.2.2.1 w → exec (p.2.1 c) s = .next (if 14 ≤ (coreNewel s c).res.toNat then trapHere s c 7 0 0
        else if jumpOk s c (p.2.2.2.2 s c w) = true then
          s.jumps c (p.2.2.2.2 s c w) fun n => { regSet n 13 (n.pc + 4) with frm := n.frm + 1, res := n.res + 1 }
        else trapHere s c 2 (p.2.2.2.2 s c w) 0))) ∧
  (∀ (s : State) (c : CoreId) (w : W32), let n := coreNewel s c
    (s.atWord c .ret w → exec (.ret c) s = .next (if n.res = 0 then trapHere s c 8 0 0
      else if jumpOk s c (s.reg c 29) = true then s.jumps c (s.reg c 29) fun m => { m with frm := m.frm - 1, res := m.res - 1 }
      else trapHere s c 2 (s.reg c 29) 0)) ∧
    (s.atWord c .leave w → exec (.leave c) s = .next (if n.res = 0 then trapHere s c 8 0 0
      else s.retires c fun m => { m with frm := m.frm - 1, res := m.res - 1 })) ∧
    (s.atWord c .enter w → exec (.enter c) s = .next (if 14 ≤ n.res.toNat then trapHere s c 7 0 0
      else s.retires c fun m => { m with frm := m.frm + 1, res := m.res + 1 })) ∧
    (s.atWord c .spill w → n.tm = true → n.res ≠ 0 → n.wsp.toNat % 64 = 0 → n.wsp.toNat + 64 ≤ dmemSize c →
      exec (.spill c) s = .next (s.retires c fun m =>
        { m with dmem := zwrite m.dmem m.wsp.toNat (((m.locals.get (m.frm - m.res).toFin).toList ++
                   (m.outs.get ((m.frm - m.res).toFin - 1)).toList).map fun v => leBytes 4 v.toNat).flatten,
                 wsp := m.wsp + 64, res := m.res - 1 })) ∧
    (s.atWord c .fill w → n.tm = true → n.res.toNat < 14 → (n.wsp - 64).toNat % 64 = 0 → (n.wsp - 64).toNat + 64 ≤ dmemSize c →
      ∃ t, exec (.fill c) s = .next t ∧ (coreNewel t c).wsp = n.wsp - 64 ∧ (coreNewel t c).res = n.res + 1 ∧
        (coreNewel t c).frm = n.frm ∧ (coreNewel t c).dmem = n.dmem ∧
        (∀ i : Fin 10, ((coreNewel t c).locals.get (n.frm - n.res - 1).toFin).get i =
          BitVec.ofNat 32 (zword n.dmem ((n.wsp - 64).toNat + 4 * i.1) 4)) ∧
        (∀ i : Fin 6, ((coreNewel t c).outs.get ((n.frm - n.res - 1).toFin - 1)).get i =
          BitVec.ofNat 32 (zword n.dmem ((n.wsp - 64).toNat + 40 + 4 * i.1) 4))) ∧
    (s.atWord c .spill w → (n.tm = false ∨ n.res = 0) → exec (.spill c) s = .next (trapHere s c 1 w 0)) ∧
    (s.atWord c .fill w → (n.tm = false ∨ 14 ≤ n.res.toNat) → exec (.fill c) s = .next (trapHere s c 1 w 0)))

/-- RETT in a handler at the window that the trap came from goes to NWL_TPC with IE as NWL_TPSR has
it and TM 0, and is illegal elsewhere. WFI retires where an enabled interrupt is pending and waits
with BLOCK_REASON 5 where none is. TRAP takes cause 9 with its code and the next address. BRK takes
cause 10, or stops the Room in DEBUG_HALT where NWL_DBG.HALT and the scope allow. The fences and
IFENCE go on once the store buffer is empty (FENCE.R: and no remote access is outstanding), and
IFENCE empties the fetch buffer. STRA and STRX start a stream of the Room that does not run; SJOIN
waits while one runs. An interrupt that is due is taken at the PC where the next instruction raises
no trap. (R289, R344, R347, R348, R349, R351, R352, R354, R387) -/
def Obligations.NewelSystemInstructions : Prop :=
  (∀ (s : State) (c : CoreId) (w : W32), let n := coreNewel s c
    (s.atWord c .rett w → exec (.rett c) s = .next (if n.tm = true ∧ n.frm = n.tpsr.setWidth 4 then
      s.jumps c n.tpc fun m => { m with ie := m.tpsr.getLsbD 14, tm := false } else trapHere s c 1 w 0)) ∧
    (s.atWord c .wfi w → exec (.wfi c) s = .next (if irqPending s c = true then s.retires c id
      else onCore s c fun m => { m with fetchBuf := filledBuf s c, wait := .blocked .waitph })) ∧
    (s.atWord c .trap w → exec (.trap c) s = .next (takeTrap s c 9 ((nRs2 w).setWidth 32) 0 (n.pc + 4))) ∧
    (s.atWord c .brk w → debugHalts s c = false → exec (.brk c) s = .next (trapHere s c 10 0 0)) ∧
    (∀ r, s.atWord c .brk w → coreRoom c = some r → debugHalts s c = true → ∃ t, exec (.brk c) s = .next t ∧
      (t.room r).st = .debugHalt ∧ (t.room r).newel.tpc = n.pc ∧ (t.room r).newel.pc = n.pc + 4) ∧
    (s.atWord c .fence w → exec (.fence c) s = .next (if n.stores = [] then s.retires c id else s)) ∧
    (s.atWord c .fenceR w → exec (.fenceR c) s = .next (if n.stores = [] ∧ n.remoteOut = 0 then s.retires c id else s)) ∧
    (s.atWord c .ifence w → exec (.ifence c) s = .next (if n.stores = [] then s.jumps c (n.pc + 4) id else s)) ∧
    (∀ r, coreRoom c = some r →
      (s.atWord c .stra w → (s.room r).astream.strm.running = false →
        exec (.stra c) s = .next ((startStrm s r .a (s.reg c (nRs1 w)).toNat).retires c id)) ∧
      (s.atWord c .strx w → (s.room r).xstream.running = false →
        exec (.strx c) s = .next ((startStrm s r .x (s.reg c (nRs1 w)).toNat).retires c id)) ∧
      (s.atWord c .sjoin w → exec (.sjoin c) s = .next (if streamsRun (s.room r) = true then
        onCore s c fun m => { m with fetchBuf := filledBuf s c, wait := .blocked .sync } else s.retires c id)))) ∧
  (∀ (s : State) (c : CoreId) (i : Fin 5), issues s c = true → irqDue s c = some i → trapsFirst (nextDid s c).2 = false →
    ∃ t, exec (.newelInterrupt c) s = .next t ∧ coreNewel t c = { coreNewel s c with
      tpc := (coreNewel s c).pc, cause := 0x10 + BitVec.ofNat 8 i.1, tval := irqValue (coreNewel s c) i, tcond := 0,
      tpsr := psrWord (coreNewel s c), tm := true, ie := false,
      pc := (coreNewel s c).tbr + BitVec.ofNat 32 ((0x10 + i.1) * 16), fetchBuf := [], wait := .ready, skipBreak := false }) ∧
  (∀ (s : State) (c : CoreId) (cause : Byte) (tval : W32) (tcond : Cond), (coreNewel s c).tm = false →
    (coreNewel s c).trapen.getLsbD cause.toNat = true →
    coreNewel (trapHere s c cause tval tcond) c = { coreNewel s c with
      tpc := (coreNewel s c).pc, cause := cause, tval := tval, tcond := tcond, tpsr := psrWord (coreNewel s c), tm := true, ie := false,
      pc := (coreNewel s c).tbr + BitVec.ofNat 32 (cause.toNat * 16), fetchBuf := [], wait := .ready, skipBreak := false })

/-- END of a Room's Newel waits with BLOCK_REASON 7 while a stream of the Room runs; where none
runs, the Newel ends and the Room is IDLE, and where it is the last and only Room of its RUN job
the job completes with c0 of the current window as its value. TM plays no part. (R345) -/
def Obligations.EndOfTheRoomProgram : Prop :=
  ∀ (s : State) (c : CoreId) (r : RoomId) (w : W32), coreRoom c = some r → s.atWord c .newelEnd w →
    let u := roomToIdle (s.retires c id) r
    (streamsRun (s.room r) = true →
      exec (.newelEnd c) s = .next (onCore s c fun m => { m with fetchBuf := filledBuf s c, wait := .blocked .sync })) ∧
    (u.room r).st = .idle ∧ (u.room r).newel.wait = .ended ∧
    (streamsRun (s.room r) = false → runJobOf s r = none → exec (.newelEnd c) s = .next u) ∧
    (∀ j, streamsRun (s.room r) = false → runJobOf s r = some j → j.kind = .run ((1 : W32) <<< r.1) ((1 : W32) <<< r.1) →
      exec (.newelEnd c) s = .next (completeJob u j ⟨0, (s.reg c 24).toNat, 0, 0xFF⟩))

/-- RDS of each register that is read plainly writes rd with it and changes no other register; a
read of NWL_PHASE_LO also latches NWL_PHASE_HI; RDS of an undefined number takes the
illegal-instruction trap. WRS with no reserved bit set writes each register that the mode may
write; WRS of an RO or undefined number, of NWL_TPSR or NWL_TPC outside a handler, of RES 15, and
of a changed RES or FRM outside a handler takes the illegal-instruction trap. PUSHA pushes rs2 in
the high and rs1 in the low half onto AQ, and PMOV the low byte of rs1 onto PQ, each with TOKEN, at
the end of a queue that holds fewer than 16 entries; onto a full one the instruction waits with
BLOCK_REASON 2. POPN takes the oldest entry of NQ, low half into rd and high half into NWL_QHI; in
token mode an entry of another token makes it wait with BLOCK_REASON 4, and an empty queue with 2.
No other queue changes. (R7, R311, R313, R314, R343, R360) -/
def Obligations.NewelStatusAndQueueInstructions : Prop :=
  (
    (∀ p ∈ ([(0x00, psrWord), (0x01, fun n => n.tpsr), (0x02, fun n => n.tpc), (0x03, fun n => n.cause.setWidth 32),
        (0x04, fun n => n.tval), (0x05, fun n => n.tcond.setWidth 32), (0x06, fun n => n.tbr), (0x07, fun n => n.trapen),
        (0x08, fun n => n.ien.setWidth 32), (0x0A, fun n => n.qhi), (0x0D, fun n => n.cycleHi), (0x0F, fun n => n.phaseHi),
        (0x10, fun n => n.hqSel), (0x12, fun n => n.bkpt.get 0), (0x13, fun n => n.bkpt.get 1), (0x14, fun n => n.wsp),
        (0x18, fun n => n.segs.get 0), (0x1F, fun n => n.segs.get 7)] : List (W16 × (Newel → W32))),
      ∀ (s : State) (c : CoreId) (w : W32), s.atWord c .rds w → nImm w = p.1 →
        exec (.rds c) s = .next (s.retires c fun n => regSet n (nRd w) (p.2 n))) ∧
    (∀ (s : State) (c : CoreId) (w : W32), s.atWord c .rds w →
      (nImm w = 0x0E → exec (.rds c) s = .next (s.retires c fun n =>
        regSet { n with phaseHi := (s.phase.time >>> 32).setWidth 32 } (nRd w) (s.phase.time.setWidth 32))) ∧
      ((0x20 ≤ (nImm w).toNat ∨ (0x15 ≤ (nImm w).toNat ∧ (nImm w).toNat < 0x18)) →
        exec (.rds c) s = .next (trapHere s c 1 w 0))) ∧
    (∀ p ∈ ([(0x01, true, 0xFFFF3F00, fun v n => { n with tpsr := v }), (0x02, true, 3, fun v n => { n with tpc := v }),
        (0x06, false, 0x1FF, fun v n => { n with tbr := v }), (0x07, false, 0xFFFFF801, fun v n => { n with trapen := v }),
        (0x08, false, 0xFFFFFFE0, fun v n => { n with ien := v.setWidth 5 }), (0x10, false, 0, fun v n => { n with hqSel := v }),
        (0x11, false, 0xFFFFFFFE, fun v n => { n with dbgHalt := v.getLsbD 0 }),
        (0x12, false, 2, fun v n => { n with bkpt := vset n.bkpt 0 v }), (0x13, false, 2, fun v n => { n with bkpt := vset n.bkpt 1 v }),
        (0x14, false, 0x3F, fun v n => { n with wsp := v }), (0x18, false, 0xFFE, fun v n => { n with segs := vset n.segs 0 v }),
        (0x1F, false, 0xFFE, fun v n => { n with segs := vset n.segs 7 v })] : List (W16 × Bool × W32 × (W32 → Newel → Newel))),
      ∀ (s : State) (c : CoreId) (w : W32), s.atWord c .wrs w → nImm w = p.1 →
        (p.2.1 = true → (coreNewel s c).tm = false → exec (.wrs c) s = .next (trapHere s c 1 w 0)) ∧
        ((p.2.1 = false ∨ (coreNewel s c).tm = true) → s.reg c (nRs1 w) &&& p.2.2.1 = 0 →
          exec (.wrs c) s = .next (s.retires c (p.2.2.2 (s.reg c (nRs1 w)))))) ∧
    (∀ (s : State) (c : CoreId) (w : W32), s.atWord c .wrs w →
      let n := coreNewel s c
      let v := s.reg c (nRs1 w)
      let res : BitVec 4 := BitVec.ofNat 4 (v.toNat / 16)
      let frm : BitVec 4 := BitVec.ofNat 4 v.toNat
      (nImm w = 0 → v &&& 0xFFFF3F00 = 0 → res ≠ 15 → (n.tm = true ∨ (res = n.res ∧ frm = n.frm)) →
        exec (.wrs c) s = .next (s.retires c fun n => { n with ie := v.getLsbD 14, res := res, frm := frm })) ∧
      (nImm w = 0 → (res = 15 ∨ (n.tm = false ∧ (res ≠ n.res ∨ frm ≠ n.frm))) → exec (.wrs c) s = .next (trapHere s c 1 w 0)) ∧
      ((nImm w ∈ [3, 4, 5, 0x0A, 0x0B, 0x0C, 0x0D, 0x0E, 0x0F, 0x15, 0x16, 0x17] ∨ 0x20 ≤ (nImm w).toNat) →
        exec (.wrs c) s = .next (trapHere s c 1 w 0)))) ∧
  (
    ∀ (s : State) (c : CoreId) (r : RoomId) (w : W32), coreRoom c = some r →
      let x := s.room r
      let waits := fun why => onCore s c fun m => { m with fetchBuf := filledBuf s c, wait := .blocked why }
      let push := fun (q : Fin 6) (v : W64) => (s.onRoom r fun x =>
        { x with queues := vset x.queues q { x.queues.get q with entries := (x.queues.get q).entries ++ [(v, nToken w)] },
                 watchCount := 0 }).retires c id
      (s.atWord c .pusha w → exec (.pusha c) s = .next (if (x.queues.get 0).entries.length < 16 then
        push 0 (s.reg c (nRs2 w) ++ s.reg c (nRs1 w)) else waits .dataQueue)) ∧
      (s.atWord c .pmov w → exec (.pmov c) s = .next (if (x.queues.get 1).entries.length < 16 then
        push 1 ((s.reg c (nRs1 w) &&& 0xFF).setWidth 64) else waits .dataQueue)) ∧
      (s.atWord c .popn w → (x.queues.get 5).entries = [] → exec (.popn c) s = .next (waits .dataQueue)) ∧
      (∀ v tok rest, s.atWord c .popn w → (x.queues.get 5).entries = (v, tok) :: rest →
        exec (.popn c) s = .next (if x.modeToken = true ∧ nToken w ≠ tok then waits .token else
          (s.onRoom r fun x => { x with queues := vset x.queues 5 { entries := rest, lastPopped := v }, watchCount := 0 }).retires c
            fun m => { regSet m (nRd w) (v.setWidth 32) with qhi := (v >>> 32).setWidth 32 })))

/-- Where the A-stream's next command is the row's and its predicate holds: NOP goes on; ADDA adds
its signed increment to ADRk; POPA and QPOP take the oldest entry of AQ and of DQ2 into ADRk (in
token mode, one of its TAG); QPUSH adds ADRk or its immediate to a queue with room; PSET, PPOP and
PLOOP set predicates, p0 stays 1; LOOP opens a level with its count, at most four deep and inside
the open body; SKIP goes on N commands further, not past the end of the innermost open body
(0x0A02). Each counts one command and goes on with the next. A command whose predicate is off has
no effect but that (a LOOP then skips its body), and one that is not legal, at which no breakpoint
matches, halts the Room with 0x0A01. (R313, R369, R371, R372, R373, R374, R384, R389, R391) -/
def Obligations.AStreamCommands : Prop :=
  (∀ (s : State) (r : RoomId) (w : Nat), let c := aDecode w
    (s.atCommand r 0x00 w → exec (.asNop r) s = .next (s.aNext r)) ∧
    (s.atCommand r 0x04 w → exec (.adda r) s = .next
      ((setAdr s r (c.two 44) (adrOf s r (c.two 44) + (BitVec.ofNat 32 c.arg).signExtend 48)).aNext r)) ∧
    (∀ p ∈ ([(Instr.popa, 0x03, 0), (Instr.qpop, 0x06, 4)] : List ((RoomId → Instr) × Nat × Fin 6)), ∀ v tok rest,
      s.atCommand r p.2.1 w → ((s.room r).queues.get p.2.2).entries = (v, tok) :: rest →
      ((s.room r).astream.strm.token = true → tok = c.tag) →
      exec (p.1 r) s = .next ((setAdr (s.onRoom r fun x => x.popped p.2.2) r (c.two 44) (v.setWidth 48)).aNext r)) ∧
    (∀ (q : Fin 6) (v : W64), s.atCommand r 0x05 w → ((s.room r).queues.get q).entries.length < 16 →
      (bitsOf c.arg 43 42, q) ∈ [(0, 2), (1, 3), (2, 5)] →
      v = (if bitOf c.arg 41 = true then BitVec.ofNat 64 (c.arg % 2 ^ 32) else (adrOf s r (c.two 44)).setWidth 64) →
      exec (.qpush r) s = .next ((s.onRoom r fun x => x.pushed q (if q = 5 then v &&& 0x7FFFFFFFFFFFFFFF else v) c.tag).aNext r)) ∧
    (s.atCommand r 0x11 w →
      let to_ := (s.room r).astream.strm.pc + 8 + 8 * bitsOf c.arg 10 0
      ((∃ l ∈ (s.room r).astream.strm.loops.head?, l.stop < to_) →
        exec (.asSkip r) s = .next (haltRoom s r 0x0A02 (FaultAt.astream (s.room r)))) ∧
      ((∀ l ∈ (s.room r).astream.strm.loops.head?, to_ ≤ l.stop) →
        exec (.asSkip r) s = .next (onStrm s r .a fun t => stepStrm t to_))) ∧
    (s.atCommand r 0x12 w → exec (.asPset r) s = .next
      ((setPreds s r .a (BitVec.ofNat 8 (bitsOf c.arg 15 8)) (BitVec.ofNat 8 (bitsOf c.arg 7 0))).aNext r)) ∧
    (∀ v tok rest, s.atCommand r 0x13 w → ((s.room r).queues.get 0).entries = (v, tok) :: rest →
      ((s.room r).astream.strm.token = true → tok = c.tag) →
      exec (.asPpop r) s = .next ((onStrm (s.onRoom r fun x => x.popped 0) r .a fun t => { t with preds := v.setWidth 8 ||| 1 }).aNext r)) ∧
    (s.atCommand r 0x14 w → exec (.asPloop r) s = .next
      ((loopPred s r .a (bitsOf c.arg 45 43) (bitsOf c.arg 42 41) (bitOf c.arg 40)).aNext r)) ∧
    (let t := (s.room r).astream.strm
     let len := bitsOf c.arg 42 32
     let count := bitsOf c.arg 15 0
     let body := t.pc + 8
     s.atCommand r 0x10 w → bitOf c.arg 45 = false →
      (t.loops.length < 4 → len ≠ 0 → body + 8 * len ≤ 0x4000 → (∀ l ∈ t.loops.head?, body + 8 * len ≤ l.stop) → count ≠ 0 →
        exec (.asLoop r) s = .next ((onStrm s r .a fun t =>
          { t with loops := { start := body, stop := body + 8 * len, count := count, i := 0 } :: t.loops }).aNext r)) ∧
      ((t.loops.length = 4 ∨ 0x4000 < body + 8 * len ∨ (∃ l ∈ t.loops.head?, l.stop < body + 8 * len) ∨ count = 0) →
        exec (.asLoop r) s = .next (haltRoom s r 0x0A02 (FaultAt.astream (s.room r)))))) ∧
  (∀ (s : State) (r : RoomId) (w : Nat), let t := (s.room r).astream.strm
    strmGoes s r .a = true → t.pc % 8 = 0 → t.pc + 8 ≤ 0x4000 → zword t.mem t.pc 8 = w →
    (strmHalts s r (aDecode w).tag t = false → aLegal (aDecode w) = false →
      exec (.asNop r) s = .next (haltRoom s r 0x0A01 (FaultAt.astream (s.room r)))) ∧
    (aLegal (aDecode w) = true → (aDecode w).op = 0x04 → strmHalts s r (aDecode w).tag t = false →
      predOn t (aDecode w).psel (aDecode w).pneg = false → exec (.adda r) s = .next (s.aNext r)))

/-- A target T is reached at phase time t when (t - T) mod 2^48 is below 2^47. After a tick a held,
armed comparator of a wing that is not frozen, which had not fired, has fired exactly when its TIME
is so reached. A checked, TIMED, unfenced NOP job held by an open ring starts exactly when its
START_PHASE is so reached. A stream that waits at a WAITPH whose Room's agents act goes on exactly
when its target is so reached. (R185) -/
def Obligations.PhaseTargets : Prop :=
  (∀ (s : State) (n : Fin 64), phaseRuns s = true → (s.phase.cmps.get n).held = true → (s.phase.cmps.get n).arm = true →
    wingFrozen s (s.phase.cmps.get n).wing = false → (s.phase.cmps.get n).fired = false →
    ∃ t, exec .phaseTick s = .next t ∧
      ((t.phase.cmps.get n).fired = true ↔ (t.phase.time - (s.phase.cmps.get n).time).toNat < 2 ^ 47)) ∧
  (∀ (s : State) (w : WingId) (d : HeldDesc), (s.ring w).en = true → (s.ring w).active = true → dispatchOpen s w = true →
    (s.ring w).held = some d → d.checked = true → dFence d.bytes = false → dTimed d.bytes = true → dType d.bytes = 1 →
    ((s.phase.time - dStart d.bytes).toNat < 2 ^ 47 →
      exec (.jobNop w) s = .next (endAtStart s w d.bytes ⟨0, 0, 0, 0xFF⟩)) ∧
    (2 ^ 47 ≤ (s.phase.time - dStart d.bytes).toNat → exec (.jobNop w) s = .next s)) ∧
  (∀ (s : State) (r : RoomId) (xs : Bool) (target : W48), let k : Which := if xs = true then .x else .a
    roomGoes s r = true → (strmOf (s.room r) k).running = true → (strmOf (s.room r) k).wait = .waitph target →
    ∃ t, exec (.waitphDone r xs) s = .next t ∧
      ((s.phase.time - target).toNat < 2 ^ 47 → (strmOf (t.room r) k).wait = .ready ∧ (strmOf (t.room r) k).mark = target) ∧
      (2 ^ 47 ≤ (s.phase.time - target).toNat → t = s))

/-- GLOAD of a descriptor inside the window that R378 accepts, into a generator that holds no
handle, loads it; a refused one halts the Room with 0x0A05 and one outside the window with 0x0802.
HRECV takes the oldest handle of a queue into a loaded, plain generator that holds none, with BASE
at that time; HSEND gives it back to a queue with room and the generator holds none. BIND into an
empty slot of a record that passes every check gives the slot the stream; into a full slot it halts
the Room with 0x0A08. UNBIND empties the slot and unbinds its stream. (R225, R227, R316, R376,
R378, R379, R387, R391) -/
def Obligations.AStreamGeneratorsAndBinding : Prop :=
  ∀ (s : State) (r : RoomId) (w : Nat), let c := aDecode w
    let halt := fun k => haltRoom s r k (FaultAt.astream (s.room r))
    (s.atCommand r 0x08 w →
      (windowAddr (s.room r) (c.arg % 2 ^ 20) 64 = none → exec (.asGload r) s = .next (halt 0x0802)) ∧
      (∀ a, windowAddr (s.room r) (c.arg % 2 ^ 20) 64 = some a →
        (parseGen (zread (s.room r).pantry a 64) = none → exec (.asGload r) s = .next (halt 0x0A05)) ∧
        (∀ g, parseGen (zread (s.room r).pantry a 64) = some g → (genOf s r .a (c.two 44)).hold = .none →
          exec (.asGload r) s = .next ((onGen s r .a (c.two 44) fun _ => g).aNext r)))) ∧
    (s.atCommand r 0x1A w → let g := genOf s r .a (c.two 44)
      g.loaded = true → g.chain = false → g.follow = false → g.hold = .none →
      ∀ h rest, ((s.room r).hqs.get c.hq).kind ≠ .off → ((s.room r).hqs.get c.hq).handles = h :: rest →
        (∀ n : Fin 64, (s.cellar.streams.get n).st = .free) →
        exec (.asHrecv r) s = .next ((onGen (s.onRoom r fun x => { x with
          hqs := vmod x.hqs c.hq fun q => { q with handles := rest }, watchCount := 0 }) r .a (c.two 44) fun g =>
            { g with hold := .handle h g.base c.hq }).aNext r)) ∧
    (s.atCommand r 0x1B w → bitOf c.arg 38 = false → ∀ h b q, (genOf s r .a (c.two 44)).hold = .handle h b q →
      ((s.room r).hqs.get c.hq).kind ≠ .off → handleOk (s.room r) r c.hq h = true → ((s.room r).hqs.get c.hq).handles.length < 32 →
      exec (.asHsend r) s = .next ((onGen (s.onRoom r fun x => { x with
          hqs := vmod x.hqs c.hq fun q => { q with handles := q.handles ++ [h] }, watchCount := 0 }) r .a (c.two 44) fun g =>
            { g with hold := .none }).aNext r)) ∧
    (s.atCommand r 0x18 w →
      ((s.room r).astream.bind.get (c.two 44) ≠ none → exec (.bind r) s = .next (halt 0x0A08)) ∧
      (∀ a n, (s.room r).astream.bind.get (c.two 44) = none → windowAddr (s.room r) (c.arg % 2 ^ 20) 32 = some a →
        bindCheck s r (zread (s.room r).pantry a 32) = .ok n →
        exec (.bind r) s = .next (((bindStream s r (zread (s.room r).pantry a 32) n).onRoom r fun x =>
          { x with astream := { x.astream with bind := vset x.astream.bind (c.two 44) (some n) } }).aNext r))) ∧
    (s.atCommand r 0x19 w →
      ((s.room r).astream.bind.get (c.two 44) = none → exec (.unbind r) s = .next (halt 0x0A08)) ∧
      (∀ n, (s.room r).astream.bind.get (c.two 44) = some n →
        exec (.unbind r) s = .next (((unbindStream s n).onRoom r fun x =>
          { x with astream := { x.astream with bind := vset x.astream.bind (c.two 44) none } }).aNext r)))

/-- An LDT or STT of one line whose slots resolve and whose target is a local Larder line enters it
into the in-flight entries, an LDT with its request sent; with 64 entries held it waits with
BLOCK_REASON 6. An answered LDT line is stored into its slots and leaves; a poisoned one halts the
Room with 0x0703; an acknowledged STT line leaves. WAITPH of a target already reached sets the mark
to it and goes on, else it waits. SYNC with DRAIN waits with BLOCK_REASON 7 for the lines, with RDV
for the X-stream, and goes on with neither; two streams at rendezvous SYNCs of one TAG leave
together, of two halt with 0x0A06. END ends the stream, and latches the STREAM interrupt, once no
line is in flight. A Room that a stream's breakpoint halted runs again on RESUME. (R186, R365,
R382, R383, R385, R386, R388, R389) -/
def Obligations.StreamWaitsAndLines : Prop :=
  (∀ (s : State) (r : RoomId) (w : Nat), let c := aDecode w
    let x := s.room r
    (∀ p ∈ ([(Instr.ldt, 0x01, false), (Instr.stt, 0x02, true)] : List ((RoomId → Instr) × Nat × Bool)), ∀ la b ps,
      let a := (adrOf s r (c.two 41)).toNat
      s.atCommand r p.2.1 w → bitsOf c.arg 39 27 = 0 → bitOf c.arg 43 = false → bitOf c.arg 40 = false → x.astream.issued = 0 →
      x.astream.lines.length < 64 → resolve s r .a (c.two 44) 0 64 = .ok ps s → devDecode s a 64 = some la → la = .larder b →
      localRefuse s (roomOwner s r) false p.2.2 la 64 = 0 →
      exec (p.1 r) s = .next ((enterLine s r p.2.2 false none ps (lineParts b)).aNext r)) ∧
    (s.atCommand r 0x01 w → x.astream.issued = 0 → x.astream.lines.length = 64 → ∃ t, exec (.ldt r) s = .next t ∧
      (t.room r).astream.strm.wait = .blocked .inflight ∧ (t.room r).astream.lines = x.astream.lines) ∧
    (s.atCommand r 0x20 w →
      let target : W48 := if bitOf c.arg 45 = true then x.astream.strm.mark + BitVec.ofNat 48 (c.arg % 2 ^ 32) else adrOf s r (c.two 43)
      exec (.asWaitph r) s = .next (if reached s.phase.time target = true then
        (onStrm s r .a fun t => { t with mark := target }).aNext r
      else onStrm s r .a fun t => { t with wait := .waitph target })) ∧
    (s.atCommand r 0x21 w → exec (.asSync r) s = .next (
      if bitOf c.arg 45 = true ∧ x.astream.lines ≠ [] then s.aWaits r .sync
      else if bitOf c.arg 44 = true then onStrm s r .a fun t => { t with wait := .rdv c.tag }
      else s.aNext r)) ∧
    (s.atCommand r 0x3F w →
      (x.astream.lines ≠ [] → exec (.asEnd r) s = .next (s.aWaits r .none)) ∧
      (x.astream.lines = [] → ∃ t, exec (.asEnd r) s = .next t ∧ (t.room r).astream.strm.running = false ∧
        (t.room r).newel.pendStream = true ∧ (t.room r).newel.streamSrc = 1 ∧ (t.room r).pantry = x.pantry))) ∧
  (∀ (s : State) (r : RoomId) (id : Nat) (l : LineXfer), linesMove (s.room r) = true → l.id = id →
    ((s.room r).astream.lines.find? (fun l => l.id == id && !l.store && l.answered) = some l →
      (linePoison l = true → exec (.ldtLineDone r id) s = .next (haltRoom s r 0x0703 ⟨2, BitVec.ofNat 32 l.pc, l.count⟩)) ∧
      (linePoison l = false → l.tagged = false → exec (.ldtLineDone r id) s = .next
        (s.onRoom r fun x => dropLine (storePieces x l.pieces (lineData l)) id))) ∧
    ((s.room r).astream.lines.find? (fun l => l.id == id && l.store) = some l → l.answered = true →
      exec (.sttLineDone r id) s = .next (s.onRoom r fun x => dropLine x id))) ∧
  (∀ (s : State) (r : RoomId) (ta tx : Byte), roomGoes s r = true → (s.room r).astream.strm.wait = .rdv ta →
    (s.room r).xstream.wait = .rdv tx →
    (ta = tx → ∃ t, exec (.syncRendezvous r) s = .next t ∧ (t.room r).astream.strm.wait = .ready ∧
      (t.room r).xstream.wait = .ready) ∧
    (ta ≠ tx → exec (.syncRendezvous r) s = .next (haltRoom s r 0x0A06 (FaultAt.astream (s.room r))))) ∧
  (∀ (s : State) (r : RoomId), s.barReady (storeyDomain r) → (s.room r).st = .debugHalt → (s.room r).sdbgWhich ≠ 0 →
    debugAllows s r 0 = true → ∃ t, exec (.streamDebugResume r) s = .next t ∧ (t.room r).st = .running)

/-- Where the X-stream's next long word holds a control slot alone, its predicate is 1 and nothing
waits in the units: LOOP opens a level over the next LEN long words, SKIP goes on N long words
further, PSET, PPOP (from PQ) and PLOOP set predicates, GLOAD loads a generator that holds no
handle, HRECV takes a handle, HSEND gives one, WAITPH of a target already reached sets the mark,
and the stream goes on behind the word; SYNC waits for the A-stream with the word's TAG, and END
ends the stream and latches the STREAM interrupt. A word that names no slot goes on. (R365, R369,
R371, R372, R373, R379, R385, R386, R392, R395) -/
def Obligations.XStreamControl : Prop :=
  ∀ (s : State) (r : RoomId) (x : XCmd), s.atLong r x → x.h = none → x.s = none → x.m = none →
    let y := s.room r
    let t := y.xstream
    let next := t.pc + x.size
    (x.c = none → exec (.emptyLongWord r) s = .next (s.xNext r next)) ∧
    (∀ w, x.c = some w →
      let g : Fin 4 := ⟨w / 2 ^ 26 % 4, Nat.mod_lt _ (by decide)⟩
      let q : Fin 32 := ⟨w / 2 ^ 21 % 32, Nat.mod_lt _ (by decide)⟩
      let op := w / 2 ^ 28 % 16
      (op = 1 → bitOf w 27 = false → t.loops.length < 4 → bitsOf w 26 16 ≠ 0 → bitsOf w 15 0 ≠ 0 →
        xWalk t.mem (bitsOf w 26 16) next ≤ 0x8000 → (∀ l ∈ t.loops.head?, xWalk t.mem (bitsOf w 26 16) next ≤ l.stop) →
        exec (.xsLoop r) s = .next ((onStrm s r .x fun t => { t with
          loops := { start := next, stop := xWalk t.mem (bitsOf w 26 16) next, count := bitsOf w 15 0, i := 0 } :: t.loops }).xNext r next)) ∧
      (op = 2 → exec (.xsSkip r) s = .next (
        if (t.loops.head?.any fun l => decide (l.stop < xWalk t.mem (bitsOf w 10 0) next)) = true then
          haltRoom (s.onRoom r fun y => { y with xIssued := true }) r 0x0A02 (FaultAt.xstream y)
        else s.xNext r (xWalk t.mem (bitsOf w 10 0) next))) ∧
      (op = 3 → exec (.xsPset r) s = .next ((setPreds s r .x (BitVec.ofNat 8 (bitsOf w 15 8)) (BitVec.ofNat 8 (bitsOf w 7 0))).xNext r next)) ∧
      (op = 4 → ∀ v tok rest, (y.queues.get 1).entries = (v, tok) :: rest → (t.token = true → tok = x.tag) →
        exec (.xsPpop r) s = .next ((onStrm (s.onRoom r fun y => y.popped 1) r .x fun t => { t with preds := v.setWidth 8 ||| 1 }).xNext r next)) ∧
      (op = 5 → exec (.xsPloop r) s = .next ((loopPred s r .x (bitsOf w 27 25) (bitsOf w 24 23) (bitOf w 22)).xNext r next)) ∧
      (op = 6 → ∀ a d, windowAddr y (64 * bitsOf w 13 0) 64 = some a → parseGen (zread y.pantry a 64) = some d →
        (genOf s r .x g).hold = .none → exec (.xsGload r) s = .next ((onGen s r .x g fun _ => d).xNext r next)) ∧
      (op = 7 → (genOf s r .x g).loaded = true → (genOf s r .x g).chain = false → (genOf s r .x g).follow = false →
        (genOf s r .x g).hold = .none → ∀ h rest, (y.hqs.get q).kind ≠ .off → (y.hqs.get q).handles = h :: rest →
        (∀ n : Fin 64, (s.cellar.streams.get n).st = .free) →
        exec (.xsHrecv r) s = .next ((onGen (s.onRoom r fun y => { y with
          hqs := vmod y.hqs q fun k => { k with handles := rest }, watchCount := 0 }) r .x g fun d =>
            { d with hold := .handle h d.base q }).xNext r next)) ∧
      (op = 8 → bitOf w 20 = false → ∀ h b k, (genOf s r .x g).hold = .handle h b k → (y.hqs.get q).kind ≠ .off →
        handleOk y r q h = true → (y.hqs.get q).handles.length < 32 →
        exec (.xsHsend r) s = .next ((onGen (s.onRoom r fun y => { y with
          hqs := vmod y.hqs q fun k => { k with handles := k.handles ++ [h] }, watchCount := 0 }) r .x g fun d =>
            { d with hold := .none }).xNext r next)) ∧
      (op = 9 → reached s.phase.time (t.mark + BitVec.ofNat 48 (w % 2 ^ 28)) = true →
        exec (.xsWaitph r) s = .next ((onStrm s r .x fun t => { t with mark := t.mark + BitVec.ofNat 48 (w % 2 ^ 28) }).xNext r next)) ∧
      (op = 10 → exec (.xsSync r) s = .next ((onStrm s r .x fun t => { t with wait := .rdv x.tag }).onRoom r fun y =>
        { y with xIssued := true })) ∧
      (op = 11 → y.compute.hearth = [] → y.compute.scullery = [] → ∃ u, exec (.xsEnd r) s = .next u ∧
        (u.room r).xstream.running = false ∧ (u.room r).newel.pendStream = true ∧ (u.room r).newel.streamSrc = 2 ∧
        (u.room r).pantry = y.pantry))

/-- Where the X-stream's next long word holds one slot, its predicate is 1 and its unit can take
it: a Hearth or Scullery operation whose operands resolve enters its unit with ROOM_HX_CFG and the
loop index as they stand, is performed at once where its operands can be had, and the stream goes
on; COPY and FILLC move their slots where the tags allow; SETH with idle units makes the popped
value ROOM_HX_CFG. HEARTH_OP_DONE and SCULLERY_OP_DONE of a performed, only operation leave the
unit empty, and a drain read of ACC then leaves ACC EMPTY. (R367, R392, R394, R406, R408, R413,
R414, R415, R421, R422, R427, R428) -/
def Obligations.XStreamOperations : Prop :=
  (∀ p ∈ ([(Instr.mma, 0x10), (Instr.mmat, 0x11), (Instr.conv, 0x18)] : List ((RoomId → Instr) × Nat)),
    ∀ (s : State) (r : RoomId) (x : XCmd) (w : Nat) (rs : List (List Piece)), s.atLong r x →
      x.h = some w → (slotOf w).op = p.2 → x.s = none → x.m = none → x.c = none →
      let t := (s.room r).xstream
      let c := (s.room r).compute
      let plan := hPlan t c.cfg (slotOf w)
      unitsFree c x = true → configFault t c.cfg x = false → resolveWants s r plan.wants = .ok rs s →
      let u := startUnit (s.onRoom r fun y => onCompute y fun c => { c with hearth := c.hearth ++ [newOp t c x w plan rs] }) r true
      (u.room r).st = .running → rs.length = plan.wants.length → exec (p.1 r) s = .next (u.xNext r (t.pc + x.size))) ∧
  (∀ p ∈ ([(Instr.sculleryAdd, 0x40), (Instr.scullerySub, 0x41), (Instr.sculleryMul, 0x42), (Instr.max, 0x43), (Instr.min, 0x44),
      (Instr.mulg, 0x45), (Instr.rope, 0x46), (Instr.exp, 0x48), (Instr.silu, 0x49), (Instr.gelu, 0x4A), (Instr.tanh, 0x4B),
      (Instr.swiglu, 0x4C), (Instr.cvtI8, 0x50), (Instr.cvtE4m3, 0x51), (Instr.cvtE5m2, 0x52), (Instr.cvtBf16, 0x53),
      (Instr.cvtF32, 0x54), (Instr.cvtI32, 0x55), (Instr.rmax, 0x58), (Instr.rsum, 0x59), (Instr.rssq, 0x5A), (Instr.rdot, 0x5B),
      (Instr.sld, 0x60), (Instr.sst, 0x61), (Instr.rsqf, 0x62), (Instr.rcpf, 0x63), (Instr.tkclr, 0x68), (Instr.topk, 0x69),
      (Instr.tkout, 0x6A), (Instr.tkmrg, 0x6B), (Instr.sample, 0x6C), (Instr.dwconv, 0x70)] : List ((RoomId → Instr) × Nat)),
    ∀ (s : State) (r : RoomId) (x : XCmd) (w : Nat) (k : SKind) (rs : List (List Piece)), s.atLong r x →
      x.s = some w → (slotOf w).op = p.2 → sKind p.2 = some k → x.h = none → x.m = none → x.c = none →
      let t := (s.room r).xstream
      let c := (s.room r).compute
      let plan := sPlan t c.cfg c.topK k (slotOf w)
      unitsFree c x = true → configFault t c.cfg x = false → resolveWants s r plan.wants = .ok rs s →
      let u := startUnit (s.onRoom r fun y => onCompute y fun c => { c with scullery := c.scullery ++ [newOp t c x w plan rs] }) r false
      (u.room r).st = .running → rs.length = plan.wants.length → exec (p.1 r) s = .next (u.xNext r (t.pc + x.size))) ∧
  (∀ p ∈ ([(Instr.copy, 0), (Instr.fillc, 1)] : List ((RoomId → Instr) × Nat)),
    ∀ (s : State) (r : RoomId) (x : XCmd) (w : Nat) (rs : List (List Piece)) (y : Room), s.atLong r x →
      x.m = some w → bitsOf w 31 28 = p.2 → x.h = none → x.s = none → x.c = none →
      let t := (s.room r).xstream
      resolveWants s r ((planM t x).1 ++ (planM t x).2) = .ok rs s →
      moveSlots (s.room r) t w ((rs.take (planM t x).1.length).flatten) ((rs.drop (planM t x).1.length).flatten) = .done y →
      exec (p.1 r) s = .next ((s.onRoom r fun _ => y).xNext r (t.pc + x.size))) ∧
  (∀ (s : State) (r : RoomId) (x : XCmd) (w : Nat) (v : W64) (tok : Byte) (rest : List (W64 × Byte)), s.atLong r x →
    x.h = some w → (slotOf w).op = 0x1F → x.s = none → x.m = none → x.c = none →
    (s.room r).compute.hearth = [] → (s.room r).compute.scullery = [] →
    let q : Fin 6 := if (slotOf w).sa = 4 then 2 else 3
    ((s.room r).queues.get q).entries = (v, tok) :: rest → ((s.room r).xstream.token = true → tok = x.tag) →
    cfgOk (v.setWidth 32) = true →
    exec (.seth r) s = .next (((s.onRoom r fun y => y.popped q).onRoom r fun y =>
      onCompute y fun c => { c with cfg := v.setWidth 32 }).xNext r ((s.room r).xstream.pc + x.size))) ∧
  (∀ (s : State) (r : RoomId) (o : XOp), roomGoes s r = true → o.ran = true →
    ((s.room r).compute.hearth = [o] → exec (.hearthOpDone r) s = .next (s.onRoom r fun x => onCompute x fun c => { c with hearth := [] })) ∧
    ((s.room r).compute.scullery = [o] → exec (.sculleryOpDone r) s = .next (s.onRoom r fun x => onCompute x fun c =>
      if (slotOf o.word.toNat).sa = 6 ∧ (slotOf o.word.toNat).ca = 2 then
        { c with scullery := [], accType := .empty, acc := Vector.replicate 256 0 }
      else { c with scullery := [] })))

/-- An MMA of INT8 tiles with AFMT 0 and no column scale, with ACC of type INT, leaves ACC[r][c] of
each row below ROWS at the old entry plus the sum over i of A[r][i] times W[c][i], the old and the
sum taken as exact integers and saturated to int32; rows from ROWS on keep their entries, ACC stays
INT, and ISAT is set exactly where it was or an entry saturated. (R402, R404, R406, R408, R409,
R427) -/
def Obligations.MatrixMultiplyExact : Prop :=
  ∀ (c : Compute) (o : XOp) (w : Slot) (ab bb : List Byte), w.op = 0x10 → w.fmt = 1 → w.aux = 0 → c.accType = .int →
    ab.length = 256 → bb.length = 256 →
    let total := fun (r q : Nat) => ((c.acc.toList[16 * r + q]?).getD 0).toInt +
      ((List.range 16).map fun i => (ab.getD (16 * r + i) 0).toInt * (bb.getD (16 * q + i) 0).toInt).sum
    let d := hearthCompute c o w ab bb []
    d.accType = .int ∧ (∀ r q : Fin 16, (d.acc.toList[16 * r.1 + q.1]?).getD 0 =
      if r.1 < cfgRows o.cfg then
        (if total r.1 q.1 < -2147483648 then 0x80000000 else if 2147483647 < total r.1 q.1 then 0x7FFFFFFF
          else BitVec.ofInt 32 (total r.1 q.1))
      else (c.acc.toList[16 * r.1 + q.1]?).getD 0) ∧
    (d.isat = true ↔ c.isat = true ∨ ∃ r q : Fin 16, r.1 < cfgRows o.cfg ∧
      (total r.1 q.1 < -2147483648 ∨ 2147483647 < total r.1 q.1))

/-- A write that enables an entry whose fields keep R478 and R479, with no reserved bit set and no
context using it, sets the entry and no other; one that fails a check leaves every entry and raises
0x0C0A as a BAR0 condition of wing 0. A write that leaves the entry disabled stores its fields but
reserved bits and reserved encodings. In a block of A by B, with A at least 2, B even and at least
2 and A × B at most 64, the rank of R479 is below A × B, no two positions share a rank, and
positions of ranks r and (r + 1) mod N differ by one step in one dimension. (R477, R478, R479,
R480, R501) -/
def Obligations.CollectiveGroups : Prop :=
  (∀ (s : State) (n : Fin 32) (v : W64), s.barReady 3 → groupEn v = true →
    (groupFieldsOk s v = true → v &&& groupReserved = 0 → (∀ i : Fin 8, (s.stair.ctxs.get i).st = .free ∨ (s.stair.ctxs.get i).par.group ≠ n) →
      exec (.stwGroupWrite n v) s = .next (s.onStair fun t => { t with groups := vset t.groups n v })) ∧
    ((groupFieldsOk s v = false ∨ v &&& groupReserved ≠ 0 ∨
        ∃ i : Fin 8, (s.stair.ctxs.get i).st ≠ .free ∧ (s.stair.ctxs.get i).par.group = n) →
      exec (.stwGroupWrite n v) s = .next (ringCond s 0 0x0C0A))) ∧
  (∀ (s : State) (n : Fin 32) (v : W64), s.barReady 3 → groupEn v = false → let kept := groupStored (s.stair.groups.get n) v
    exec (.stwGroupWrite n v) s = .next ((if kept = v then s else countReserved s 1).onStair fun t =>
      { t with groups := vset t.groups n kept })) ∧
  (∀ na nb : Nat, 2 ≤ na → 2 ≤ nb → nb % 2 = 0 → na * nb ≤ 64 → ∀ a b a' b' : Nat, a < na → b < nb → a' < na → b' < nb →
    blockRank na nb a b < na * nb ∧ (blockRank na nb a b = blockRank na nb a' b' → a = a' ∧ b = b') ∧
      (blockRank na nb a' b' = (blockRank na nb a b + 1) % (na * nb) →
        (a = a' ∧ (b = b' + 1 ∨ b' = b + 1)) ∨ (b = b' ∧ (a = a' + 1 ∨ a' = a + 1))))

/-- A startable COLLECTIVE takes the lowest free context, with its rank, neighbours and chunk
counts, where it passes every check of R483, and completes with 0x0C01 or 0x0C02 where its shape or
its group is refused. The successor's GRANT that agrees starts the sending with its window and one
that differs aborts with 0x0C03; a GRANT for no context is kept. A CREDIT releases the chunks up to
its SEQ. A reduce-scatter chunk in sequence, of the right CRC and place and not the last step, adds
the member's own data and makes the sum ready for the next step; one already received is credited
again, and a wrong CRC aborts with 0x0C06. A send within the window takes the lowest ready chunk,
under the next SEQ, and keeps it until credited. A handle of IN_Q becomes the next segment's. A
timeout of a stuck context logs 0x0C04 in WAIT mode and aborts with it in ABORT mode. A write of
ABORT makes a busy context abort with cause 0x0C07, of a frozen wing at its thaw. A COLL_ABORT for
a context is taken, and the lowest cause kept; one for none is kept among the 16 newest records.
When the hold ends, the context is FREE; one that holds a handle first needs room for it in OUT_Q.
The oldest record is dropped at its expiry. (R482, R483, R484, R486, R487, R489, R490, R491, R492,
R493, R494, R502) -/
def Obligations.CollectivesOfTheStairwell : Prop :=
  (
    (∀ (s : State) (w : WingId) (b : List Byte) (i : Fin 8), startable s w 8 = some b →
      lowest s.stair.ctxs (fun _ c => c.st == .free) = some i →
      let p := collParams b
      (collShapeOk b p ((collRing s w p.group).getD []).length = false →
        exec (.jobCollective w) s = .next (failAtStart s w b 0x0C01 0xFF 0)) ∧
      (collShapeOk b p 0 = true → collRing s w p.group = none → exec (.jobCollective w) s = .next (failAtStart s w b 0x0C02 0xFF 0)) ∧
      (∀ ring, collRing s w p.group = some ring → collShapeOk b p ring.length = true →
        (∀ k : Fin 8, (s.stair.ctxs.get k).st = .free ∨ (s.stair.ctxs.get k).par.collId ≠ p.collId) → s.stair.abortRecs = [] →
        collReach s w p ring.length = 0 → s.stair.grants = [] →
        ∃ t, exec (.jobCollective w) s = .next t ∧ (t.ring w).held = none ∧ (t.stair.ctxs.get i).st = .starting ∧
          (t.stair.ctxs.get i).wing = w ∧ (t.stair.ctxs.get i).par = p ∧ (t.stair.ctxs.get i).n = ring.length ∧
          (t.stair.ctxs.get i).rank = ring.idxOf s.fabric.devAddr ∧
          (t.stair.ctxs.get i).succ = ring.getD ((ring.idxOf s.fabric.devAddr + 1) % ring.length) 0 ∧
          (t.stair.ctxs.get i).pred = ring.getD ((ring.idxOf s.fabric.devAddr + ring.length - 1) % ring.length) 0)) ∧
    (∀ (s s1 : State) (x : RxPacket), takePacket s (s.grantDue 1) = some (x, s1) → spanTest s1 x.pkt = true →
      (∀ i, ctxFor s1 x.pkt true = some i → (s1.stair.ctxs.get i).st = .starting → s1.unfinished i →
        (grantAgrees (s1.stair.ctxs.get i) x.pkt.data = true →
          exec .collGrant s = .next (startSending s1 i (fieldAt x.pkt.data 27 1))) ∧
        (grantAgrees (s1.stair.ctxs.get i) x.pkt.data = false → exec .collGrant s = .next (abortCtx s1 i 0x0C03))) ∧
      (ctxFor s1 x.pkt true = none → s1.stair.grants.length < 64 → exec .collGrant s = .next (s1.onStair fun t =>
        { t with grants := t.grants ++ [{ src := x.pkt.src, wing := x.pkt.wing, flit := x.pkt.data }] }))) ∧
    (∀ (s s1 : State) (x : RxPacket) (i : Fin 8), takePacket s (s.grantDue 2) = some (x, s1) → spanTest s1 x.pkt = true →
      ctxFor s1 x.pkt true = some i → s1.unfinished i →
      let seq : W16 := BitVec.ofNat 16 (fieldAt x.pkt.data 22 2)
      exec .collCredit s = .next (s1.onCtx i fun c => { c with
        uncredited := c.uncredited.filter fun k => decide (32768 ≤ (seq - k.seq).toNat),
        resend := c.resend.filter fun k => decide (32768 ≤ (seq - k.seq).toNat) })) ∧
    (∀ (s s1 : State) (x : RxPacket) (i : Fin 8), takePacket s s.dataDue = some (x, s1) → spanTest s1 x.pkt = true →
      ctxFor s1 x.pkt false = some i → (s1.stair.ctxs.get i).st ≠ .aborting →
      let c := s1.stair.ctxs.get i
      let k := chunkIdOf x.pkt
      let seq : W16 := BitVec.ofNat 16 (fieldAt x.pkt.data 22 2)
      let block := fieldAt x.pkt.data 10 1
      let data := bytesAt x.pkt.data 32 (fieldAt x.pkt.data 14 2)
      (seq ≠ c.inSeq → (c.inSeq - seq).toNat < 32768 → exec .collDataChunk s = .next (sendCredit s1 i)) ∧
      (seq = c.inSeq → fieldAt x.pkt.data 4 2 = c.groupTag.toNat →
        (fieldAt x.pkt.data 16 4 ≠ (chunkCrc c.par.collId k block data).toNat → ∃ t, exec .collDataChunk s = .next t ∧
          (t.stair.ctxs.get i).st = .aborting ∧ (t.stair.ctxs.get i).cause = 0x0C06) ∧
        (∀ own u, fieldAt x.pkt.data 16 4 = (chunkCrc c.par.collId k block data).toNat → chunkFits c x.pkt = true →
          k.gather = false → k.step + 2 ≠ c.n → localRead s1 c k.seg block k.chunk = .done (own, u) → u.stair = s1.stair →
          s1.unfinished i →
          let sum := reduceBytes c.par.reduce c.par.dtype data own
          exec .collDataChunk s = .next (u.onCtx i fun c => { c with
            ready := c.ready ++ [{ id := { k with step := k.step + 1 }, block := block, data := sum,
                                   crc := chunkCrc c.par.collId { k with step := k.step + 1 } block sum,
                                   origin := u.fabric.devAddr, seq := 0, seqIn := some seq }],
            recvLeft := c.recvLeft - 1, recv := c.recv + 1, inSeq := c.inSeq + 1, unconsumed := c.unconsumed ++ [seq] })))) ∧
    (∀ (s : State) (i : Fin 8) (k : Chunk), let c := s.stair.ctxs.get i
      c.st = .running → stairHolds s c.wing = false → c.resend = [] → c.uncredited.length < c.window → firstReady c = some k →
      firstLocal c = none → k.seqIn = none → s.unfinished i →
      ∃ t, exec (.collChunkSend i) s = .next t ∧ t.stair.ctxs.get i = { c with
        nextSeq := c.nextSeq + 1, uncredited := c.uncredited ++ [{ k with seq := c.nextSeq }], sent := c.sent + 1,
        sendLeft := c.sendLeft - 1, ready := c.ready.erase k }) ∧
    (∀ (s : State) (i : Fin 8) (r : RoomId) (h : W32) (rest : List W32), let c := s.stair.ctxs.get i
      c.st = .running → c.par.hq = true → stairHolds s c.wing = false → c.nextSeg < c.segs → s.unfinished i →
      segRoom c = some r → ((s.room r).hqs.get c.par.inQ).handles = h :: rest → handleOk (s.room r) r c.par.inQ h = true →
      ∃ t, exec (.segmentHandlePop i) s = .next t ∧
        (c.par.segBytes ≤ 64 * handleSlots h → t.stair.ctxs.get i = { c with
          handles := [{ seg := c.nextSeg, room := r, handle := h, left := c.perSeg, used := true }], nextSeg := c.nextSeg + 1,
          locals := c.locals ++ [(c.nextSeg, 0)] }) ∧
        (64 * handleSlots h < c.par.segBytes → (t.stair.ctxs.get i).st = .aborting ∧ (t.stair.ctxs.get i).cause = 0x0C09))) ∧
  (
    (∀ (s : State) (i : Fin 8), ctxStuck s (s.stair.ctxs.get i) = true → let c := s.stair.ctxs.get i
      (c.par.abortMode = false → exec (.collTimeout i) s =
        .next (logCond s 0x0C04 (wingByte c.wing) (BitVec.ofNat 8 i.1) c.par.collId)) ∧
      (c.par.abortMode = true → ∃ t, exec (.collTimeout i) s = .next t ∧ (t.stair.ctxs.get i).st = .aborting ∧
        (t.stair.ctxs.get i).cause = 0x0C04)) ∧
    (∀ (s : State) (i : Fin 8), s.barReady 3 → (s.stair.ctxs.get i).st = .starting ∨ (s.stair.ctxs.get i).st = .running →
      (stairHolds s (s.stair.ctxs.get i).wing = false →
        ∃ t, exec (.stwCtxAbort i) s = .next t ∧ (t.stair.ctxs.get i).st = .aborting ∧ (t.stair.ctxs.get i).cause = 0x0C07 ∧
          ∀ k, k ≠ i → t.stair.ctxs.get k = s.stair.ctxs.get k) ∧
      (stairHolds s (s.stair.ctxs.get i).wing = true →
        exec (.stwCtxAbort i) s = .next (s.onCtx i fun c => { c with owed := c.owed ++ [0x0C07] }))) ∧
    (∀ (s s1 : State) (x : RxPacket), takePacket s s.abortDue = some (x, s1) →
      spanTest s1 { x.pkt with wing := (abortOf x.pkt).wing } = true → let a := abortOf x.pkt
      let at_ := lowest s1.stair.ctxs fun _ c => c.st != .free && c.par.collId == a.collId && c.groupTag == a.groupTag && c.wing == a.wing
      (∀ i, at_ = some i → ∃ t, exec .collAbort s = .next t ∧ (t.stair.ctxs.get i).st = .aborting ∧
        (t.stair.ctxs.get i).cause = (if (s1.stair.ctxs.get i).st = .aborting ∧ (s1.stair.ctxs.get i).cause.toNat ≤ a.cause.toNat
          then (s1.stair.ctxs.get i).cause else a.cause)) ∧
      (at_ = none → s1.stair.abortRecs.length < 16 → exec .collAbort s = .next (s1.onStair fun t =>
        { t with abortRecs := t.abortRecs ++ [a] }))) ∧
    (∀ (s : State) (i : Fin 8), (s.stair.ctxs.get i).st = .aborting → stairHolds s (s.stair.ctxs.get i).wing = false →
      let c := s.stair.ctxs.get i
      let full := fun (h : SegHandle) => 32 ≤ ((s.room h.room).hqs.get c.par.outQ).handles.length
      (c.handles = [] → ∃ t, exec (.abortHoldExpiry i) s = .next t ∧ (t.stair.ctxs.get i).st = .free) ∧
      (∀ h, c.handles = [h] → ∃ t, exec (.abortHoldExpiry i) s = .next t ∧
        (¬ full h → (t.stair.ctxs.get i).st = .free) ∧
        (full h → (t.stair.ctxs.get i).st = .aborting ∧ (t.stair.ctxs.get i).handles = [h]))) ∧
    (∀ (s : State), exec .abortRecordExpiry s = .next (s.onStair fun t => { t with abortRecs := t.abortRecs.tail })))

/-- A request that arrived first, well formed and of the command's TYPE, is answered: READY 1, BUSY
0, GEN one higher, the CONDITION and the VALUE, and it leaves the arrivals. CLAIM_STREAM that
passes R512's checks claims the lowest free stream it takes for the wing and returns its number,
else it is refused with the first check's code and nothing is claimed; RELEASE_STREAM frees it;
START of a CLAIMED or STOPPED stream runs it, or holds it while the wing is in POPULATE; STOP makes
it CLAIMED; CLAIM_PAGES takes every page of the range or refuses with 0x0D01 or 0x0D03;
RELEASE_PAGES of held pages not in use sets them to be zeroed; PAGE_ZEROED frees such a page, which
then reads 0, the other pages as before; CLAIM_PARLOUR, RELEASE_PARLOUR, PARLOUR_RUN and
PARLOUR_STOP move the context as R523 says, a release keeping RDY, CLASS and SCORE. Nothing outside
the Porch changes. RES_HEAD_WRITE by the owner of a held stream or by wing 0 writes RES_HEAD and
releases the slots from the old head to the new one, and by another wing changes nothing.
PORCH_PAR_RESULT_READ by wing 0 or the holder of the context answers the current value and clears
RDY, CLASS and SCORE unchanged, and by another wing changes nothing. (R509, R510, R511, R512, R513,
R522, R523, R529, R530, R532) -/
def Obligations.PorchRequestsAndReads : Prop :=
  (
    ∀ (s : State) (w : WingId),
      let r := porchRequest s w
      let p := s.porch
      let answered (t : State) (c : Cond) (v : W32) : Prop :=
        t = { s with porch := t.porch } ∧ t.porch.arrivals = p.arrivals.tail ∧
          t.porch.mailboxes = vmod p.mailboxes w fun m =>
            { m with cond := c, value := v, ready := true, busy := false, gen := m.gen + 1 }
      let others (t : State) (k : Fin 16) : Prop := ∀ j, j ≠ k → t.porch.streams.get j = p.streams.get j
      (s.porchAsks w 1 → (∀ k, claimCheck s w r = .ok k → ∃ t, exec .claimStream s = .next t ∧
          answered t 0 (BitVec.ofNat 32 k.1) ∧ (p.streams.get k).st = .free ∧ others t k ∧ t.porch.sram = p.sram ∧
          t.porch.streams.get k = { PStream.init with st := .claimed, owner := w, kind := BitVec.ofNat 8 (fieldAt r 8 1), record := r }) ∧
        (∀ c, claimCheck s w r = .error c → exec .claimStream s = .next (answerPorch s w c 0))) ∧
      (∀ k, ownStream s w r = some k →
        (s.porchAsks w 2 → ∃ t, exec .releaseStream s = .next t ∧ answered t 0 0 ∧ others t k ∧
          t.porch.streams.get k = { PStream.init with delivered := (p.streams.get k).delivered, dropped := (p.streams.get k).dropped } ∧
          EngineBy.stream k ∉ t.porch.queue) ∧
        (s.porchAsks w 3 → ((p.streams.get k).st = .claimed ∨ (p.streams.get k).st = .stopped) →
          (((s.wing w).st ≠ .populate ∧ (s.wing w).st ≠ .freezing ∧ (s.wing w).st ≠ .frozen) → ∃ t, exec .start s = .next t ∧ answered t 0 0 ∧ others t k ∧
            t.porch.streams.get k = startPStream s (p.streams.get k) ∧
            (srRaw (p.streams.get k).record = false → t.porch.queue.getLast? = some (.stream k))) ∧
          ((s.wing w).st = .populate → ∃ t, exec .start s = .next t ∧ answered t 0 0 ∧ others t k ∧
            (t.porch.streams.get k).st = .held ∧ (t.porch.streams.get k).listOn = false ∧ t.porch.queue = p.queue)) ∧
        (s.porchAsks w 4 → ∃ t, exec .stop s = .next t ∧ answered t 0 0 ∧ others t k ∧ EngineBy.stream k ∉ t.porch.queue ∧
          t.porch.streams.get k =
            { p.streams.get k with st := .claimed, capture := none, listOn := false, issued := false, wait := .none })) ∧
      (s.porchAsks w 5 →
        (pageRange r = none → exec .claimPages s = .next (answerPorch s w 0x0D01 0)) ∧
        (∀ pr, pageRange r = some pr →
          (((porchPages pr).any fun g => (p.pages.get g).held || (p.pages.get g).zeroing) = true →
            exec .claimPages s = .next (answerPorch s w 0x0D03 0)) ∧
          (((porchPages pr).any fun g => (p.pages.get g).held || (p.pages.get g).zeroing) = false →
            ∃ t, exec .claimPages s = .next t ∧ answered t 0 0 ∧ ∀ g : Fin 64,
              t.porch.pages.get g = if pr.1 ≤ g.1 ∧ g.1 < pr.1 + pr.2 then ⟨true, w, false⟩ else p.pages.get g))) ∧
      (s.porchAsks w 6 → ∀ pr, pageRange r = some pr → ((porchPages pr).all fun g => holdsPage s w g.1) = true →
        ((porchPages pr).any fun g => pageInUse s w g) = false →
        ∃ t, exec .releasePages s = .next t ∧ answered t 0 0 ∧ ∀ g : Fin 64,
          t.porch.pages.get g = if pr.1 ≤ g.1 ∧ g.1 < pr.1 + pr.2 then ⟨false, 0, true⟩ else p.pages.get g) ∧
      (∀ g : Fin 64, (p.pages.get g).zeroing = true → ∃ t, exec (.pageZeroed g) s = .next t ∧ t = { s with porch := t.porch } ∧
        t.porch.pages.get g = ⟨false, 0, false⟩ ∧ t.porch.streams = p.streams ∧
        (∀ a, a / 65536 = g.1 → zget t.porch.sram a = 0) ∧
        (Memory.wf p.sram = true → ∀ a, a / 65536 ≠ g.1 → zget t.porch.sram a = zget p.sram a)) ∧
      (s.porchAsks w 7 → ringFieldsOk r = true → fieldAt r 8 1 = 0xFF →
        (p.parlour.st ≠ .free → exec .claimParlour s = .next (answerPorch s w 0x0D03 0)) ∧
        (p.parlour.st = .free → fieldAt r 4 4 % 65536 ≠ 0 → exec .claimParlour s = .next (answerPorch s w 0x0D0B 0)) ∧
        (p.parlour.st = .free → fieldAt r 4 4 % 65536 = 0 → holdsPage s w (fieldAt r 4 4 / 65536) = true →
          wingRange s w (srRing r) (32 * 2 ^ srRingLog r) = true → ∃ t, exec .claimParlour s = .next t ∧ answered t 0 0 ∧
          t.porch.parlour.st = .claimed ∧ t.porch.parlour.owner = w ∧ t.porch.parlour.base.toNat = fieldAt r 4 4 / 65536 ∧
          t.porch.parlour.stream = none ∧ t.porch.streams = p.streams)) ∧
      (ownsParlour s w = true →
        (s.porchAsks w 8 → ∃ t, exec .releaseParlour s = .next t ∧ answered t 0 0 ∧ t.porch.parlour = freeParlour p.parlour ∧
          t.porch.streams = p.streams) ∧
        (s.porchAsks w 9 → fieldAt r 4 2 % 2 = 0 → ((s.wing w).st ≠ .populate ∧ (s.wing w).st ≠ .freezing ∧ (s.wing w).st ≠ .frozen) → (p.parlour.st = .claimed ∨ p.parlour.st = .stopped) →
          ∃ t, exec .parlourRun s = .next t ∧ answered t 0 0 ∧ t.porch.parlour.st = .running ∧
            t.porch.parlour.mark = s.phase.time ∧ t.porch.parlour.cur = parFetch s p.parlour.base (fieldAt r 4 2) ∧
            t.porch.queue.getLast? = some .parlour) ∧
        (s.porchAsks w 10 → ∃ t, exec .parlourStop s = .next t ∧ answered t 0 0 ∧ t.porch.parlour.st = .claimed ∧
          t.porch.parlour.listOn = false ∧ EngineBy.parlour ∉ t.porch.queue))) ∧
  (
    ∀ (s : State) (w : WingId),
      (∀ (k : Fin 16) (v : W16), let x := s.porch.streams.get k;
        (x.st ≠ .free → (x.owner = w ∨ w = 0) → ∃ t, exec (.resHeadWrite w k v) s = .next t ∧ t = { s with porch := t.porch } ∧
          (t.porch.streams.get k).resHead = v ∧
          (t.porch.streams.get k).unreleased =
            x.unreleased - (v.toNat % 2 ^ srRingLog x.record + 2 ^ srRingLog x.record - x.resHead.toNat % 2 ^ srRingLog x.record) %
              2 ^ srRingLog x.record ∧
          t.porch.parlour = s.porch.parlour ∧ ∀ j, j ≠ k → t.porch.streams.get j = s.porch.streams.get j) ∧
        (x.owner ≠ w → w ≠ 0 → exec (.resHeadWrite w k v) s = .next s)) ∧
      (let p := s.porch.parlour;
        ((w = 0 ∨ (p.st ≠ .free ∧ p.owner = w)) → ∃ t, exec (.porchParResultRead w) s = .next t ∧
          t.porch.parlour = { p with rdy := false } ∧ t.porch.streams = s.porch.streams ∧ t.rooms = s.rooms ∧
          t.out = s.out ++ [.porchValue (BitVec.ofNat 32 (b2n p.rdy * 2 ^ 31 + p.score.toNat * 2 ^ 16 + p.cls.toNat))]) ∧
        (w ≠ 0 → p.owner ≠ w → exec (.porchParResultRead w) s = .next s)))

/-- On a claimed CSI-2 port a header with at most one bit error is taken, one with more ends the
burst with 0x0D07 for the owner. FRAME_START for a running stream's virtual channel starts a frame
stamped with phase time, 1 in 2^DECIM of them; the frame loses the unread frame whose buffer it
takes; a frame still in progress is discarded first. A line of the stream's data type, correct in
CRC and length, is stored unpacked behind those before it, cut at BUF_LEN. FRAME_END lands a frame
of HEIGHT good lines (FRAMES rises, the next buffer follows) and discards any other with DROPPED
and 0x0D07. TDM_FS gives every running TDM stream of the port one sample more and leaves every
other stream as it was; where the stream is the port's only one and the frame needs more samples,
the sample's slots, sign-extended, are stored behind those before it. SENSOR_PERIOD at a multiple
of PERIOD, while phase time runs, starts a frame of a running sensor stream with none in progress;
the transaction's bytes land as a frame, and a NACK or lost arbitration discards it with DROPPED
and 0x0D07. (R507, R513, R514, R515) -/
def Obligations.PorchCapture : Prop :=
  (
    ∀ (s : State) (p : Fin 2),
      (∀ (vc : Fin 4) (dt : Byte) (wc : W16) (errs : Nat), (s.porch.csi.get p).held = true →
        (errs ≤ 1 → exec (.csiBurstStart p vc dt wc errs) s = .next (s.onPorch fun q =>
          { q with headers := vset q.headers p (some ⟨vc, dt, wc⟩) })) ∧
        (1 < errs → ∃ t, exec (.csiBurstStart p vc dt wc errs) s = .next t ∧ t.porch.headers.get p = none ∧
          (t.mgmt.log.head?.map fun l => (l.code, l.wing)) = some (0x0D07, wingByte (s.porch.csi.get p).wing))) ∧
      (∀ (h : CsiHeader) (k : Fin 16), s.porch.headers.get p = some h → csiStream s p h.vc = some k →
        let x := s.porch.streams.get k
        let rec_ := x.record
        let others (t : State) : Prop := t.porch.headers.get p = none ∧ t.rooms = s.rooms ∧
          ∀ j, j ≠ k → t.porch.streams.get j = s.porch.streams.get j
        (h.dt = 0 → x.capture = none →
          (x.starts % 2 ^ srDecim rec_ = 0 → ∃ t, exec (.frameStart p) s = .next t ∧ others t ∧ t.porch.sram = s.porch.sram ∧
            (t.porch.streams.get k).capture = some ⟨s.phase.time, 0, false⟩ ∧
            (t.porch.streams.get k).framePhase = s.phase.time ∧
            (t.porch.streams.get k).unread = x.unread.filter (fun u => u.buffer != x.nextBuf)) ∧
          (x.starts % 2 ^ srDecim rec_ ≠ 0 → ∃ t, exec (.frameStart p) s = .next t ∧ others t ∧ t.porch.sram = s.porch.sram ∧
            (t.porch.streams.get k).capture = none ∧ (t.porch.streams.get k).starts = x.starts + 1)) ∧
        (h.dt = 0 → x.capture ≠ none → x.unread = [] → x.starts % 2 ^ srDecim rec_ = 0 →
          ∃ t, exec (.frameStart p) s = .next t ∧ others t ∧ (t.porch.streams.get k).dropped = satAdd x.dropped 1 ∧
            (t.porch.streams.get k).lastCond = 0x0D07 ∧ (t.porch.streams.get k).capture = some ⟨s.phase.time, 0, false⟩) ∧
        (∀ c bs ok, 2 ≤ h.dt.toNat → h.dt.toNat = srDt rec_ → x.capture = some c →
          (ok = true → h.wc.toNat = lineWire rec_ → bs.length = lineWire rec_ → c.count < srHeight rec_ →
            ∃ t, exec (.csiLine p bs ok) s = .next t ∧ others t ∧
              t.porch.sram = zwrite s.porch.sram (bufferAt rec_ x.nextBuf + c.count * lineStored rec_)
                ((unpackLine (srDt rec_) bs).take (srBufLen rec_ - c.count * lineStored rec_)) ∧
              (t.porch.streams.get k).capture = some { c with count := c.count + 1 }) ∧
          (ok = false → ∃ t, exec (.csiLine p bs ok) s = .next t ∧ others t ∧ t.porch.sram = s.porch.sram ∧
              (t.porch.streams.get k).capture = some { c with count := c.count + 1, bad := true })) ∧
        (∀ c, h.dt = 1 → x.capture = some c →
          (c.bad = false → c.count = srHeight rec_ → srRaw rec_ = false →
            ∃ t, exec (.frameEnd p) s = .next t ∧ others t ∧ t.porch.sram = s.porch.sram ∧
              (t.porch.streams.get k).frames = x.frames + 1 ∧ (t.porch.streams.get k).capture = none ∧
              (t.porch.streams.get k).nextBuf = (x.nextBuf + 1) % max 1 (srNbuf rec_)) ∧
          (c.bad = true ∨ c.count ≠ srHeight rec_ → ∃ t, exec (.frameEnd p) s = .next t ∧ others t ∧
            (t.porch.streams.get k).frames = x.frames ∧ (t.porch.streams.get k).capture = none ∧
            (t.porch.streams.get k).dropped = satAdd x.dropped 1 ∧ (t.porch.streams.get k).lastCond = 0x0D07)))) ∧
  (
    (∀ (s : State) (p : Fin 4) (slots : List W32), ∃ t, exec (.tdmFs p slots) s = .next t ∧ t.rooms = s.rooms ∧
      ∀ k : Fin 16, let x := s.porch.streams.get k;
        if x.st = .running ∧ x.kind = 2 ∧ srPort x.record = p.1 then (t.porch.streams.get k).samples = x.samples + 1
        else t.porch.streams.get k = x) ∧
    (∀ (s : State) (p : Fin 4) (slots : List W32) (k : Fin 16) (c : Capture), let x := s.porch.streams.get k;
      (∀ j, ((s.porch.streams.get j).st = .running ∧ (s.porch.streams.get j).kind = 2 ∧
        srPort (s.porch.streams.get j).record = p.1) ↔ j = k) → x.capture = some c → c.count + 1 < srSamples x.record →
      let bs := slotBytes x.record slots;
      ∃ t, exec (.tdmFs p slots) s = .next t ∧
        t.porch.sram = zwrite s.porch.sram (bufferAt x.record x.nextBuf + c.count * bs.length)
          (bs.take (srBufLen x.record - c.count * bs.length)) ∧
        t.porch.streams.get k = { x with capture := some { c with count := c.count + 1 }, samples := x.samples + 1 }) ∧
    (∀ (s : State) (k : Fin 16), let x := s.porch.streams.get k;
      x.st = .running → (x.kind = 3 ∨ x.kind = 4) →
      (x.capture = none → phaseRuns s = true → s.phase.time.toNat % max 1 (srPeriod x.record) = 0 → x.unread = [] →
        exec (.sensorPeriod k) s = .next (s.onPStream k fun x =>
          { x with capture := some ⟨s.phase.time, 0, false⟩, framePhase := s.phase.time, starts := x.starts + 1, lines := 0 })) ∧
      (∀ rd, x.capture.isSome = true → srRaw x.record = false → ∃ t, exec (.sensorTransactionDone k rd true) s = .next t ∧
        t = { s with porch := t.porch } ∧ (t.porch.streams.get k).frames = x.frames + 1 ∧
        (t.porch.streams.get k).capture = none ∧
        t.porch.sram = zwrite s.porch.sram (bufferAt x.record x.nextBuf)
          (((rd ++ List.replicate 64 0).take (srRdLen x.record)).take (srBufLen x.record))) ∧
      (∀ rd, x.capture.isSome = true → ∃ t, exec (.sensorTransactionDone k rd false) s = .next t ∧
        t.porch.sram = s.porch.sram ∧ (t.porch.streams.get k).capture = none ∧
        (t.porch.streams.get k).dropped = satAdd x.dropped 1 ∧ (t.porch.streams.get k).lastCond = 0x0D07)))

/-- Where a running list's next command has the row's OP, is no command fault and its operands lie
in pages the wing holds, the engine performs it: CONV, FC, POOL and ADD store their output map,
COPY its bytes, MEL nothing outside its units, RESULT delivers the class and the score of its
values; the list goes on at the next command (JMP: at its target). The output map has the element
of channel c at (y, x) where C16 puts it, and zeros in channels beyond its count; RESULT's class is
the lowest index of the largest value. An operand outside the wing's pages stops the stream with
0x0102, a command fault with 0x0D08. (R519, R520, R521, R522, R534) -/
def Obligations.NativeOperators : Prop :=
  (∀ (s : State) (k : Fin 16) (c : NCmd), s.engineAt k c →
    let x := s.porch.streams.get k
    let s1 := s.engineHolds (.stream k)
    let rd := fun a => zget s.porch.sram a
    let stores (i : Instr) (ranges : List (Nat × Nat)) (bs : List Byte) : Prop :=
      (rangesHeld s x.owner ranges = true → exec i s = .next (issueAt (putSram s1 c.out bs) k (x.pc + 32))) ∧
      (rangesHeld s x.owner ranges = false → exec i s = .next (stopStream s1 k 0x0102))
    (c.ok = false → ∀ i ∈ ([.porchConv, .fc, .pool, .porchAdd, .mel, .waitsrc, .porchCopy, .result, .porchJmp, .porchWaitph,
      .porchEnd] : List Instr), exec i s = .next (stopStream s1 k 0x0D08)) ∧
    (c.ok = true →
      (c.op = 1 → stores .porchConv (convRanges c.shape c.addr)
        (outMap 16 c.shape.ho c.shape.wo c.shape.co (convAt c.shape c.addr rd))) ∧
      (c.op = 2 →
        let g := { c.shape with h := 1, w := 1, kh := 1, kw := 1, sy := 1, sx := 1, pad := false, dw := false };
        stores .fc (convRanges g c.addr) (outMap 16 1 1 c.cout (convAt g c.addr rd))) ∧
      (c.op = 3 →
        let g := if bitOf c.flags 4 then { c.shape with kh := c.h, kw := c.w, sy := 1, sx := 1, pad := false } else c.shape;
        stores .pool (poolRanges g c.addr) (outMap 16 g.ho g.wo c.cin (poolAt g c.addr rd))) ∧
      (c.op = 4 →
        let g := { c.shape with kh := 1, kw := 1, sy := 1, sx := 1, pad := false };
        let n := mapBytes 16 c.h c.w c.cin;
        stores .porchAdd [(c.a, n), (c.wt, n), (c.out, n)] (outMap 16 g.ho g.wo c.cin (addAt g c.addr rd))) ∧
      (c.op = 5 → rangesHeld s x.owner [(c.out, mapBytes 16 c.h 1 c.cout)] = true →
        ∃ t, exec .mel s = .next t ∧ t = { s with porch := t.porch } ∧ (t.porch.streams.get k).pc = x.pc + 32 ∧
          (t.porch.streams.get k).issued = true ∧
          (Memory.wf s.porch.sram = true → ∀ a, (a < c.out ∨ c.out + mapBytes 16 c.h 1 c.cout ≤ a) → zget t.porch.sram a = rd a)) ∧
      (c.op = 7 → stores .porchCopy [(c.a, c.wt), (c.out, c.wt)] (zread s.porch.sram c.a c.wt)) ∧
      (c.op = 8 → rangesHeld s x.owner [(c.a, c.cin)] = true → 0 < c.cin →
        let m := argMax8 (zread s.porch.sram c.a c.cin);
        ∃ t, exec .result s = .next t ∧ (t.porch.streams.get k).cls = BitVec.ofNat 16 m.1 ∧
          (t.porch.streams.get k).score = BitVec.ofInt 32 m.2 ∧ (t.porch.streams.get k).ready = true ∧
          (t.porch.streams.get k).gen = x.gen + 1 ∧ (t.porch.streams.get k).pc = x.pc + 32 ∧
          (t.porch.streams.get k).issued = true ∧ t.porch.sram = s.porch.sram) ∧
      (c.op = 9 → exec .porchJmp s = .next (issueAt s1 k c.a)))) ∧
  (∀ (ho wo co : Nat) (f : Nat → Nat → Nat → Int), (outMap 16 ho wo co f).length = mapBytes 16 ho wo co ∧
    ∀ y x ch, y < ho → x < wo → ch < (co + 15) / 16 * 16 →
      (outMap 16 ho wo co f)[mapAt 16 ho wo 0 y x ch]? = some (if ch < co then byteOf (f y x ch) else 0)) ∧
  (∀ bs : List Byte, bs ≠ [] → ∃ b, bs[(argMax8 bs).1]? = some b ∧ (argMax8 bs).2 = b.toInt ∧
    ∀ (i : Nat) (v : Byte), bs[i]? = some v → v.toInt ≤ b.toInt ∧ (v = b → (argMax8 bs).1 ≤ i))

/-- WAITSRC leaves the engine to wait for its line, for the sample mark + POS or for the frame mark
+ POS; WAITPH moves the phase mark by DELTA and waits for it; END ends the list. WAITSRC_DONE of a
target that has landed moves the mark to the target and makes the list ready behind the others; of
one overwritten by n frames it does so with DROPPED raised by n and 0x0D05. PORCH_WAITPH_DONE wakes
the list when phase time has reached its target. FRAME_TIMEOUT of a bounded wait whose target has
not landed stops the stream with 0x0D06, and of a wait without limit changes nothing.
ENGINE_COMMAND_DONE leaves the engine to the list it had, if that goes on, and then to the oldest
ready one. (R386, R516, R517, R518, R520, R534) -/
def Obligations.NativeWaits : Prop :=
  ∀ (s : State) (k : Fin 16),
    let x := s.porch.streams.get k
    (∀ c : NCmd, s.engineAt k c → c.ok = true →
      let idle := engineLeave (s.engineHolds (.stream k))
      (c.op = 6 → ∃ t, exec .waitsrc s = .next t ∧ t = { s with porch := t.porch } ∧ t.porch.running = none ∧
        t.porch.sram = s.porch.sram ∧
        (x.kind = 1 → (t.porch.streams.get k).wait =
          .line (if x.capture.isSome ∧ x.lines ≤ c.a then x.starts else x.starts + 1) c.a) ∧
        (x.kind = 2 → (t.porch.streams.get k).wait = .sample (x.sampleMark + c.a)) ∧
        ((x.kind = 3 ∨ x.kind = 4) → (t.porch.streams.get k).wait = .frame (x.frameMark + c.a))) ∧
      (c.op = 10 → let m := x.phaseMark + BitVec.ofNat 48 c.a;
        exec .porchWaitph s = .next (idle.onPStream k fun x => { x with wait := .phase m, phaseMark := m })) ∧
      (c.op = 15 → exec .porchEnd s = .next (idle.onPStream k fun x => { x with listOn := false }))) ∧
    (x.st = .running →
      (srcState x = .here → ∃ t, exec (.waitsrcDone k) s = .next t ∧ (t.porch.streams.get k).wait = .none ∧
        (t.porch.streams.get k).pc = x.pc + 32 ∧ t.porch.queue = s.porch.queue ++ [.stream k] ∧
        (∀ n, x.wait = .sample n → (t.porch.streams.get k).sampleMark = n) ∧
        (∀ n, x.wait = .frame n → (t.porch.streams.get k).frameMark = n)) ∧
      (∀ n, srcState x = .lost n → ∃ t, exec (.waitsrcDone k) s = .next t ∧ t.porch.queue = s.porch.queue ++ [.stream k] ∧
        (t.porch.streams.get k).wait = .none ∧ (t.porch.streams.get k).dropped = satAdd x.dropped n ∧
        (t.porch.streams.get k).lastCond = 0x0D05 ∧
        ((∃ m, x.wait = .sample m) → (t.porch.streams.get k).sampleMark = x.samples.toNat) ∧
        ((∃ m, x.wait = .frame m) → (t.porch.streams.get k).frameMark = x.frames.toNat)) ∧
      (∀ m, x.wait = .phase m → reached s.phase.time m = true → ∃ t, exec (.porchWaitphDone k) s = .next t ∧
        (t.porch.streams.get k).wait = .none ∧ (t.porch.streams.get k).pc = x.pc + 32 ∧
        t.porch.queue = s.porch.queue ++ [.stream k]) ∧
      (srcState x = .notYet → ((∃ a n, x.wait = .line a n) ∨ (∃ n, x.wait = .sample n) ∨ (∃ n, x.wait = .frame n)) →
        (srTimeout x.record ≠ 0 → ∃ t, exec (.frameTimeout (some k)) s = .next t ∧ (t.porch.streams.get k).st = .stopped ∧
          (t.porch.streams.get k).lastCond = 0x0D06 ∧ (t.porch.streams.get k).listOn = false) ∧
        (srTimeout x.record = 0 → exec (.frameTimeout (some k)) s = .next s))) ∧
    (s.porch.running = some (.stream k) → x.issued = true → x.st = .running →
      (x.listOn = true → exec .engineCommandDone s = .next (s.onPStream k fun x => { x with issued := false })) ∧
      (x.listOn = false → ∃ t, exec .engineCommandDone s = .next t ∧ t.porch.running = s.porch.queue.head? ∧
        t.porch.queue = s.porch.queue.tail))

/-- Where the Parlour's current command has the row's OP and is no fault, the engine performs it:
CONV, FC and POOL store their C8 output map in the window, WRW a big-endian word, RESULT sets
CLASS, SCORE and RDY, LOOP loads or decrements its counter, INPUT copies at most LEN bytes of the
oldest unread frame or waits for one; NOP and JMP only go on; WAIT moves the mark by the converted
count and waits for it; END makes the context CLAIMED. An operand that ends beyond 0xFFFF stops the
context with 0x0D0A and touches no memory; an undefined OP, an odd address or a reserved field
stops it with 0x0D09. (R518, R520, R522, R524, R525, R527, R528, R529, R535) -/
def Obligations.ParlourCommands : Prop :=
  (∀ (s : State) (f : ParFetch), s.parlourAt f →
    let p := s.porch.parlour
    let s1 := s.engineHolds .parlour
    let base := p.base.toNat * 65536
    let rd := fun a => zget s.porch.sram (base + a)
    let issued (t : State) : State := t.onParlour fun p => { p with issued := true }
    let stores (i : Instr) (ranges : List (Nat × Nat)) (at_ : Nat) (bs : List Byte) : Prop :=
      ((∀ r ∈ ranges, r.1 + r.2 ≤ 65536) → exec i s = .next (issued (putSram s1 (base + at_) bs))) ∧
      ((∃ r ∈ ranges, 65536 < r.1 + r.2) → exec i s = .next (stopParlour s1 0x0D0A))
    (f.op = 0 → exec .parlourNop s = .next (issued s1)) ∧
    (f.op = 1 →
      let w := f.word 0
      let g : OpShape :=
        { u := 8, h := f.word 5 / 256, w := f.word 5 % 256, cin := 8 * (f.word 6 / 256), cout := 8 * (f.word 6 % 256),
          kh := bitsOf w 11 9 + 1, kw := bitsOf w 8 6 + 1, sy := bitsOf w 5 4 + 1, sx := bitsOf w 5 4 + 1, pad := bitOf w 3,
          relu := bitOf w 2, dw := bitOf w 1, avg := false, mult := f.word 7 / 256, shift := bitsOf (f.word 7) 4 0 }
      let a : OpAddr := ⟨f.word 1, f.word 2, f.word 3, f.word 4⟩
      stores .parlourConv (convRanges g a) a.out (outMap 8 g.ho g.wo g.co (convAt g a rd))) ∧
    (f.op = 2 →
      let g : OpShape :=
        { u := 8, h := 1, w := 1, cin := 8 * (f.word 5 / 256), cout := 8 * (f.word 5 % 256), kh := 1, kw := 1, sy := 1,
          sx := 1, pad := false, relu := bitOf (f.word 0) 2, dw := false, avg := false, mult := f.word 6 / 256,
          shift := bitsOf (f.word 6) 4 0 }
      let a : OpAddr := ⟨f.word 1, f.word 2, f.word 3, f.word 4⟩
      stores .parlourFc (convRanges g a) a.out (outMap 8 1 1 g.cout (convAt g a rd))) ∧
    (f.op = 3 →
      let w := f.word 0
      let c := 8 * (f.word 4 / 256)
      let g : OpShape :=
        { u := 8, h := f.word 3 / 256, w := f.word 3 % 256, cin := c, cout := c, kh := bitsOf w 11 9 + 1,
          kw := bitsOf w 11 9 + 1, sy := bitsOf w 5 4 + 1, sx := bitsOf w 5 4 + 1, pad := false, relu := false, dw := false,
          avg := bitOf w 3, mult := 1, shift := 0 }
      let a : OpAddr := ⟨f.word 1, 0, 0, f.word 2⟩
      stores .parlourPool (poolRanges g a) a.out (outMap 8 g.ho g.wo c (poolAt g a rd))) ∧
    (f.op = 4 → f.word 1 + f.word 2 ≤ 65536 →
      let m := argMax8 (zread s.porch.sram (base + f.word 1) (f.word 2))
      ∃ t, exec .parlourResult s = .next t ∧ t.porch.parlour.rdy = true ∧ t.porch.parlour.cls = BitVec.ofNat 16 m.1 ∧
        t.porch.parlour.score = BitVec.ofInt 8 m.2 ∧ t.porch.parlour.issued = true ∧ t.porch.sram = s.porch.sram ∧
        t.porch.streams = s.porch.streams) ∧
    (f.op = 5 →
      let m := p.mark + BitVec.ofNat 48 (ys2Ticks (f.word 0 % 4096 * 65536 + f.word 1) s.phase.mainsMhz.toNat)
      exec .wait s = .next ((engineLeave s1).onParlour fun p => { p with st := .waiting, wait := .phase m, mark := m })) ∧
    (f.op = 6 → stores .wrw [(f.word 1, 2)] (f.word 1) [BitVec.ofNat 8 (f.word 2 / 256), BitVec.ofNat 8 (f.word 2)]) ∧
    (f.op = 7 → exec .parlourJmp s = .next (issued s1)) ∧
    (f.op = 8 → exec .parlourLoop s = .next (issued (s1.onParlour fun q =>
      { q with loop := BitVec.ofNat 16 ((if p.loop = 0 then f.word 0 % 4096 else p.loop.toNat) - 1), loopAt := f.at_ }))) ∧
    (f.op = 9 →
      (65536 < f.word 1 + f.word 2 → exec .input s = .next (stopParlour s1 0x0D0A)) ∧
      (f.word 1 + f.word 2 ≤ 65536 →
        (inputStream s = none → exec .input s = .next ((engineLeave s1).onParlour fun p =>
          { p with st := .waiting, wait := .input })) ∧
        (∀ k, inputStream s = some k → (s.porch.streams.get k).unread = [] →
          exec .input s = .next ((engineLeave s1).onParlour fun p => { p with st := .waiting, wait := .input })) ∧
        (∀ k u us, inputStream s = some k → (s.porch.streams.get k).unread = u :: us →
          let x := s.porch.streams.get k
          let n := min (f.word 2) (min (frameBytes x.record) (srBufLen x.record))
          exec .input s = .next (issued (((putSram s1 (base + f.word 1)
            (zread s.porch.sram (bufferAt x.record u.buffer) n)).onPStream k fun x => { x with unread := us }).onParlour
              fun p => { p with buffer := u.buffer, waitStamp := u.stamp }))))) ∧
    (f.op = 15 → exec .parlourEnd s = .next ((engineLeave s1).onParlour fun p => { p with st := .claimed, listOn := false }))) ∧
  (∀ s : State, s.engineNext .parlour → s.porch.parlour.issued = false → s.porch.parlour.st = .running →
    2 ≤ s.porch.parlour.cur.bytes.length → (parWords s.porch.parlour.cur.op = 0 ∨ s.porch.parlour.cur.at_ % 2 = 1) →
    ∀ i ∈ ([.parlourNop, .parlourConv, .parlourFc, .parlourPool, .parlourResult, .wait, .wrw, .parlourJmp, .parlourLoop, .input,
      .parlourEnd] : List Instr), exec i s = .next (stopParlour (s.engineHolds .parlour) 0x0D09))

/-- n YS2 ticks are floor((n × M + 250) ÷ 500) phase ticks, at least 1 for n of 1 or more.
PARLOUR_WAIT_DONE of a reached target and INPUT_DONE of an unread frame make the Parlour run its
next command, which it fetched before, and fetch the one after that: the target of a JMP or of a
LOOP whose counter stays nonzero, else the following command. ENGINE_COMMAND_DONE does the same
after a performed command. FRAME_TIMEOUT of a waiting INPUT with a timeout and no frame stops the
context with 0x0D06. (R518, R520, R526, R527, R535) -/
def Obligations.ParlourWaitsAndSteps : Prop :=
  (∀ n m : Nat, ys2Ticks 0 m = 0 ∧ (n ≠ 0 → 1 ≤ ys2Ticks n m ∧ ((n * m + 250) / 500 ≠ 0 → ys2Ticks n m = (n * m + 250) / 500))) ∧
  (∀ s : State,
    let p := s.porch.parlour
    let advanced (t : State) : Prop := t.porch.parlour.cur = p.next ∧ ∃ m, t.porch.parlour.next = parFetch t p.base m ∧
      (p.next.op = 7 → m = p.next.word 1) ∧
      (p.next.op = 8 → (if p.loop = 0 then p.next.word 0 % 4096 else p.loop.toNat) - 1 ≠ 0 → m = p.next.word 1) ∧
      (p.next.op ∉ ([7, 8] : List Nat) → 0 < parWords p.next.op → m = p.next.at_ + 2 * parWords p.next.op)
    (p.st = .waiting →
      (∀ m, p.wait = .phase m → reached s.phase.time m = true → ∃ t, exec .parlourWaitDone s = .next t ∧ advanced t ∧
        t.porch.parlour.st = .running ∧ t.porch.parlour.wait = .none ∧ t.porch.parlour.waitStamp = s.phase.time ∧
        t.porch.queue = s.porch.queue ++ [.parlour] ∧ t.porch.sram = s.porch.sram) ∧
      (p.wait = .input → ∀ k u us, inputStream s = some k → (s.porch.streams.get k).unread = u :: us →
        ∃ t, exec .inputDone s = .next t ∧ advanced t ∧ t.porch.parlour.st = .running ∧ t.porch.parlour.buffer = u.buffer ∧
          t.porch.parlour.waitStamp = u.stamp ∧ (t.porch.streams.get k).unread = us ∧
          t.porch.queue = s.porch.queue ++ [.parlour]) ∧
      (p.wait = .input → (∀ k, inputStream s = some k → (s.porch.streams.get k).unread = []) →
        exec .inputDone s = .next s ∧
        (p.cur.word 0 % 4096 ≠ 0 → ∃ t, exec (.frameTimeout none) s = .next t ∧ t.porch.parlour.st = .stopped ∧
          t.porch.parlour.cond = 0x0D06) ∧
        (p.cur.word 0 % 4096 = 0 → exec (.frameTimeout none) s = .next s))) ∧
    (s.porch.running = some .parlour → p.issued = true → p.st = .running → ∃ t, exec .engineCommandDone s = .next t ∧
      advanced t ∧ t.porch.parlour.issued = false ∧ t.porch.running = some .parlour ∧ t.porch.queue = s.porch.queue))

/-- In stages 1 and 2, outside reset, a verified slot is the next of R568's order not tried yet. A
NOR that answers 0x00 or 0xFF ends the start in 0xF8 and the fans at 30%. A refused slot adds its
code with check number and slot to the ROM's records; the next slot is tried, or the start ends in
0xF3 with no segment loaded. A slot that passes every check starts the Foyer Newel at ENTRY with TM
and IE 0 and runs stage FOYER, which ends in stage 4. Valid records come first, the higher SLOT_SEQ
first; of R569's checks the first that fails refuses. (R568, R569, R570, R572, R584) -/
def Obligations.FirmwareSlots : Prop :=
  (∀ (s : State) (jedec : Byte), s.sys.inReset = false → (s.sys.bootStage = 1 ∨ s.sys.bootStage = 2) →
    ((jedec = 0 ∨ jedec = 0xFF) → exec (.slotVerifyDone jedec) s =
      .next ((s.onSys fun y => { y with bootStage := 0xF8 }).onFuse fun f => { f with fanDuty := 0x1E1E })) ∧
    (jedec ≠ 0 → jedec ≠ 0xFF → ∀ i rest, ((slotOrder s).filter fun i => !s.sys.tried.contains i) = i :: rest →
      let im := (s.sys.fwSlots.get i).image
      match slotRefused s im with
      | some (check, code) => ∃ t, exec (.slotVerifyDone jedec) s = .next t ∧
          t.sys.romLog = s.sys.romLog ++ [(code, BitVec.ofNat 32 (check + 256 * i.1))] ∧ t.sys.tried = s.sys.tried ++ [i] ∧
          t.foyerNewel = s.foyerNewel ∧ t.thr = s.thr ∧
          (rest = [] → t.sys.bootStage = 0xF3 ∧ t.fuse.fanDuty = 0x1E1E) ∧ (rest ≠ [] → t.sys.bootStage = 2 ∧ t.fuse = s.fuse)
      | none => ∃ t u, exec (.slotVerifyDone jedec) s = .next t ∧ t = foyerStage u im s.sys.tried.isEmpty ∧
          u.sys.runningSlot = some i ∧ u.sys.fwVersion = BitVec.ofNat 32 (fieldAt im 16 4) ∧
          u.foyerNewel.pc = BitVec.ofNat 32 (fieldAt im 20 4) ∧ u.foyerNewel.tm = false ∧ u.foyerNewel.ie = false ∧
          u.rooms = s.rooms ∧ u.thr = s.thr ∧ t.sys.bootStage = 4)) ∧
  (∀ s : State, let a := s.sys.fwSlots.get 0; let b := s.sys.fwSlots.get 1;
    slotOrder s = if (a.recordOk = false ∧ b.recordOk = true) ∨ (a.recordOk = true ∧ b.recordOk = true ∧ a.seq.toNat < b.seq.toNat)
      then [1, 0] else [0, 1]) ∧
  (∀ (s : State) (im : List Byte), slotRefused s im =
    if imageShapeOk im = false then some (1, 0x0F01)
    else if Config.keyHashOk s.thr.fuses.fwKeyHash (bytesAt im 32 96) = false then some (2, 0x0F01)
    else if Config.imageSigOk s.thr.fuses.fwKeyHash (im.take (fieldAt im 8 4)) = false then some (3, 0x0F01)
    else if fieldAt im 12 4 < s.thr.fuses.fwSvn.1 then some (4, 0x0F02) else none)

/-- LARDER_TRAINING_DONE in stage 4 fills slot 16; a rate that trains is taken, the zeroing starts
and with it stage CELLAR, in which every stack recovers; after the lowest rate has failed 0x0F04 is
logged and CELLAR runs without a Larder; a higher rate that failed leaves stage 4.
LARDER_ZEROING_DONE leaves no line listed and none poisoned. CELLAR_RECOVERY_DONE takes the newest
valid map copy, with 0x0626 where only the older is valid (the newest record where no block has
gone unvisited for 48 hours) and 0x0627 where none is; STACK_TIMEOUT fails the stack with 0x0F05;
the last of them ends stage CELLAR. HOST_READY sets READY, moves every Storey at rest from OP4 to
OP2 and begins stage FABRIC; FABRIC_TIMEOUT with no Doorway UP ends it. (R57, R260, R263, R455,
R573, R574, R575, R576, R577, R210) -/
def Obligations.StartStages : Prop :=
  ∀ s : State, s.sys.inReset = false →
    (s.sys.bootStage = 4 → ∀ rate : W16,
      (∃ t, exec (.larderTrainingDone rate true) s = .next t ∧ t.sys.bootStage = 5 ∧ t.larder.rateMts = rate ∧
        t.sys.zeroing = true ∧ t.sys.clkRunning.getLsbD 5 = true ∧ t.sys.clkRunning.getLsbD 6 = true ∧
        (t.thr.slots.get 16).isSome = true ∧ t.rooms = s.rooms ∧ ∀ i, (t.stack i).recovering = true) ∧
      (rate = 6400 → ∃ t, exec (.larderTrainingDone rate false) s = .next t ∧ t.sys.bootStage = 5 ∧ t.sys.larderFailed = true ∧
        (t.mgmt.log.head?.map fun l => l.code) = some 0x0F04 ∧ ∀ i, (t.stack i).recovering = true) ∧
      (rate ≠ 6400 → ∃ t, exec (.larderTrainingDone rate false) s = .next t ∧ t.sys = s.sys ∧ t.cellar = s.cellar ∧
        (t.thr.slots.get 16).isSome = true)) ∧
    (s.sys.bootStage = 5 → s.sys.zeroing = true → ∃ t, exec .larderZeroingDone s = .next t ∧ t.larder.mem = [] ∧
      t.larder.poison = [] ∧ t.sys.zeroing = false ∧
      ((∃ i, (s.stack i).recovering = true) → t.sys.bootStage = 5 ∧ t.cellar = s.cellar) ∧
      ((∀ i, (s.stack i).recovering = false) → s.sys.eraseAll = false → s.sys.larderFailed = false → t.sys.bootStage = 6)) ∧
    (∀ i : StoreyId, (s.stack i).recovering = true → s.sys.bootStage = 5 → s.sys.clkRunning.getLsbD 6 = true →
      ((∀ j, j ≠ i → (s.stack j).recovering = false) → s.sys.zeroing = false → s.sys.eraseAll = false →
        s.sys.larderFailed = false → (∀ a b, ∃ t, exec (.cellarRecoveryDone i a b) s = .next t ∧ t.sys.bootStage = 6) ∧
          ∃ t, exec (.stackTimeout i) s = .next t ∧ t.sys.bootStage = 6) ∧
      (∀ j, j ≠ i → (s.stack j).recovering = true →
        (∃ t, exec (.stackTimeout i) s = .next t ∧ (t.stack i).st = .failed ∧ (t.stack i).recovering = false ∧
          t.stack j = s.stack j ∧ (t.mgmt.log.head?.map fun l => (l.code, l.unit)) = some (0x0F05, stackUnit i)) ∧
        (((s.stack i).maps.get 0).crcOk = true → ((s.stack i).maps.get 1).crcOk = true →
          (∃ t, exec (.cellarRecoveryDone i true true) s = .next t ∧ (t.stack i).recovering = false ∧
            (t.stack i).mapResult = 0 ∧ t.stack j = s.stack j ∧ t.sys = s.sys) ∧
          (((s.stack i).maps.get 0).seq.toNat < ((s.stack i).maps.get 1).seq.toNat →
            1 ≤ s.cellar.scrubDays.toNat → s.cellar.scrubDays.toNat ≤ 255 →
            (∀ b ∈ (s.stack i).blocks, poweredUs s (s.stack i) ≤ b.2.visited + 172800000000) →
            ∃ t, exec (.cellarRecoveryDone i true false) s = .next t ∧ (t.stack i).mapResult = 1 ∧ t.stack j = s.stack j ∧
              (t.mgmt.log.head?.map fun l => (l.code, l.unit)) = some (0x0626, stackUnit i))) ∧
        (∃ t, exec (.cellarRecoveryDone i false false) s = .next t ∧ (t.stack i).mapResult = 2 ∧ t.stack j = s.stack j ∧
          (∀ b ∈ (t.stack i).blocks, b.2.st = .retired ∨ b.2.st = .toErase) ∧
          (t.mgmt.log.head?.map fun l => (l.code, l.unit)) = some (0x0627, stackUnit i)))) ∧
    (s.sys.bootStage = 6 → ∃ t, exec .hostReady s = .next t ∧ t.host.ready = true ∧ t.sys.bootStage = 7 ∧ t.rooms = s.rooms ∧
      ∀ i : StoreyId, (s.storey i).op = 4 → (s.storey i).opCeil = 4 → (s.storey i).step = .idle → (s.storey i).stuck = false →
        s.sys.domGate.getLsbD i.1 = false → (t.storey i).target = 2 ∧ (t.storey i).step ≠ .idle) ∧
    (s.sys.bootStage = 7 → (∀ d, (s.door d).st ≠ .up) → s.fabric.assignWait = false → s.phase.st = .unlocked →
      s.phase.beaconSeen = false → exec .fabricTimeout s = .next (s.onSys fun y => { y with bootStage := 8 }))

/-- For every command and state, a step of the state with the command in front of its queue is the
command's effect on the state with the queue's rest; with no command waiting a step answers a next
state, in which nothing but the waiting accesses of the host, what they read or write, and the
Threshold's microsecond count has changed when no access waits (the model's choice, log entry 1).
(R157, R549) -/
def Obligations.StepRunsTheFrontCommand : Prop :=
  (∀ (c : Instr) (s : State), step { s with pending := c :: s.pending } = exec c s) ∧
  (∀ s : State, s.pending = [] → ∃ t, step s = .next t ∧
    (s.host.barBlocked = [] → t = s.onThr fun x => { x with us := x.us + 1 }))

/-- After reset the start is in stage ROM with READY 0, every Storey is at OP4 and IDLE, every wing
but the house wing is FREE and no image is held, every Porch stream, page and the Parlour are free,
no command waits, and every memory is in canonical form. (R40, R144, R223, R511, R513, R523, R564,
R571) -/
def Obligations.StateAfterReset : Prop :=
  State.reset.sys.bootStage = 1 ∧ State.reset.host.ready = false ∧
    (∀ i, (State.reset.storey i).op = 4 ∧ (State.reset.storey i).step = .idle) ∧
    (∀ w, w ≠ 0 → (State.reset.wing w).st = .free) ∧ (∀ w i, (State.reset.image w i).st = .empty) ∧
    (∀ k, (State.reset.porch.streams.get k).st = .free) ∧ (∀ g, (State.reset.porch.pages.get g).held = false) ∧
    State.reset.porch.parlour.st = .free ∧ State.reset.pending = [] ∧ State.reset.memWf

/-- For every instruction of the Newel with fields of its format in range, the decoder reads from
its word the instruction and every field at its value; and every word that decodes is the word of
its own well-formed fields, so no two instructions share a word and no bit is dropped. (R335, R347,
R356, R357, R359) -/
def Obligations.NewelWordsAndFields : Prop :=
  (∀ i : NInstr, i.wf = true → newelDecode (newelEncode i) = some i.op ∧ newelFields i.op (newelEncode i) = i) ∧
  (∀ (w : W32) (k : NOp), newelDecode w = some k → (newelFields k w).wf = true ∧ newelEncode (newelFields k w) = w)

/-- In every state whose memories are in canonical form (addresses rise strictly; no zero is listed
in a memory whose unlisted bytes read 0), every step that answers a next state leaves all of them
so: the Larder's listing, each Room's Pantry, Newel memories and stream memories, Porch SRAM, the
memories of the Porch and Foyer Newels and the Foyer's private memory. (R265, R303, R339, R505,
R511, R588) -/
def Obligations.MemoriesStayCanonical : Prop :=
  ∀ s t : State, s.memWf → step s = .next t → t.memWf
end

