-- ==== Sys2Proof/Laws/Exec.lean ====
section
/-!
SUPPORT. Laws/Exec.lean: each arm of `exec` as an equation, so that no proof unfolds the whole match.
-/
namespace Sys2Proof.Machine
open Sys2Proof

@[simp] theorem exec_registerWrite (off : Nat) (bs : List Byte) (s : State) :
    exec (.registerWrite off bs) s = execRegisterWrite off bs s := rfl
@[simp] theorem exec_wingCreate (s : State) :
    exec .wingCreate s = execWingCreate s := rfl
@[simp] theorem exec_wingDestroy (s : State) :
    exec .wingDestroy s = execWingDestroy s := rfl
@[simp] theorem exec_clearingZeroingDone (w : WingId) (s : State) :
    exec (.clearingZeroingDone w) s = execClearingZeroingDone w s := rfl
@[simp] theorem exec_controlRun (s : State) :
    exec .controlRun s = execControlRun s := rfl
@[simp] theorem exec_controlFreeze (s : State) :
    exec .controlFreeze s = execControlFreeze s := rfl
@[simp] theorem exec_controlThaw (s : State) :
    exec .controlThaw s = execControlThaw s := rfl
@[simp] theorem exec_wingFrozen (w : WingId) (s : State) :
    exec (.wingFrozen w) s = execWingFrozen w s := rfl
@[simp] theorem exec_houseFloorWrite (s : State) :
    exec .houseFloorWrite s = execHouseFloorWrite s := rfl
@[simp] theorem exec_deviceCapWrite (s : State) :
    exec .deviceCapWrite s = execDeviceCapWrite s := rfl
@[simp] theorem exec_socketBudgetWrite (s : State) :
    exec .socketBudgetWrite s = execSocketBudgetWrite s := rfl
@[simp] theorem exec_norWriteDone (s : State) :
    exec .norWriteDone s = execNorWriteDone s := rfl
@[simp] theorem exec_keyInstall (s : State) :
    exec .keyInstall s = execKeyInstall s := rfl
@[simp] theorem exec_keyRemove (s : State) :
    exec .keyRemove s = execKeyRemove s := rfl
@[simp] theorem exec_provision (s : State) :
    exec .provision s = execProvision s := rfl
@[simp] theorem exec_fwImage (s : State) :
    exec .fwImage s = execFwImage s := rfl
@[simp] theorem exec_fwNorUpdateDone (s : State) :
    exec .fwNorUpdateDone s = execFwNorUpdateDone s := rfl
@[simp] theorem exec_debugUnlock (s : State) :
    exec .debugUnlock s = execDebugUnlock s := rfl
@[simp] theorem exec_debugLock (s : State) :
    exec .debugLock s = execDebugLock s := rfl
@[simp] theorem exec_alarmReset (s : State) :
    exec .alarmReset s = execAlarmReset s := rfl
@[simp] theorem exec_levelMap (s : State) :
    exec .levelMap s = execLevelMap s := rfl
@[simp] theorem exec_supplyAlarm (s : State) :
    exec .supplyAlarm s = execSupplyAlarm s := rfl
@[simp] theorem exec_clockAlarm (s : State) :
    exec .clockAlarm s = execClockAlarm s := rfl
@[simp] theorem exec_tempAlarm (s : State) :
    exec .tempAlarm s = execTempAlarm s := rfl
@[simp] theorem exec_lidAlarm (s : State) :
    exec .lidAlarm s = execLidAlarm s := rfl
@[simp] theorem exec_tapInstruction (i : TapInstr) (s : State) :
    exec (.tapInstruction i) s = execTapInstruction i s := rfl
@[simp] theorem exec_eraseEpochProgrammed (s : State) :
    exec .eraseEpochProgrammed s = execEraseEpochProgrammed s := rfl
@[simp] theorem exec_keyFileErased (s : State) :
    exec .keyFileErased s = execKeyFileErased s := rfl
@[simp] theorem exec_eraseScrubDone (s : State) :
    exec .eraseScrubDone s = execEraseScrubDone s := rfl
@[simp] theorem exec_porchSramZeroed (s : State) :
    exec .porchSramZeroed s = execPorchSramZeroed s := rfl
@[simp] theorem exec_canFrame (f : CanFrame) (s : State) :
    exec (.canFrame f) s = execCanFrame f s := rfl
@[simp] theorem exec_mbxGo (w : WingId) (k : Fin 4) (seg : BitVec 4) (len : Nat) (last : Bool) (irq : Bool) (s : State) :
    exec (.mbxGo w k seg len last irq) s = execMbxGo w k seg len last irq s := rfl
@[simp] theorem exec_mbxCancel (w : WingId) (k : Fin 4) (s : State) :
    exec (.mbxCancel w k) s = execMbxCancel w k s := rfl
@[simp] theorem exec_mbxNext (w : WingId) (k : Fin 4) (s : State) :
    exec (.mbxNext w k) s = execMbxNext w k s := rfl
@[simp] theorem exec_segTimeout (who : Requester) (seq : BitVec 6) (s : State) :
    exec (.segTimeout who seq) s = execSegTimeout who seq s := rfl
@[simp] theorem exec_mladyxRead (s : State) :
    exec .mladyxRead s = execMladyxRead s := rfl
@[simp] theorem exec_mladyxWrite (s : State) :
    exec .mladyxWrite s = execMladyxWrite s := rfl
@[simp] theorem exec_mladyxAnswerSent (s : State) :
    exec .mladyxAnswerSent s = execMladyxAnswerSent s := rfl
@[simp] theorem exec_alertQueueSend (s : State) :
    exec .alertQueueSend s = execAlertQueueSend s := rfl
@[simp] theorem exec_canBusOffRecovery (s : State) :
    exec .canBusOffRecovery s = execCanBusOffRecovery s := rfl
@[simp] theorem exec_disturbLimitWrite (s : State) :
    exec .disturbLimitWrite s = execDisturbLimitWrite s := rfl
@[simp] theorem exec_configRequest (q : CfgReq) (s : State) :
    exec (.configRequest q) s = execConfigRequest q s := rfl
@[simp] theorem exec_functionLevelReset (s : State) :
    exec .functionLevelReset s = execFunctionLevelReset s := rfl
@[simp] theorem exec_ringEnable (w : WingId) (s : State) :
    exec (.ringEnable w) s = execRingEnable w s := rfl
@[simp] theorem exec_ringEnableDone (w : WingId) (s : State) :
    exec (.ringEnableDone w) s = execRingEnableDone w s := rfl
@[simp] theorem exec_ringDisable (w : WingId) (s : State) :
    exec (.ringDisable w) s = execRingDisable w s := rfl
@[simp] theorem exec_sqDoorbell (w : WingId) (v : BitVec 12) (s : State) :
    exec (.sqDoorbell w v) s = execSqDoorbell w v s := rfl
@[simp] theorem exec_descriptorCopy (w : WingId) (s : State) :
    exec (.descriptorCopy w) s = execDescriptorCopy w s := rfl
@[simp] theorem exec_completionSlotReserve (w : WingId) (s : State) :
    exec (.completionSlotReserve w) s = execCompletionSlotReserve w s := rfl
@[simp] theorem exec_cqHeadWrite (w : WingId) (v : BitVec 12) (s : State) :
    exec (.cqHeadWrite w v) s = execCqHeadWrite w v s := rfl
@[simp] theorem exec_jobNop (w : WingId) (s : State) :
    exec (.jobNop w) s = execJobNop w s := rfl
@[simp] theorem exec_jobProgramLoad (w : WingId) (s : State) :
    exec (.jobProgramLoad w) s = execJobProgramLoad w s := rfl
@[simp] theorem exec_programLoadDone (w : WingId) (serial : Nat) (s : State) :
    exec (.programLoadDone w serial) s = execProgramLoadDone w serial s := rfl
@[simp] theorem exec_jobRun (w : WingId) (s : State) :
    exec (.jobRun w) s = execJobRun w s := rfl
@[simp] theorem exec_jobHatchCopy (w : WingId) (s : State) :
    exec (.jobHatchCopy w) s = execJobHatchCopy w s := rfl
@[simp] theorem exec_hatchCopyDone (w : WingId) (s : State) :
    exec (.hatchCopyDone w) s = execHatchCopyDone w s := rfl
@[simp] theorem exec_msixHoldoffExpiry (v : Fin 32) (s : State) :
    exec (.msixHoldoffExpiry v) s = execMsixHoldoffExpiry v s := rfl
@[simp] theorem exec_pcieCompletion (w : WingId) (tag : Nat) (data : List Byte) (ok : Bool) (s : State) :
    exec (.pcieCompletion w tag data ok) s = execPcieCompletion w tag data ok s := rfl
@[simp] theorem exec_pcieCompletionTimeout (w : WingId) (tag : Nat) (s : State) :
    exec (.pcieCompletionTimeout w tag) s = execPcieCompletionTimeout w tag s := rfl
@[simp] theorem exec_jobImageLoad (w : WingId) (s : State) :
    exec (.jobImageLoad w) s = execJobImageLoad w s := rfl
@[simp] theorem exec_imageLoadDone (w : WingId) (serial : Nat) (s : State) :
    exec (.imageLoadDone w serial) s = execImageLoadDone w serial s := rfl
@[simp] theorem exec_jobImageCommit (w : WingId) (s : State) :
    exec (.jobImageCommit w) s = execJobImageCommit w s := rfl
@[simp] theorem exec_jobImageErase (w : WingId) (s : State) :
    exec (.jobImageErase w) s = execJobImageErase w s := rfl
@[simp] theorem exec_jobCollective (w : WingId) (s : State) :
    exec (.jobCollective w) s = execJobCollective w s := rfl
@[simp] theorem exec_hatchWindowWrite (w : WingId) (off : Nat) (bs : List Byte) (be : List Bool) (s : State) :
    exec (.hatchWindowWrite w off bs be) s = execHatchWindowWrite w off bs be s := rfl
@[simp] theorem exec_hatchWindowRead (w : WingId) (off : Nat) (n : Nat) (s : State) :
    exec (.hatchWindowRead w off n) s = execHatchWindowRead w off n s := rfl
@[simp] theorem exec_hatchPortWrite (w : WingId) (bs : List Byte) (full : Bool) (s : State) :
    exec (.hatchPortWrite w bs full) s = execHatchPortWrite w bs full s := rfl
@[simp] theorem exec_hatchPortRead (w : WingId) (n : Nat) (s : State) :
    exec (.hatchPortRead w n) s = execHatchPortRead w n s := rfl
@[simp] theorem exec_hatchAddrWrite (w : WingId) (a : W64) (s : State) :
    exec (.hatchAddrWrite w a) s = execHatchAddrWrite w a s := rfl
@[simp] theorem exec_hatchFlush (w : WingId) (s : State) :
    exec (.hatchFlush w) s = execHatchFlush w s := rfl
@[simp] theorem exec_hatchReadaheadFill (w : WingId) (s : State) :
    exec (.hatchReadaheadFill w) s = execHatchReadaheadFill w s := rfl
@[simp] theorem exec_phaseTick (s : State) :
    exec .phaseTick s = execPhaseTick s := rfl
@[simp] theorem exec_halfCycleBoundary (s : State) :
    exec .halfCycleBoundary s = execHalfCycleBoundary s := rfl
@[simp] theorem exec_mainsEdge (dt : Nat) (s : State) :
    exec (.mainsEdge dt) s = execMainsEdge dt s := rfl
@[simp] theorem exec_mainsEdgeMissing (s : State) :
    exec .mainsEdgeMissing s = execMainsEdgeMissing s := rfl
@[simp] theorem exec_unlockedDecision (s : State) :
    exec .unlockedDecision s = execUnlockedDecision s := rfl
@[simp] theorem exec_holdoverExpiry (s : State) :
    exec .holdoverExpiry s = execHoldoverExpiry s := rfl
@[simp] theorem exec_unlockedAccountClose (s : State) :
    exec .unlockedAccountClose s = execUnlockedAccountClose s := rfl
@[simp] theorem exec_beacon (residence : Nat) (s : State) :
    exec (.beacon residence) s = execBeacon residence s := rfl
@[simp] theorem exec_beaconMissing (s : State) :
    exec .beaconMissing s = execBeaconMissing s := rfl
@[simp] theorem exec_phCmpClaim (n : Fin 64) (w : WingId) (s : State) :
    exec (.phCmpClaim n w) s = execPhCmpClaim n w s := rfl
@[simp] theorem exec_phCmpRelease (n : Fin 64) (w : WingId) (s : State) :
    exec (.phCmpRelease n w) s = execPhCmpRelease n w s := rfl
@[simp] theorem exec_phCmpArm (n : Fin 64) (room : RoomId) (clrLate : Bool) (clrFired : Bool) (event : Bool) (record : Bool) (s : State) :
    exec (.phCmpArm n room clrLate clrFired event record) s = execPhCmpArm n room clrLate clrFired event record s := rfl
@[simp] theorem exec_phCmpDisarm (n : Fin 64) (room : RoomId) (clrLate : Bool) (clrFired : Bool) (event : Bool) (record : Bool) (s : State) :
    exec (.phCmpDisarm n room clrLate clrFired event record) s = execPhCmpDisarm n room clrLate clrFired event record s := rfl
@[simp] theorem exec_phCmpTimeWrite (n : Fin 64) (t : W48) (s : State) :
    exec (.phCmpTimeWrite n t) s = execPhCmpTimeWrite n t s := rfl
@[simp] theorem exec_phCmpRecWrite (n : Fin 64) (a : BitVec 36) (s : State) :
    exec (.phCmpRecWrite n a) s = execPhCmpRecWrite n a s := rfl
@[simp] theorem exec_phNowLowRead (s : State) :
    exec .phNowLowRead s = execPhNowLowRead s := rfl
@[simp] theorem exec_fuseReport (s : State) :
    exec .fuseReport s = execFuseReport s := rfl
@[simp] theorem exec_reportDeadline (s : State) :
    exec .reportDeadline s = execReportDeadline s := rfl
@[simp] theorem exec_fuseGrant (s : State) :
    exec .fuseGrant s = execFuseGrant s := rfl
@[simp] theorem exec_grantDeadline (s : State) :
    exec .grantDeadline s = execGrantDeadline s := rfl
@[simp] theorem exec_pmbusTransactionDone (r : Fin 4) (ok : Bool) (round : Option (W16 × W16)) (rail : Option (StoreyId × W16)) (s : State) :
    exec (.pmbusTransactionDone r ok round rail) s = execPmbusTransactionDone r ok round rail s := rfl
@[simp] theorem exec_stretchStep (e0 : StepEnergy) (s : State) :
    exec (.stretchStep e0) s = execStretchStep e0 s := rfl
@[simp] theorem exec_cellarSlot (i : StoreyId) (s : State) :
    exec (.cellarSlot i) s = execCellarSlot i s := rfl
@[simp] theorem exec_pageReadDone (i : StoreyId) (id : ReadId) (ok : Bool) (s : State) :
    exec (.pageReadDone i id ok) s = execPageReadDone i id ok s := rfl
@[simp] theorem exec_reconstructionDone (i : StoreyId) (id : ReadId) (ok : Bool) (s : State) :
    exec (.reconstructionDone i id ok) s = execReconstructionDone i id ok s := rfl
@[simp] theorem exec_pageProgramDone (i : StoreyId) (b : Nat) (pos : Nat) (ok : Bool) (s : State) :
    exec (.pageProgramDone i b pos ok) s = execPageProgramDone i b pos ok s := rfl
@[simp] theorem exec_rateUpdate (s : State) :
    exec .rateUpdate s = execRateUpdate s := rfl
@[simp] theorem exec_imageCommitEntry (s : State) :
    exec .imageCommitEntry s = execImageCommitEntry s := rfl
@[simp] theorem exec_imageEraseEntry (s : State) :
    exec .imageEraseEntry s = execImageEraseEntry s := rfl
@[simp] theorem exec_relocationStart (i : StoreyId) (s : State) :
    exec (.relocationStart i) s = execRelocationStart i s := rfl
@[simp] theorem exec_mapSnapshotDone (i : StoreyId) (s : State) :
    exec (.mapSnapshotDone i) s = execMapSnapshotDone i s := rfl
@[simp] theorem exec_blockEraseStart (i : StoreyId) (b : Nat) (s : State) :
    exec (.blockEraseStart i b) s = execBlockEraseStart i b s := rfl
@[simp] theorem exec_blockEraseDone (i : StoreyId) (b : Nat) (ok : Bool) (s : State) :
    exec (.blockEraseDone i b ok) s = execBlockEraseDone i b ok s := rfl
@[simp] theorem exec_scrubPassStart (i : StoreyId) (s : State) :
    exec (.scrubPassStart i) s = execScrubPassStart i s := rfl
@[simp] theorem exec_scrubNow (i : StoreyId) (s : State) :
    exec (.scrubNow i) s = execScrubNow i s := rfl
@[simp] theorem exec_dieCommandTimeout (i : StoreyId) (d : Fin 9) (s : State) :
    exec (.dieCommandTimeout i d) s = execDieCommandTimeout i d s := rfl
@[simp] theorem exec_larderRequestSlot (h : Fin 4) (patrolDue : Bool) (errs : Nat) (s : State) :
    exec (.larderRequestSlot h patrolDue errs) s = execLarderRequestSlot h patrolDue errs s := rfl
@[simp] theorem exec_gets (line : Nat) (s : State) :
    exec (.gets line) s = execGets line s := rfl
@[simp] theorem exec_getx (line : Nat) (s : State) :
    exec (.getx line) s = execGetx line s := rfl
@[simp] theorem exec_upg (line : Nat) (s : State) :
    exec (.upg line) s = execUpg line s := rfl
@[simp] theorem exec_atom (line : Nat) (s : State) :
    exec (.atom line) s = execAtom line s := rfl
@[simp] theorem exec_ncRd (line : Nat) (s : State) :
    exec (.ncRd line) s = execNcRd line s := rfl
@[simp] theorem exec_ncWr (line : Nat) (s : State) :
    exec (.ncWr line) s = execNcWr line s := rfl
@[simp] theorem exec_fwdGets (c : CoreId) (line : Nat) (s : State) :
    exec (.fwdGets c line) s = execFwdGets c line s := rfl
@[simp] theorem exec_fwdGetx (c : CoreId) (line : Nat) (s : State) :
    exec (.fwdGetx c line) s = execFwdGetx c line s := rfl
@[simp] theorem exec_inv (c : CoreId) (line : Nat) (s : State) :
    exec (.inv c line) s = execInv c line s := rfl
@[simp] theorem exec_binv (c : CoreId) (line : Nat) (s : State) :
    exec (.binv c line) s = execBinv c line s := rfl
@[simp] theorem exec_ack (c : CoreId) (line : Nat) (s : State) :
    exec (.ack c line) s = execAck c line s := rfl
@[simp] theorem exec_wbPending (c : CoreId) (line : Nat) (s : State) :
    exec (.wbPending c line) s = execWbPending c line s := rfl
@[simp] theorem exec_dat (c : CoreId) (line : Nat) (s : State) :
    exec (.dat c line) s = execDat c line s := rfl
@[simp] theorem exec_wb (c : CoreId) (line : Nat) (s : State) :
    exec (.wb c line) s = execWb c line s := rfl
@[simp] theorem exec_cmp (c : CoreId) (line : Nat) (s : State) :
    exec (.cmp c line) s = execCmp c line s := rfl
@[simp] theorem exec_wbAck (c : CoreId) (line : Nat) (s : State) :
    exec (.wbAck c line) s = execWbAck c line s := rfl
@[simp] theorem exec_ncAck (p : Agent) (line : Nat) (s : State) :
    exec (.ncAck p line) s = execNcAck p line s := rfl
@[simp] theorem exec_atomDone (p : Agent) (line : Nat) (s : State) :
    exec (.atomDone p line) s = execAtomDone p line s := rfl
@[simp] theorem exec_datS (c : CoreId) (line : Nat) (s : State) :
    exec (.datS c line) s = execDatS c line s := rfl
@[simp] theorem exec_datE (c : CoreId) (line : Nat) (s : State) :
    exec (.datE c line) s = execDatE c line s := rfl
@[simp] theorem exec_datM (c : CoreId) (line : Nat) (s : State) :
    exec (.datM c line) s = execDatM c line s := rfl
@[simp] theorem exec_datNc (p : Agent) (line : Nat) (s : State) :
    exec (.datNc p line) s = execDatNc p line s := rfl
@[simp] theorem exec_larderAccessDone (line : Nat) (errs : Nat) (s : State) :
    exec (.larderAccessDone line errs) s = execLarderAccessDone line errs s := rfl
@[simp] theorem exec_farAtomicIdle (line : Nat) (s : State) :
    exec (.farAtomicIdle line) s = execFarAtomicIdle line s := rfl
@[simp] theorem exec_regionEntryWrite (n : Fin 16) (reg : Fin 4) (v : W32) (s : State) :
    exec (.regionEntryWrite n reg v) s = execRegionEntryWrite n reg v s := rfl
@[simp] theorem exec_storeBufferDrain (c : CoreId) (s : State) :
    exec (.storeBufferDrain c) s = execStoreBufferDrain c s := rfl
@[simp] theorem exec_pantryRangeClaim (r : RoomId) (range : Fin 16) (task : BitVec 4) (base : BitVec 11) (lenM1 : BitVec 11) (s : State) :
    exec (.pantryRangeClaim r range task base lenM1) s = execPantryRangeClaim r range task base lenM1 s := rfl
@[simp] theorem exec_pantryRangeRelease (r : RoomId) (range : Fin 16) (task : BitVec 4) (s : State) :
    exec (.pantryRangeRelease r range task) s = execPantryRangeRelease r range task s := rfl
@[simp] theorem exec_roomTaskWrite (r : RoomId) (task : BitVec 4) (range : BitVec 4) (s : State) :
    exec (.roomTaskWrite r task range) s = execRoomTaskWrite r task range s := rfl
@[simp] theorem exec_hqConfigWrite (r : RoomId) (q : Fin 32) (kind : HqKind) (task : BitVec 4) (destRoom : RoomId) (destQ : Fin 32) (auxQ : Fin 32) (s : State) :
    exec (.hqConfigWrite r q kind task destRoom destQ auxQ) s = execHqConfigWrite r q kind task destRoom destQ auxQ s := rfl
@[simp] theorem exec_linkMoveStart (r : RoomId) (q : Fin 32) (s : State) :
    exec (.linkMoveStart r q) s = execLinkMoveStart r q s := rfl
@[simp] theorem exec_linkMoveDone (r : RoomId) (q : Fin 32) (s : State) :
    exec (.linkMoveDone r q) s = execLinkMoveDone r q s := rfl
@[simp] theorem exec_waitLimitExpiry (r : RoomId) (agent : Fin 3) (s : State) :
    exec (.waitLimitExpiry r agent) s = execWaitLimitExpiry r agent s := rfl
@[simp] theorem exec_stallWatchFire (r : RoomId) (s : State) :
    exec (.stallWatchFire r) s = execStallWatchFire r s := rfl
@[simp] theorem exec_storeyWatchFire (i : StoreyId) (s : State) :
    exec (.storeyWatchFire i) s = execStoreyWatchFire i s := rfl
@[simp] theorem exec_roomIdle (r : RoomId) (s : State) :
    exec (.roomIdle r) s = execRoomIdle r s := rfl
@[simp] theorem exec_roomGangWrite (i : StoreyId) (gang : Byte) (lockstep : BitVec 4) (s : State) :
    exec (.roomGangWrite i gang lockstep) s = execRoomGangWrite i gang lockstep s := rfl
@[simp] theorem exec_pantryPeek (r : RoomId) (slot : BitVec 14) (tagSet : Bool) (s : State) :
    exec (.pantryPeek r slot tagSet) s = execPantryPeek r slot tagSet s := rfl
@[simp] theorem exec_pantryForce (r : RoomId) (slot : BitVec 14) (tagSet : Bool) (s : State) :
    exec (.pantryForce r slot tagSet) s = execPantryForce r slot tagSet s := rfl
@[simp] theorem exec_add (c : CoreId) (s : State) :
    exec (.add c) s = execAdd c s := rfl
@[simp] theorem exec_sub (c : CoreId) (s : State) :
    exec (.sub c) s = execSub c s := rfl
@[simp] theorem exec_and (c : CoreId) (s : State) :
    exec (.and c) s = execAnd c s := rfl
@[simp] theorem exec_or (c : CoreId) (s : State) :
    exec (.or c) s = execOr c s := rfl
@[simp] theorem exec_xor (c : CoreId) (s : State) :
    exec (.xor c) s = execXor c s := rfl
@[simp] theorem exec_sll (c : CoreId) (s : State) :
    exec (.sll c) s = execSll c s := rfl
@[simp] theorem exec_srl (c : CoreId) (s : State) :
    exec (.srl c) s = execSrl c s := rfl
@[simp] theorem exec_sra (c : CoreId) (s : State) :
    exec (.sra c) s = execSra c s := rfl
@[simp] theorem exec_slt (c : CoreId) (s : State) :
    exec (.slt c) s = execSlt c s := rfl
@[simp] theorem exec_sltu (c : CoreId) (s : State) :
    exec (.sltu c) s = execSltu c s := rfl
@[simp] theorem exec_mul (c : CoreId) (s : State) :
    exec (.mul c) s = execMul c s := rfl
@[simp] theorem exec_mulh (c : CoreId) (s : State) :
    exec (.mulh c) s = execMulh c s := rfl
@[simp] theorem exec_mulhu (c : CoreId) (s : State) :
    exec (.mulhu c) s = execMulhu c s := rfl
@[simp] theorem exec_div (c : CoreId) (s : State) :
    exec (.div c) s = execDiv c s := rfl
@[simp] theorem exec_divu (c : CoreId) (s : State) :
    exec (.divu c) s = execDivu c s := rfl
@[simp] theorem exec_rem (c : CoreId) (s : State) :
    exec (.rem c) s = execRem c s := rfl
@[simp] theorem exec_remu (c : CoreId) (s : State) :
    exec (.remu c) s = execRemu c s := rfl
@[simp] theorem exec_addi (c : CoreId) (s : State) :
    exec (.addi c) s = execAddi c s := rfl
@[simp] theorem exec_andi (c : CoreId) (s : State) :
    exec (.andi c) s = execAndi c s := rfl
@[simp] theorem exec_ori (c : CoreId) (s : State) :
    exec (.ori c) s = execOri c s := rfl
@[simp] theorem exec_xori (c : CoreId) (s : State) :
    exec (.xori c) s = execXori c s := rfl
@[simp] theorem exec_slli (c : CoreId) (s : State) :
    exec (.slli c) s = execSlli c s := rfl
@[simp] theorem exec_srli (c : CoreId) (s : State) :
    exec (.srli c) s = execSrli c s := rfl
@[simp] theorem exec_srai (c : CoreId) (s : State) :
    exec (.srai c) s = execSrai c s := rfl
@[simp] theorem exec_slti (c : CoreId) (s : State) :
    exec (.slti c) s = execSlti c s := rfl
@[simp] theorem exec_sltiu (c : CoreId) (s : State) :
    exec (.sltiu c) s = execSltiu c s := rfl
@[simp] theorem exec_lui (c : CoreId) (s : State) :
    exec (.lui c) s = execLui c s := rfl
@[simp] theorem exec_ldw (c : CoreId) (e : RoomErr) (s : State) :
    exec (.ldw c e) s = execLdw c e s := rfl
@[simp] theorem exec_ldh (c : CoreId) (s : State) :
    exec (.ldh c) s = execLdh c s := rfl
@[simp] theorem exec_ldhu (c : CoreId) (s : State) :
    exec (.ldhu c) s = execLdhu c s := rfl
@[simp] theorem exec_ldb (c : CoreId) (s : State) :
    exec (.ldb c) s = execLdb c s := rfl
@[simp] theorem exec_ldbu (c : CoreId) (s : State) :
    exec (.ldbu c) s = execLdbu c s := rfl
@[simp] theorem exec_stw (c : CoreId) (s : State) :
    exec (.stw c) s = execStw c s := rfl
@[simp] theorem exec_sth (c : CoreId) (s : State) :
    exec (.sth c) s = execSth c s := rfl
@[simp] theorem exec_stb (c : CoreId) (s : State) :
    exec (.stb c) s = execStb c s := rfl
@[simp] theorem exec_ldfk (c : CoreId) (s : State) :
    exec (.ldfk c) s = execLdfk c s := rfl
@[simp] theorem exec_ldfd (c : CoreId) (s : State) :
    exec (.ldfd c) s = execLdfd c s := rfl
@[simp] theorem exec_stf (c : CoreId) (s : State) :
    exec (.stf c) s = execStf c s := rfl
@[simp] theorem exec_atomAdd (c : CoreId) (s : State) :
    exec (.atomAdd c) s = execAtomAdd c s := rfl
@[simp] theorem exec_atomSwap (c : CoreId) (s : State) :
    exec (.atomSwap c) s = execAtomSwap c s := rfl
@[simp] theorem exec_atomCas (c : CoreId) (s : State) :
    exec (.atomCas c) s = execAtomCas c s := rfl
@[simp] theorem exec_atomMinSigned (c : CoreId) (s : State) :
    exec (.atomMinSigned c) s = execAtomMinSigned c s := rfl
@[simp] theorem exec_atomMaxSigned (c : CoreId) (s : State) :
    exec (.atomMaxSigned c) s = execAtomMaxSigned c s := rfl
@[simp] theorem exec_atomMinUnsigned (c : CoreId) (s : State) :
    exec (.atomMinUnsigned c) s = execAtomMinUnsigned c s := rfl
@[simp] theorem exec_atomMaxUnsigned (c : CoreId) (s : State) :
    exec (.atomMaxUnsigned c) s = execAtomMaxUnsigned c s := rfl
@[simp] theorem exec_beq (c : CoreId) (s : State) :
    exec (.beq c) s = execBeq c s := rfl
@[simp] theorem exec_bne (c : CoreId) (s : State) :
    exec (.bne c) s = execBne c s := rfl
@[simp] theorem exec_blt (c : CoreId) (s : State) :
    exec (.blt c) s = execBlt c s := rfl
@[simp] theorem exec_bge (c : CoreId) (s : State) :
    exec (.bge c) s = execBge c s := rfl
@[simp] theorem exec_bltu (c : CoreId) (s : State) :
    exec (.bltu c) s = execBltu c s := rfl
@[simp] theorem exec_bgeu (c : CoreId) (s : State) :
    exec (.bgeu c) s = execBgeu c s := rfl
@[simp] theorem exec_jmp (c : CoreId) (s : State) :
    exec (.jmp c) s = execJmp c s := rfl
@[simp] theorem exec_call (c : CoreId) (s : State) :
    exec (.call c) s = execCall c s := rfl
@[simp] theorem exec_jmpr (c : CoreId) (s : State) :
    exec (.jmpr c) s = execJmpr c s := rfl
@[simp] theorem exec_callr (c : CoreId) (s : State) :
    exec (.callr c) s = execCallr c s := rfl
@[simp] theorem exec_ret (c : CoreId) (s : State) :
    exec (.ret c) s = execRet c s := rfl
@[simp] theorem exec_leave (c : CoreId) (s : State) :
    exec (.leave c) s = execLeave c s := rfl
@[simp] theorem exec_enter (c : CoreId) (s : State) :
    exec (.enter c) s = execEnter c s := rfl
@[simp] theorem exec_rett (c : CoreId) (s : State) :
    exec (.rett c) s = execRett c s := rfl
@[simp] theorem exec_newelEnd (c : CoreId) (s : State) :
    exec (.newelEnd c) s = execNewelEnd c s := rfl
@[simp] theorem exec_wfi (c : CoreId) (s : State) :
    exec (.wfi c) s = execWfi c s := rfl
@[simp] theorem exec_trap (c : CoreId) (s : State) :
    exec (.trap c) s = execTrap c s := rfl
@[simp] theorem exec_brk (c : CoreId) (s : State) :
    exec (.brk c) s = execBrk c s := rfl
@[simp] theorem exec_fence (c : CoreId) (s : State) :
    exec (.fence c) s = execFence c s := rfl
@[simp] theorem exec_fenceR (c : CoreId) (s : State) :
    exec (.fenceR c) s = execFenceR c s := rfl
@[simp] theorem exec_ifence (c : CoreId) (s : State) :
    exec (.ifence c) s = execIfence c s := rfl
@[simp] theorem exec_spill (c : CoreId) (s : State) :
    exec (.spill c) s = execSpill c s := rfl
@[simp] theorem exec_fill (c : CoreId) (s : State) :
    exec (.fill c) s = execFill c s := rfl
@[simp] theorem exec_stra (c : CoreId) (s : State) :
    exec (.stra c) s = execStra c s := rfl
@[simp] theorem exec_strx (c : CoreId) (s : State) :
    exec (.strx c) s = execStrx c s := rfl
@[simp] theorem exec_sjoin (c : CoreId) (s : State) :
    exec (.sjoin c) s = execSjoin c s := rfl
@[simp] theorem exec_rds (c : CoreId) (s : State) :
    exec (.rds c) s = execRds c s := rfl
@[simp] theorem exec_wrs (c : CoreId) (s : State) :
    exec (.wrs c) s = execWrs c s := rfl
@[simp] theorem exec_pusha (c : CoreId) (s : State) :
    exec (.pusha c) s = execPusha c s := rfl
@[simp] theorem exec_pmov (c : CoreId) (s : State) :
    exec (.pmov c) s = execPmov c s := rfl
@[simp] theorem exec_popn (c : CoreId) (s : State) :
    exec (.popn c) s = execPopn c s := rfl
@[simp] theorem exec_newelInterrupt (c : CoreId) (s : State) :
    exec (.newelInterrupt c) s = execNewelInterrupt c s := rfl
@[simp] theorem exec_nwlDbgResume (r : RoomId) (s : State) :
    exec (.nwlDbgResume r) s = execNwlDbgResume r s := rfl
@[simp] theorem exec_asNop (r : RoomId) (s : State) :
    exec (.asNop r) s = execAsNop r s := rfl
@[simp] theorem exec_ldt (r : RoomId) (s : State) :
    exec (.ldt r) s = execLdt r s := rfl
@[simp] theorem exec_stt (r : RoomId) (s : State) :
    exec (.stt r) s = execStt r s := rfl
@[simp] theorem exec_ldtLineDone (r : RoomId) (id : Nat) (s : State) :
    exec (.ldtLineDone r id) s = execLdtLineDone r id s := rfl
@[simp] theorem exec_sttLineDone (r : RoomId) (id : Nat) (s : State) :
    exec (.sttLineDone r id) s = execSttLineDone r id s := rfl
@[simp] theorem exec_popa (r : RoomId) (s : State) :
    exec (.popa r) s = execPopa r s := rfl
@[simp] theorem exec_adda (r : RoomId) (s : State) :
    exec (.adda r) s = execAdda r s := rfl
@[simp] theorem exec_qpush (r : RoomId) (s : State) :
    exec (.qpush r) s = execQpush r s := rfl
@[simp] theorem exec_qpop (r : RoomId) (s : State) :
    exec (.qpop r) s = execQpop r s := rfl
@[simp] theorem exec_asGload (r : RoomId) (s : State) :
    exec (.asGload r) s = execAsGload r s := rfl
@[simp] theorem exec_asLoop (r : RoomId) (s : State) :
    exec (.asLoop r) s = execAsLoop r s := rfl
@[simp] theorem exec_asSkip (r : RoomId) (s : State) :
    exec (.asSkip r) s = execAsSkip r s := rfl
@[simp] theorem exec_asPset (r : RoomId) (s : State) :
    exec (.asPset r) s = execAsPset r s := rfl
@[simp] theorem exec_asPpop (r : RoomId) (s : State) :
    exec (.asPpop r) s = execAsPpop r s := rfl
@[simp] theorem exec_asPloop (r : RoomId) (s : State) :
    exec (.asPloop r) s = execAsPloop r s := rfl
@[simp] theorem exec_bind (r : RoomId) (s : State) :
    exec (.bind r) s = execBind r s := rfl
@[simp] theorem exec_unbind (r : RoomId) (s : State) :
    exec (.unbind r) s = execUnbind r s := rfl
@[simp] theorem exec_asHrecv (r : RoomId) (s : State) :
    exec (.asHrecv r) s = execAsHrecv r s := rfl
@[simp] theorem exec_asHsend (r : RoomId) (s : State) :
    exec (.asHsend r) s = execAsHsend r s := rfl
@[simp] theorem exec_asWaitph (r : RoomId) (s : State) :
    exec (.asWaitph r) s = execAsWaitph r s := rfl
@[simp] theorem exec_asSync (r : RoomId) (s : State) :
    exec (.asSync r) s = execAsSync r s := rfl
@[simp] theorem exec_asEnd (r : RoomId) (s : State) :
    exec (.asEnd r) s = execAsEnd r s := rfl
@[simp] theorem exec_waitphDone (r : RoomId) (xs : Bool) (s : State) :
    exec (.waitphDone r xs) s = execWaitphDone r xs s := rfl
@[simp] theorem exec_syncRendezvous (r : RoomId) (s : State) :
    exec (.syncRendezvous r) s = execSyncRendezvous r s := rfl
@[simp] theorem exec_xsLoop (r : RoomId) (s : State) :
    exec (.xsLoop r) s = execXsLoop r s := rfl
@[simp] theorem exec_xsSkip (r : RoomId) (s : State) :
    exec (.xsSkip r) s = execXsSkip r s := rfl
@[simp] theorem exec_xsPset (r : RoomId) (s : State) :
    exec (.xsPset r) s = execXsPset r s := rfl
@[simp] theorem exec_xsPpop (r : RoomId) (s : State) :
    exec (.xsPpop r) s = execXsPpop r s := rfl
@[simp] theorem exec_xsPloop (r : RoomId) (s : State) :
    exec (.xsPloop r) s = execXsPloop r s := rfl
@[simp] theorem exec_xsGload (r : RoomId) (s : State) :
    exec (.xsGload r) s = execXsGload r s := rfl
@[simp] theorem exec_xsHrecv (r : RoomId) (s : State) :
    exec (.xsHrecv r) s = execXsHrecv r s := rfl
@[simp] theorem exec_xsHsend (r : RoomId) (s : State) :
    exec (.xsHsend r) s = execXsHsend r s := rfl
@[simp] theorem exec_xsWaitph (r : RoomId) (s : State) :
    exec (.xsWaitph r) s = execXsWaitph r s := rfl
@[simp] theorem exec_xsSync (r : RoomId) (s : State) :
    exec (.xsSync r) s = execXsSync r s := rfl
@[simp] theorem exec_xsEnd (r : RoomId) (s : State) :
    exec (.xsEnd r) s = execXsEnd r s := rfl
@[simp] theorem exec_copy (r : RoomId) (s : State) :
    exec (.copy r) s = execCopy r s := rfl
@[simp] theorem exec_fillc (r : RoomId) (s : State) :
    exec (.fillc r) s = execFillc r s := rfl
@[simp] theorem exec_mma (r : RoomId) (s : State) :
    exec (.mma r) s = execMma r s := rfl
@[simp] theorem exec_mmat (r : RoomId) (s : State) :
    exec (.mmat r) s = execMmat r s := rfl
@[simp] theorem exec_conv (r : RoomId) (s : State) :
    exec (.conv r) s = execConv r s := rfl
@[simp] theorem exec_seth (r : RoomId) (s : State) :
    exec (.seth r) s = execSeth r s := rfl
@[simp] theorem exec_hearthOpDone (r : RoomId) (s : State) :
    exec (.hearthOpDone r) s = execHearthOpDone r s := rfl
@[simp] theorem exec_sculleryAdd (r : RoomId) (s : State) :
    exec (.sculleryAdd r) s = execSculleryAdd r s := rfl
@[simp] theorem exec_scullerySub (r : RoomId) (s : State) :
    exec (.scullerySub r) s = execScullerySub r s := rfl
@[simp] theorem exec_sculleryMul (r : RoomId) (s : State) :
    exec (.sculleryMul r) s = execSculleryMul r s := rfl
@[simp] theorem exec_max (r : RoomId) (s : State) :
    exec (.max r) s = execMax r s := rfl
@[simp] theorem exec_min (r : RoomId) (s : State) :
    exec (.min r) s = execMin r s := rfl
@[simp] theorem exec_mulg (r : RoomId) (s : State) :
    exec (.mulg r) s = execMulg r s := rfl
@[simp] theorem exec_rope (r : RoomId) (s : State) :
    exec (.rope r) s = execRope r s := rfl
@[simp] theorem exec_exp (r : RoomId) (s : State) :
    exec (.exp r) s = execExp r s := rfl
@[simp] theorem exec_silu (r : RoomId) (s : State) :
    exec (.silu r) s = execSilu r s := rfl
@[simp] theorem exec_gelu (r : RoomId) (s : State) :
    exec (.gelu r) s = execGelu r s := rfl
@[simp] theorem exec_tanh (r : RoomId) (s : State) :
    exec (.tanh r) s = execTanh r s := rfl
@[simp] theorem exec_swiglu (r : RoomId) (s : State) :
    exec (.swiglu r) s = execSwiglu r s := rfl
@[simp] theorem exec_cvtI8 (r : RoomId) (s : State) :
    exec (.cvtI8 r) s = execCvtI8 r s := rfl
@[simp] theorem exec_cvtE4m3 (r : RoomId) (s : State) :
    exec (.cvtE4m3 r) s = execCvtE4m3 r s := rfl
@[simp] theorem exec_cvtE5m2 (r : RoomId) (s : State) :
    exec (.cvtE5m2 r) s = execCvtE5m2 r s := rfl
@[simp] theorem exec_cvtBf16 (r : RoomId) (s : State) :
    exec (.cvtBf16 r) s = execCvtBf16 r s := rfl
@[simp] theorem exec_cvtF32 (r : RoomId) (s : State) :
    exec (.cvtF32 r) s = execCvtF32 r s := rfl
@[simp] theorem exec_cvtI32 (r : RoomId) (s : State) :
    exec (.cvtI32 r) s = execCvtI32 r s := rfl
@[simp] theorem exec_rmax (r : RoomId) (s : State) :
    exec (.rmax r) s = execRmax r s := rfl
@[simp] theorem exec_rsum (r : RoomId) (s : State) :
    exec (.rsum r) s = execRsum r s := rfl
@[simp] theorem exec_rssq (r : RoomId) (s : State) :
    exec (.rssq r) s = execRssq r s := rfl
@[simp] theorem exec_rdot (r : RoomId) (s : State) :
    exec (.rdot r) s = execRdot r s := rfl
@[simp] theorem exec_sld (r : RoomId) (s : State) :
    exec (.sld r) s = execSld r s := rfl
@[simp] theorem exec_sst (r : RoomId) (s : State) :
    exec (.sst r) s = execSst r s := rfl
@[simp] theorem exec_rsqf (r : RoomId) (s : State) :
    exec (.rsqf r) s = execRsqf r s := rfl
@[simp] theorem exec_rcpf (r : RoomId) (s : State) :
    exec (.rcpf r) s = execRcpf r s := rfl
@[simp] theorem exec_tkclr (r : RoomId) (s : State) :
    exec (.tkclr r) s = execTkclr r s := rfl
@[simp] theorem exec_topk (r : RoomId) (s : State) :
    exec (.topk r) s = execTopk r s := rfl
@[simp] theorem exec_tkout (r : RoomId) (s : State) :
    exec (.tkout r) s = execTkout r s := rfl
@[simp] theorem exec_tkmrg (r : RoomId) (s : State) :
    exec (.tkmrg r) s = execTkmrg r s := rfl
@[simp] theorem exec_sample (r : RoomId) (s : State) :
    exec (.sample r) s = execSample r s := rfl
@[simp] theorem exec_dwconv (r : RoomId) (s : State) :
    exec (.dwconv r) s = execDwconv r s := rfl
@[simp] theorem exec_sculleryOpDone (r : RoomId) (s : State) :
    exec (.sculleryOpDone r) s = execSculleryOpDone r s := rfl
@[simp] theorem exec_streamDebugResume (r : RoomId) (s : State) :
    exec (.streamDebugResume r) s = execStreamDebugResume r s := rfl
@[simp] theorem exec_dwFrameSend (d : DoorId) (t : W16) (s : State) :
    exec (.dwFrameSend d t) s = execDwFrameSend d t s := rfl
@[simp] theorem exec_dwFrameReceived (d : DoorId) (f : Frame) (crcOk : Bool) (lcrcOk : Bool) (t : W16) (s : State) :
    exec (.dwFrameReceived d f crcOk lcrcOk t) s = execDwFrameReceived d f crcOk lcrcOk t s := rfl
@[simp] theorem exec_lockSearchStart (d : DoorId) (s : State) :
    exec (.lockSearchStart d) s = execLockSearchStart d s := rfl
@[simp] theorem exec_dwSignalDetect (d : DoorId) (signal : Bool) (s : State) :
    exec (.dwSignalDetect d signal) s = execDwSignalDetect d signal s := rfl
@[simp] theorem exec_trainingStageDone (d : DoorId) (pass : BitVec 4) (s : State) :
    exec (.trainingStageDone d pass) s = execTrainingStageDone d pass s := rfl
@[simp] theorem exec_trainingStageTimeout (d : DoorId) (s : State) :
    exec (.trainingStageTimeout d) s = execTrainingStageTimeout d s := rfl
@[simp] theorem exec_dwDownRetry (d : DoorId) (s : State) :
    exec (.dwDownRetry d) s = execDwDownRetry d s := rfl
@[simp] theorem exec_replayTimeout (d : DoorId) (s : State) :
    exec (.replayTimeout d) s = execReplayTimeout d s := rfl
@[simp] theorem exec_dwEcho (d : DoorId) (s : State) :
    exec (.dwEcho d) s = execDwEcho d s := rfl
@[simp] theorem exec_dwFabCtrlEn (en : BitVec 6) (s : State) :
    exec (.dwFabCtrlEn en) s = execDwFabCtrlEn en s := rfl
@[simp] theorem exec_mladyx (s : State) :
    exec .mladyx s = execMladyx s := rfl
@[simp] theorem exec_censusQuery (s : State) :
    exec .censusQuery s = execCensusQuery s := rfl
@[simp] theorem exec_censusAnswer (s : State) :
    exec .censusAnswer s = execCensusAnswer s := rfl
@[simp] theorem exec_censusResult (s : State) :
    exec .censusResult s = execCensusResult s := rfl
@[simp] theorem exec_censusComplete (s : State) :
    exec .censusComplete s = execCensusComplete s := rfl
@[simp] theorem exec_censusNow (s : State) :
    exec .censusNow s = execCensusNow s := rfl
@[simp] theorem exec_rdReq (s : State) :
    exec .rdReq s = execRdReq s := rfl
@[simp] theorem exec_wrReq (s : State) :
    exec .wrReq s = execWrReq s := rfl
@[simp] theorem exec_atomReq (s : State) :
    exec .atomReq s = execAtomReq s := rfl
@[simp] theorem exec_pageReq (s : State) :
    exec .pageReq s = execPageReq s := rfl
@[simp] theorem exec_creditDraw (s : State) :
    exec .creditDraw s = execCreditDraw s := rfl
@[simp] theorem exec_rdRsp (s : State) :
    exec .rdRsp s = execRdRsp s := rfl
@[simp] theorem exec_wrAck (s : State) :
    exec .wrAck s = execWrAck s := rfl
@[simp] theorem exec_atomRsp (s : State) :
    exec .atomRsp s = execAtomRsp s := rfl
@[simp] theorem exec_pageData (s : State) :
    exec .pageData s = execPageData s := rfl
@[simp] theorem exec_creditGrant (s : State) :
    exec .creditGrant s = execCreditGrant s := rfl
@[simp] theorem exec_refuse (s : State) :
    exec .refuse s = execRefuse s := rfl
@[simp] theorem exec_move (s : State) :
    exec .move s = execMove s := rfl
@[simp] theorem exec_reqTimeout (tag : W16) (s : State) :
    exec (.reqTimeout tag) s = execReqTimeout tag s := rfl
@[simp] theorem exec_dwVcClaim (d : DoorId) (p : Fin 3) (w : WingId) (s : State) :
    exec (.dwVcClaim d p w) s = execDwVcClaim d p w s := rfl
@[simp] theorem exec_dwVcRelease (d : DoorId) (p : Fin 3) (w : WingId) (s : State) :
    exec (.dwVcRelease d p w) s = execDwVcRelease d p w s := rfl
@[simp] theorem exec_dwRouteWrite (n : Fin 64) (v : W32) (s : State) :
    exec (.dwRouteWrite n v) s = execDwRouteWrite n v s := rfl
@[simp] theorem exec_stwGroupWrite (n : Fin 32) (v : W64) (s : State) :
    exec (.stwGroupWrite n v) s = execStwGroupWrite n v s := rfl
@[simp] theorem exec_collGrant (s : State) :
    exec .collGrant s = execCollGrant s := rfl
@[simp] theorem exec_collDataChunk (s : State) :
    exec .collDataChunk s = execCollDataChunk s := rfl
@[simp] theorem exec_collCredit (s : State) :
    exec .collCredit s = execCollCredit s := rfl
@[simp] theorem exec_collAbort (s : State) :
    exec .collAbort s = execCollAbort s := rfl
@[simp] theorem exec_stwCtxAbort (i : Fin 8) (s : State) :
    exec (.stwCtxAbort i) s = execStwCtxAbort i s := rfl
@[simp] theorem exec_collTimeout (i : Fin 8) (s : State) :
    exec (.collTimeout i) s = execCollTimeout i s := rfl
@[simp] theorem exec_abortHoldExpiry (i : Fin 8) (s : State) :
    exec (.abortHoldExpiry i) s = execAbortHoldExpiry i s := rfl
@[simp] theorem exec_abortRecordExpiry (s : State) :
    exec .abortRecordExpiry s = execAbortRecordExpiry s := rfl
@[simp] theorem exec_collChunkSend (i : Fin 8) (s : State) :
    exec (.collChunkSend i) s = execCollChunkSend i s := rfl
@[simp] theorem exec_segmentHandlePop (i : Fin 8) (s : State) :
    exec (.segmentHandlePop i) s = execSegmentHandlePop i s := rfl
@[simp] theorem exec_claimStream (s : State) :
    exec .claimStream s = execClaimStream s := rfl
@[simp] theorem exec_releaseStream (s : State) :
    exec .releaseStream s = execReleaseStream s := rfl
@[simp] theorem exec_start (s : State) :
    exec .start s = execStart s := rfl
@[simp] theorem exec_stop (s : State) :
    exec .stop s = execStop s := rfl
@[simp] theorem exec_claimPages (s : State) :
    exec .claimPages s = execClaimPages s := rfl
@[simp] theorem exec_releasePages (s : State) :
    exec .releasePages s = execReleasePages s := rfl
@[simp] theorem exec_pageZeroed (g : Fin 64) (s : State) :
    exec (.pageZeroed g) s = execPageZeroed g s := rfl
@[simp] theorem exec_claimParlour (s : State) :
    exec .claimParlour s = execClaimParlour s := rfl
@[simp] theorem exec_releaseParlour (s : State) :
    exec .releaseParlour s = execReleaseParlour s := rfl
@[simp] theorem exec_parlourRun (s : State) :
    exec .parlourRun s = execParlourRun s := rfl
@[simp] theorem exec_parlourStop (s : State) :
    exec .parlourStop s = execParlourStop s := rfl
@[simp] theorem exec_csiBurstStart (port : Fin 2) (vc : Fin 4) (dt : Byte) (wc : W16) (errs : Nat) (s : State) :
    exec (.csiBurstStart port vc dt wc errs) s = execCsiBurstStart port vc dt wc errs s := rfl
@[simp] theorem exec_frameStart (port : Fin 2) (s : State) :
    exec (.frameStart port) s = execFrameStart port s := rfl
@[simp] theorem exec_csiLine (port : Fin 2) (bs : List Byte) (crcOk : Bool) (s : State) :
    exec (.csiLine port bs crcOk) s = execCsiLine port bs crcOk s := rfl
@[simp] theorem exec_frameEnd (port : Fin 2) (s : State) :
    exec (.frameEnd port) s = execFrameEnd port s := rfl
@[simp] theorem exec_tdmFs (port : Fin 4) (slots : List W32) (s : State) :
    exec (.tdmFs port slots) s = execTdmFs port slots s := rfl
@[simp] theorem exec_sensorPeriod (k : Fin 16) (s : State) :
    exec (.sensorPeriod k) s = execSensorPeriod k s := rfl
@[simp] theorem exec_sensorTransactionDone (k : Fin 16) (rd : List Byte) (ok : Bool) (s : State) :
    exec (.sensorTransactionDone k rd ok) s = execSensorTransactionDone k rd ok s := rfl
@[simp] theorem exec_porchConv (s : State) :
    exec .porchConv s = execPorchConv s := rfl
@[simp] theorem exec_fc (s : State) :
    exec .fc s = execFc s := rfl
@[simp] theorem exec_pool (s : State) :
    exec .pool s = execPool s := rfl
@[simp] theorem exec_porchAdd (s : State) :
    exec .porchAdd s = execPorchAdd s := rfl
@[simp] theorem exec_mel (s : State) :
    exec .mel s = execMel s := rfl
@[simp] theorem exec_waitsrc (s : State) :
    exec .waitsrc s = execWaitsrc s := rfl
@[simp] theorem exec_waitsrcDone (k : Fin 16) (s : State) :
    exec (.waitsrcDone k) s = execWaitsrcDone k s := rfl
@[simp] theorem exec_porchCopy (s : State) :
    exec .porchCopy s = execPorchCopy s := rfl
@[simp] theorem exec_result (s : State) :
    exec .result s = execResult s := rfl
@[simp] theorem exec_porchJmp (s : State) :
    exec .porchJmp s = execPorchJmp s := rfl
@[simp] theorem exec_porchWaitph (s : State) :
    exec .porchWaitph s = execPorchWaitph s := rfl
@[simp] theorem exec_porchWaitphDone (k : Fin 16) (s : State) :
    exec (.porchWaitphDone k) s = execPorchWaitphDone k s := rfl
@[simp] theorem exec_porchEnd (s : State) :
    exec .porchEnd s = execPorchEnd s := rfl
@[simp] theorem exec_frameTimeout (k : Option (Fin 16)) (s : State) :
    exec (.frameTimeout k) s = execFrameTimeout k s := rfl
@[simp] theorem exec_parlourNop (s : State) :
    exec .parlourNop s = execParlourNop s := rfl
@[simp] theorem exec_parlourConv (s : State) :
    exec .parlourConv s = execParlourConv s := rfl
@[simp] theorem exec_parlourFc (s : State) :
    exec .parlourFc s = execParlourFc s := rfl
@[simp] theorem exec_parlourPool (s : State) :
    exec .parlourPool s = execParlourPool s := rfl
@[simp] theorem exec_parlourResult (s : State) :
    exec .parlourResult s = execParlourResult s := rfl
@[simp] theorem exec_wait (s : State) :
    exec .wait s = execWait s := rfl
@[simp] theorem exec_parlourWaitDone (s : State) :
    exec .parlourWaitDone s = execParlourWaitDone s := rfl
@[simp] theorem exec_wrw (s : State) :
    exec .wrw s = execWrw s := rfl
@[simp] theorem exec_parlourJmp (s : State) :
    exec .parlourJmp s = execParlourJmp s := rfl
@[simp] theorem exec_parlourLoop (s : State) :
    exec .parlourLoop s = execParlourLoop s := rfl
@[simp] theorem exec_input (s : State) :
    exec .input s = execInput s := rfl
@[simp] theorem exec_inputDone (s : State) :
    exec .inputDone s = execInputDone s := rfl
@[simp] theorem exec_parlourEnd (s : State) :
    exec .parlourEnd s = execParlourEnd s := rfl
@[simp] theorem exec_porchParResultRead (w : WingId) (s : State) :
    exec (.porchParResultRead w) s = execPorchParResultRead w s := rfl
@[simp] theorem exec_resHeadWrite (w : WingId) (k : Fin 16) (v : W16) (s : State) :
    exec (.resHeadWrite w k v) s = execResHeadWrite w k v s := rfl
@[simp] theorem exec_voutCommandDone (i : StoreyId) (s : State) :
    exec (.voutCommandDone i) s = execVoutCommandDone i s := rfl
@[simp] theorem exec_settleExpiry (i : StoreyId) (s : State) :
    exec (.settleExpiry i) s = execSettleExpiry i s := rfl
@[simp] theorem exec_pllLockDetect (i : StoreyId) (s : State) :
    exec (.pllLockDetect i) s = execPllLockDetect i s := rfl
@[simp] theorem exec_lockHoldExpiry (i : StoreyId) (s : State) :
    exec (.lockHoldExpiry i) s = execLockHoldExpiry i s := rfl
@[simp] theorem exec_relockTimeout (i : StoreyId) (s : State) :
    exec (.relockTimeout i) s = execRelockTimeout i s := rfl
@[simp] theorem exec_storeyGate (v : W32) (s : State) :
    exec (.storeyGate v) s = execStoreyGate v s := rfl
@[simp] theorem exec_foyDomHold (v : W32) (s : State) :
    exec (.foyDomHold v) s = execFoyDomHold v s := rfl
@[simp] theorem exec_foyRoomHold (v : W32) (s : State) :
    exec (.foyRoomHold v) s = execFoyRoomHold v s := rfl
@[simp] theorem exec_foyRoomInval (v : W32) (s : State) :
    exec (.foyRoomInval v) s = execFoyRoomInval v s := rfl
@[simp] theorem exec_roomInvalDone (r : RoomId) (s : State) :
    exec (.roomInvalDone r) s = execRoomInvalDone r s := rfl
@[simp] theorem exec_powerOnReset (s : State) :
    exec .powerOnReset s = execPowerOnReset s := rfl
@[simp] theorem exec_porEnd (s : State) :
    exec .porEnd s = execPorEnd s := rfl
@[simp] theorem exec_sysResetN (low : Bool) (s : State) :
    exec (.sysResetN low) s = execSysResetN low s := rfl
@[simp] theorem exec_perstN (low : Bool) (s : State) :
    exec (.perstN low) s = execPerstN low s := rfl
@[simp] theorem exec_watchdogExpiry (s : State) :
    exec .watchdogExpiry s = execWatchdogExpiry s := rfl
@[simp] theorem exec_refClkLoss (lost : Bool) (s : State) :
    exec (.refClkLoss lost) s = execRefClkLoss lost s := rfl
@[simp] theorem exec_trstN (s : State) :
    exec .trstN s = execTrstN s := rfl
@[simp] theorem exec_holdupMonitor (s : State) :
    exec .holdupMonitor s = execHoldupMonitor s := rfl
@[simp] theorem exec_deviceResetRelease (s : State) :
    exec .deviceResetRelease s = execDeviceResetRelease s := rfl
@[simp] theorem exec_slotVerifyDone (jedec : Byte) (s : State) :
    exec (.slotVerifyDone jedec) s = execSlotVerifyDone jedec s := rfl
@[simp] theorem exec_larderTrainingDone (rate : W16) (ok : Bool) (s : State) :
    exec (.larderTrainingDone rate ok) s = execLarderTrainingDone rate ok s := rfl
@[simp] theorem exec_larderZeroingDone (s : State) :
    exec .larderZeroingDone s = execLarderZeroingDone s := rfl
@[simp] theorem exec_cellarRecoveryDone (i : StoreyId) (crcA : Bool) (crcB : Bool) (s : State) :
    exec (.cellarRecoveryDone i crcA crcB) s = execCellarRecoveryDone i crcA crcB s := rfl
@[simp] theorem exec_stackTimeout (i : StoreyId) (s : State) :
    exec (.stackTimeout i) s = execStackTimeout i s := rfl
@[simp] theorem exec_hostReady (s : State) :
    exec .hostReady s = execHostReady s := rfl
@[simp] theorem exec_fabricTimeout (s : State) :
    exec .fabricTimeout s = execFabricTimeout s := rfl
@[simp] theorem exec_alarmSourceCleared (src : Fin 4) (s : State) :
    exec (.alarmSourceCleared src) s = execAlarmSourceCleared src s := rfl
@[simp] theorem exec_engineCommandDone (s : State) :
    exec .engineCommandDone s = execEngineCommandDone s := rfl
@[simp] theorem exec_roomZeroingDone (r : RoomId) (s : State) :
    exec (.roomZeroingDone r) s = execRoomZeroingDone r s := rfl
@[simp] theorem exec_emptyLongWord (r : RoomId) (s : State) :
    exec (.emptyLongWord r) s = execEmptyLongWord r s := rfl
@[simp] theorem exec_markerAbsent (d : DoorId) (s : State) :
    exec (.markerAbsent d) s = execMarkerAbsent d s := rfl

end Sys2Proof.Machine
end

