-- ==== Sys2Proof/Laws/State.lean ====
section
/-!
SUPPORT. Laws/State.lean: what an update of one part of the state leaves of every field, and reads after writes of the
tables.
-/
namespace Sys2Proof.Machine
open Sys2Proof

/-! ### Tables -/

@[simp] theorem get_vset_same {α : Type} {n : Nat} (v : Vector α n) (i : Fin n) (x : α) : (vset v i x).get i = x := by
  show (v.set i.1 x i.2)[i.1] = x
  simp

theorem get_vset_ne {α : Type} {n : Nat} (v : Vector α n) {i j : Fin n} (x : α) (h : i ≠ j) : (vset v i x).get j = v.get j := by
  have h2 : i.1 ≠ j.1 := fun e => h (Fin.ext e)
  show (v.set i.1 x i.2)[j.1] = v[j.1]
  exact Vector.getElem_set_ne _ _ h2

@[simp] theorem get_vmod_same {α : Type} {n : Nat} (v : Vector α n) (i : Fin n) (f : α → α) :
    (vmod v i f).get i = f (v.get i) := by
  simp [vmod]

theorem get_vmod_ne {α : Type} {n : Nat} (v : Vector α n) {i j : Fin n} (f : α → α) (h : i ≠ j) :
    (vmod v i f).get j = v.get j := get_vset_ne _ _ h

theorem get_vmod {α : Type} {n : Nat} (v : Vector α n) (i j : Fin n) (f : α → α) :
    (vmod v i f).get j = if i = j then f (v.get j) else v.get j := by
  by_cases h : i = j
  · subst h; simp
  · simp [h, get_vmod_ne]

/-! ### Parts of the state -/

@[simp] theorem State.room_onRoom_same (s : State) (r : RoomId) (f : Room → Room) : (s.onRoom r f).room r = f (s.room r) :=
  get_vmod_same _ _ _
theorem State.room_onRoom_ne (s : State) {r q : RoomId} (f : Room → Room) (h : r ≠ q) : (s.onRoom r f).room q = s.room q :=
  get_vmod_ne _ _ h
@[simp] theorem State.wing_onWing_same (s : State) (w : WingId) (f : Wing → Wing) : (s.onWing w f).wing w = f (s.wing w) :=
  get_vmod_same _ _ _
theorem State.wing_onWing_ne (s : State) {w v : WingId} (f : Wing → Wing) (h : w ≠ v) : (s.onWing w f).wing v = s.wing v :=
  get_vmod_ne _ _ h
@[simp] theorem State.ring_onRing_same (s : State) (w : WingId) (f : Ring → Ring) : (s.onRing w f).ring w = f (s.ring w) :=
  get_vmod_same _ _ _
@[simp] theorem State.hatch_onHatch_same (s : State) (w : WingId) (f : Hatch → Hatch) :
    (s.onHatch w f).hatch w = f (s.hatch w) := get_vmod_same _ _ _
@[simp] theorem State.door_onDoor_same (s : State) (d : DoorId) (f : Doorway → Doorway) : (s.onDoor d f).door d = f (s.door d) :=
  get_vmod_same _ _ _
@[simp] theorem State.stack_onStack_same (s : State) (i : StoreyId) (f : Stack → Stack) :
    (s.onStack i f).stack i = f (s.stack i) := get_vmod_same _ _ _
@[simp] theorem State.storey_onStorey_same (s : State) (i : StoreyId) (f : Storey → Storey) :
    (s.onStorey i f).storey i = f (s.storey i) := get_vmod_same _ _ _

@[simp] theorem State.onWings_wings (s : State) (f : Vector Wing 16 → Vector Wing 16) : (s.onWings f).wings = f s.wings := rfl
@[simp] theorem State.onWings_wingTop (s : State) (f : Vector Wing 16 → Vector Wing 16) : (s.onWings f).wingTop = s.wingTop := rfl
@[simp] theorem State.onWings_thr (s : State) (f : Vector Wing 16 → Vector Wing 16) : (s.onWings f).thr = s.thr := rfl
@[simp] theorem State.onWings_mgmt (s : State) (f : Vector Wing 16 → Vector Wing 16) : (s.onWings f).mgmt = s.mgmt := rfl
@[simp] theorem State.onWings_host (s : State) (f : Vector Wing 16 → Vector Wing 16) : (s.onWings f).host = s.host := rfl
@[simp] theorem State.onWings_phase (s : State) (f : Vector Wing 16 → Vector Wing 16) : (s.onWings f).phase = s.phase := rfl
@[simp] theorem State.onWings_fuse (s : State) (f : Vector Wing 16 → Vector Wing 16) : (s.onWings f).fuse = s.fuse := rfl
@[simp] theorem State.onWings_cellar (s : State) (f : Vector Wing 16 → Vector Wing 16) : (s.onWings f).cellar = s.cellar := rfl
@[simp] theorem State.onWings_larder (s : State) (f : Vector Wing 16 → Vector Wing 16) : (s.onWings f).larder = s.larder := rfl
@[simp] theorem State.onWings_rooms (s : State) (f : Vector Wing 16 → Vector Wing 16) : (s.onWings f).rooms = s.rooms := rfl
@[simp] theorem State.onWings_storeys (s : State) (f : Vector Wing 16 → Vector Wing 16) : (s.onWings f).storeys = s.storeys := rfl
@[simp] theorem State.onWings_porchNewel (s : State) (f : Vector Wing 16 → Vector Wing 16) : (s.onWings f).porchNewel = s.porchNewel := rfl
@[simp] theorem State.onWings_foyerNewel (s : State) (f : Vector Wing 16 → Vector Wing 16) : (s.onWings f).foyerNewel = s.foyerNewel := rfl
@[simp] theorem State.onWings_fabric (s : State) (f : Vector Wing 16 → Vector Wing 16) : (s.onWings f).fabric = s.fabric := rfl
@[simp] theorem State.onWings_stair (s : State) (f : Vector Wing 16 → Vector Wing 16) : (s.onWings f).stair = s.stair := rfl
@[simp] theorem State.onWings_porch (s : State) (f : Vector Wing 16 → Vector Wing 16) : (s.onWings f).porch = s.porch := rfl
@[simp] theorem State.onWings_sys (s : State) (f : Vector Wing 16 → Vector Wing 16) : (s.onWings f).sys = s.sys := rfl
@[simp] theorem State.onWings_pending (s : State) (f : Vector Wing 16 → Vector Wing 16) : (s.onWings f).pending = s.pending := rfl
@[simp] theorem State.onWings_free (s : State) (f : Vector Wing 16 → Vector Wing 16) : (s.onWings f).free = s.free := rfl
@[simp] theorem State.onWings_out (s : State) (f : Vector Wing 16 → Vector Wing 16) : (s.onWings f).out = s.out := rfl

@[simp] theorem State.onTop_wings (s : State) (f : WingTop → WingTop) : (s.onTop f).wings = s.wings := rfl
@[simp] theorem State.onTop_wingTop (s : State) (f : WingTop → WingTop) : (s.onTop f).wingTop = f s.wingTop := rfl
@[simp] theorem State.onTop_thr (s : State) (f : WingTop → WingTop) : (s.onTop f).thr = s.thr := rfl
@[simp] theorem State.onTop_mgmt (s : State) (f : WingTop → WingTop) : (s.onTop f).mgmt = s.mgmt := rfl
@[simp] theorem State.onTop_host (s : State) (f : WingTop → WingTop) : (s.onTop f).host = s.host := rfl
@[simp] theorem State.onTop_phase (s : State) (f : WingTop → WingTop) : (s.onTop f).phase = s.phase := rfl
@[simp] theorem State.onTop_fuse (s : State) (f : WingTop → WingTop) : (s.onTop f).fuse = s.fuse := rfl
@[simp] theorem State.onTop_cellar (s : State) (f : WingTop → WingTop) : (s.onTop f).cellar = s.cellar := rfl
@[simp] theorem State.onTop_larder (s : State) (f : WingTop → WingTop) : (s.onTop f).larder = s.larder := rfl
@[simp] theorem State.onTop_rooms (s : State) (f : WingTop → WingTop) : (s.onTop f).rooms = s.rooms := rfl
@[simp] theorem State.onTop_storeys (s : State) (f : WingTop → WingTop) : (s.onTop f).storeys = s.storeys := rfl
@[simp] theorem State.onTop_porchNewel (s : State) (f : WingTop → WingTop) : (s.onTop f).porchNewel = s.porchNewel := rfl
@[simp] theorem State.onTop_foyerNewel (s : State) (f : WingTop → WingTop) : (s.onTop f).foyerNewel = s.foyerNewel := rfl
@[simp] theorem State.onTop_fabric (s : State) (f : WingTop → WingTop) : (s.onTop f).fabric = s.fabric := rfl
@[simp] theorem State.onTop_stair (s : State) (f : WingTop → WingTop) : (s.onTop f).stair = s.stair := rfl
@[simp] theorem State.onTop_porch (s : State) (f : WingTop → WingTop) : (s.onTop f).porch = s.porch := rfl
@[simp] theorem State.onTop_sys (s : State) (f : WingTop → WingTop) : (s.onTop f).sys = s.sys := rfl
@[simp] theorem State.onTop_pending (s : State) (f : WingTop → WingTop) : (s.onTop f).pending = s.pending := rfl
@[simp] theorem State.onTop_free (s : State) (f : WingTop → WingTop) : (s.onTop f).free = s.free := rfl
@[simp] theorem State.onTop_out (s : State) (f : WingTop → WingTop) : (s.onTop f).out = s.out := rfl

@[simp] theorem State.onThr_wings (s : State) (f : Threshold → Threshold) : (s.onThr f).wings = s.wings := rfl
@[simp] theorem State.onThr_wingTop (s : State) (f : Threshold → Threshold) : (s.onThr f).wingTop = s.wingTop := rfl
@[simp] theorem State.onThr_thr (s : State) (f : Threshold → Threshold) : (s.onThr f).thr = f s.thr := rfl
@[simp] theorem State.onThr_mgmt (s : State) (f : Threshold → Threshold) : (s.onThr f).mgmt = s.mgmt := rfl
@[simp] theorem State.onThr_host (s : State) (f : Threshold → Threshold) : (s.onThr f).host = s.host := rfl
@[simp] theorem State.onThr_phase (s : State) (f : Threshold → Threshold) : (s.onThr f).phase = s.phase := rfl
@[simp] theorem State.onThr_fuse (s : State) (f : Threshold → Threshold) : (s.onThr f).fuse = s.fuse := rfl
@[simp] theorem State.onThr_cellar (s : State) (f : Threshold → Threshold) : (s.onThr f).cellar = s.cellar := rfl
@[simp] theorem State.onThr_larder (s : State) (f : Threshold → Threshold) : (s.onThr f).larder = s.larder := rfl
@[simp] theorem State.onThr_rooms (s : State) (f : Threshold → Threshold) : (s.onThr f).rooms = s.rooms := rfl
@[simp] theorem State.onThr_storeys (s : State) (f : Threshold → Threshold) : (s.onThr f).storeys = s.storeys := rfl
@[simp] theorem State.onThr_porchNewel (s : State) (f : Threshold → Threshold) : (s.onThr f).porchNewel = s.porchNewel := rfl
@[simp] theorem State.onThr_foyerNewel (s : State) (f : Threshold → Threshold) : (s.onThr f).foyerNewel = s.foyerNewel := rfl
@[simp] theorem State.onThr_fabric (s : State) (f : Threshold → Threshold) : (s.onThr f).fabric = s.fabric := rfl
@[simp] theorem State.onThr_stair (s : State) (f : Threshold → Threshold) : (s.onThr f).stair = s.stair := rfl
@[simp] theorem State.onThr_porch (s : State) (f : Threshold → Threshold) : (s.onThr f).porch = s.porch := rfl
@[simp] theorem State.onThr_sys (s : State) (f : Threshold → Threshold) : (s.onThr f).sys = s.sys := rfl
@[simp] theorem State.onThr_pending (s : State) (f : Threshold → Threshold) : (s.onThr f).pending = s.pending := rfl
@[simp] theorem State.onThr_free (s : State) (f : Threshold → Threshold) : (s.onThr f).free = s.free := rfl
@[simp] theorem State.onThr_out (s : State) (f : Threshold → Threshold) : (s.onThr f).out = s.out := rfl

@[simp] theorem State.onMgmt_wings (s : State) (f : Mgmt → Mgmt) : (s.onMgmt f).wings = s.wings := rfl
@[simp] theorem State.onMgmt_wingTop (s : State) (f : Mgmt → Mgmt) : (s.onMgmt f).wingTop = s.wingTop := rfl
@[simp] theorem State.onMgmt_thr (s : State) (f : Mgmt → Mgmt) : (s.onMgmt f).thr = s.thr := rfl
@[simp] theorem State.onMgmt_mgmt (s : State) (f : Mgmt → Mgmt) : (s.onMgmt f).mgmt = f s.mgmt := rfl
@[simp] theorem State.onMgmt_host (s : State) (f : Mgmt → Mgmt) : (s.onMgmt f).host = s.host := rfl
@[simp] theorem State.onMgmt_phase (s : State) (f : Mgmt → Mgmt) : (s.onMgmt f).phase = s.phase := rfl
@[simp] theorem State.onMgmt_fuse (s : State) (f : Mgmt → Mgmt) : (s.onMgmt f).fuse = s.fuse := rfl
@[simp] theorem State.onMgmt_cellar (s : State) (f : Mgmt → Mgmt) : (s.onMgmt f).cellar = s.cellar := rfl
@[simp] theorem State.onMgmt_larder (s : State) (f : Mgmt → Mgmt) : (s.onMgmt f).larder = s.larder := rfl
@[simp] theorem State.onMgmt_rooms (s : State) (f : Mgmt → Mgmt) : (s.onMgmt f).rooms = s.rooms := rfl
@[simp] theorem State.onMgmt_storeys (s : State) (f : Mgmt → Mgmt) : (s.onMgmt f).storeys = s.storeys := rfl
@[simp] theorem State.onMgmt_porchNewel (s : State) (f : Mgmt → Mgmt) : (s.onMgmt f).porchNewel = s.porchNewel := rfl
@[simp] theorem State.onMgmt_foyerNewel (s : State) (f : Mgmt → Mgmt) : (s.onMgmt f).foyerNewel = s.foyerNewel := rfl
@[simp] theorem State.onMgmt_fabric (s : State) (f : Mgmt → Mgmt) : (s.onMgmt f).fabric = s.fabric := rfl
@[simp] theorem State.onMgmt_stair (s : State) (f : Mgmt → Mgmt) : (s.onMgmt f).stair = s.stair := rfl
@[simp] theorem State.onMgmt_porch (s : State) (f : Mgmt → Mgmt) : (s.onMgmt f).porch = s.porch := rfl
@[simp] theorem State.onMgmt_sys (s : State) (f : Mgmt → Mgmt) : (s.onMgmt f).sys = s.sys := rfl
@[simp] theorem State.onMgmt_pending (s : State) (f : Mgmt → Mgmt) : (s.onMgmt f).pending = s.pending := rfl
@[simp] theorem State.onMgmt_free (s : State) (f : Mgmt → Mgmt) : (s.onMgmt f).free = s.free := rfl
@[simp] theorem State.onMgmt_out (s : State) (f : Mgmt → Mgmt) : (s.onMgmt f).out = s.out := rfl

@[simp] theorem State.onHost_wings (s : State) (f : HostIf → HostIf) : (s.onHost f).wings = s.wings := rfl
@[simp] theorem State.onHost_wingTop (s : State) (f : HostIf → HostIf) : (s.onHost f).wingTop = s.wingTop := rfl
@[simp] theorem State.onHost_thr (s : State) (f : HostIf → HostIf) : (s.onHost f).thr = s.thr := rfl
@[simp] theorem State.onHost_mgmt (s : State) (f : HostIf → HostIf) : (s.onHost f).mgmt = s.mgmt := rfl
@[simp] theorem State.onHost_host (s : State) (f : HostIf → HostIf) : (s.onHost f).host = f s.host := rfl
@[simp] theorem State.onHost_phase (s : State) (f : HostIf → HostIf) : (s.onHost f).phase = s.phase := rfl
@[simp] theorem State.onHost_fuse (s : State) (f : HostIf → HostIf) : (s.onHost f).fuse = s.fuse := rfl
@[simp] theorem State.onHost_cellar (s : State) (f : HostIf → HostIf) : (s.onHost f).cellar = s.cellar := rfl
@[simp] theorem State.onHost_larder (s : State) (f : HostIf → HostIf) : (s.onHost f).larder = s.larder := rfl
@[simp] theorem State.onHost_rooms (s : State) (f : HostIf → HostIf) : (s.onHost f).rooms = s.rooms := rfl
@[simp] theorem State.onHost_storeys (s : State) (f : HostIf → HostIf) : (s.onHost f).storeys = s.storeys := rfl
@[simp] theorem State.onHost_porchNewel (s : State) (f : HostIf → HostIf) : (s.onHost f).porchNewel = s.porchNewel := rfl
@[simp] theorem State.onHost_foyerNewel (s : State) (f : HostIf → HostIf) : (s.onHost f).foyerNewel = s.foyerNewel := rfl
@[simp] theorem State.onHost_fabric (s : State) (f : HostIf → HostIf) : (s.onHost f).fabric = s.fabric := rfl
@[simp] theorem State.onHost_stair (s : State) (f : HostIf → HostIf) : (s.onHost f).stair = s.stair := rfl
@[simp] theorem State.onHost_porch (s : State) (f : HostIf → HostIf) : (s.onHost f).porch = s.porch := rfl
@[simp] theorem State.onHost_sys (s : State) (f : HostIf → HostIf) : (s.onHost f).sys = s.sys := rfl
@[simp] theorem State.onHost_pending (s : State) (f : HostIf → HostIf) : (s.onHost f).pending = s.pending := rfl
@[simp] theorem State.onHost_free (s : State) (f : HostIf → HostIf) : (s.onHost f).free = s.free := rfl
@[simp] theorem State.onHost_out (s : State) (f : HostIf → HostIf) : (s.onHost f).out = s.out := rfl

@[simp] theorem State.onPhase_wings (s : State) (f : PhaseBase → PhaseBase) : (s.onPhase f).wings = s.wings := rfl
@[simp] theorem State.onPhase_wingTop (s : State) (f : PhaseBase → PhaseBase) : (s.onPhase f).wingTop = s.wingTop := rfl
@[simp] theorem State.onPhase_thr (s : State) (f : PhaseBase → PhaseBase) : (s.onPhase f).thr = s.thr := rfl
@[simp] theorem State.onPhase_mgmt (s : State) (f : PhaseBase → PhaseBase) : (s.onPhase f).mgmt = s.mgmt := rfl
@[simp] theorem State.onPhase_host (s : State) (f : PhaseBase → PhaseBase) : (s.onPhase f).host = s.host := rfl
@[simp] theorem State.onPhase_phase (s : State) (f : PhaseBase → PhaseBase) : (s.onPhase f).phase = f s.phase := rfl
@[simp] theorem State.onPhase_fuse (s : State) (f : PhaseBase → PhaseBase) : (s.onPhase f).fuse = s.fuse := rfl
@[simp] theorem State.onPhase_cellar (s : State) (f : PhaseBase → PhaseBase) : (s.onPhase f).cellar = s.cellar := rfl
@[simp] theorem State.onPhase_larder (s : State) (f : PhaseBase → PhaseBase) : (s.onPhase f).larder = s.larder := rfl
@[simp] theorem State.onPhase_rooms (s : State) (f : PhaseBase → PhaseBase) : (s.onPhase f).rooms = s.rooms := rfl
@[simp] theorem State.onPhase_storeys (s : State) (f : PhaseBase → PhaseBase) : (s.onPhase f).storeys = s.storeys := rfl
@[simp] theorem State.onPhase_porchNewel (s : State) (f : PhaseBase → PhaseBase) : (s.onPhase f).porchNewel = s.porchNewel := rfl
@[simp] theorem State.onPhase_foyerNewel (s : State) (f : PhaseBase → PhaseBase) : (s.onPhase f).foyerNewel = s.foyerNewel := rfl
@[simp] theorem State.onPhase_fabric (s : State) (f : PhaseBase → PhaseBase) : (s.onPhase f).fabric = s.fabric := rfl
@[simp] theorem State.onPhase_stair (s : State) (f : PhaseBase → PhaseBase) : (s.onPhase f).stair = s.stair := rfl
@[simp] theorem State.onPhase_porch (s : State) (f : PhaseBase → PhaseBase) : (s.onPhase f).porch = s.porch := rfl
@[simp] theorem State.onPhase_sys (s : State) (f : PhaseBase → PhaseBase) : (s.onPhase f).sys = s.sys := rfl
@[simp] theorem State.onPhase_pending (s : State) (f : PhaseBase → PhaseBase) : (s.onPhase f).pending = s.pending := rfl
@[simp] theorem State.onPhase_free (s : State) (f : PhaseBase → PhaseBase) : (s.onPhase f).free = s.free := rfl
@[simp] theorem State.onPhase_out (s : State) (f : PhaseBase → PhaseBase) : (s.onPhase f).out = s.out := rfl

@[simp] theorem State.onFuse_wings (s : State) (f : Fusebox → Fusebox) : (s.onFuse f).wings = s.wings := rfl
@[simp] theorem State.onFuse_wingTop (s : State) (f : Fusebox → Fusebox) : (s.onFuse f).wingTop = s.wingTop := rfl
@[simp] theorem State.onFuse_thr (s : State) (f : Fusebox → Fusebox) : (s.onFuse f).thr = s.thr := rfl
@[simp] theorem State.onFuse_mgmt (s : State) (f : Fusebox → Fusebox) : (s.onFuse f).mgmt = s.mgmt := rfl
@[simp] theorem State.onFuse_host (s : State) (f : Fusebox → Fusebox) : (s.onFuse f).host = s.host := rfl
@[simp] theorem State.onFuse_phase (s : State) (f : Fusebox → Fusebox) : (s.onFuse f).phase = s.phase := rfl
@[simp] theorem State.onFuse_fuse (s : State) (f : Fusebox → Fusebox) : (s.onFuse f).fuse = f s.fuse := rfl
@[simp] theorem State.onFuse_cellar (s : State) (f : Fusebox → Fusebox) : (s.onFuse f).cellar = s.cellar := rfl
@[simp] theorem State.onFuse_larder (s : State) (f : Fusebox → Fusebox) : (s.onFuse f).larder = s.larder := rfl
@[simp] theorem State.onFuse_rooms (s : State) (f : Fusebox → Fusebox) : (s.onFuse f).rooms = s.rooms := rfl
@[simp] theorem State.onFuse_storeys (s : State) (f : Fusebox → Fusebox) : (s.onFuse f).storeys = s.storeys := rfl
@[simp] theorem State.onFuse_porchNewel (s : State) (f : Fusebox → Fusebox) : (s.onFuse f).porchNewel = s.porchNewel := rfl
@[simp] theorem State.onFuse_foyerNewel (s : State) (f : Fusebox → Fusebox) : (s.onFuse f).foyerNewel = s.foyerNewel := rfl
@[simp] theorem State.onFuse_fabric (s : State) (f : Fusebox → Fusebox) : (s.onFuse f).fabric = s.fabric := rfl
@[simp] theorem State.onFuse_stair (s : State) (f : Fusebox → Fusebox) : (s.onFuse f).stair = s.stair := rfl
@[simp] theorem State.onFuse_porch (s : State) (f : Fusebox → Fusebox) : (s.onFuse f).porch = s.porch := rfl
@[simp] theorem State.onFuse_sys (s : State) (f : Fusebox → Fusebox) : (s.onFuse f).sys = s.sys := rfl
@[simp] theorem State.onFuse_pending (s : State) (f : Fusebox → Fusebox) : (s.onFuse f).pending = s.pending := rfl
@[simp] theorem State.onFuse_free (s : State) (f : Fusebox → Fusebox) : (s.onFuse f).free = s.free := rfl
@[simp] theorem State.onFuse_out (s : State) (f : Fusebox → Fusebox) : (s.onFuse f).out = s.out := rfl

@[simp] theorem State.onCellar_wings (s : State) (f : Cellar → Cellar) : (s.onCellar f).wings = s.wings := rfl
@[simp] theorem State.onCellar_wingTop (s : State) (f : Cellar → Cellar) : (s.onCellar f).wingTop = s.wingTop := rfl
@[simp] theorem State.onCellar_thr (s : State) (f : Cellar → Cellar) : (s.onCellar f).thr = s.thr := rfl
@[simp] theorem State.onCellar_mgmt (s : State) (f : Cellar → Cellar) : (s.onCellar f).mgmt = s.mgmt := rfl
@[simp] theorem State.onCellar_host (s : State) (f : Cellar → Cellar) : (s.onCellar f).host = s.host := rfl
@[simp] theorem State.onCellar_phase (s : State) (f : Cellar → Cellar) : (s.onCellar f).phase = s.phase := rfl
@[simp] theorem State.onCellar_fuse (s : State) (f : Cellar → Cellar) : (s.onCellar f).fuse = s.fuse := rfl
@[simp] theorem State.onCellar_cellar (s : State) (f : Cellar → Cellar) : (s.onCellar f).cellar = f s.cellar := rfl
@[simp] theorem State.onCellar_larder (s : State) (f : Cellar → Cellar) : (s.onCellar f).larder = s.larder := rfl
@[simp] theorem State.onCellar_rooms (s : State) (f : Cellar → Cellar) : (s.onCellar f).rooms = s.rooms := rfl
@[simp] theorem State.onCellar_storeys (s : State) (f : Cellar → Cellar) : (s.onCellar f).storeys = s.storeys := rfl
@[simp] theorem State.onCellar_porchNewel (s : State) (f : Cellar → Cellar) : (s.onCellar f).porchNewel = s.porchNewel := rfl
@[simp] theorem State.onCellar_foyerNewel (s : State) (f : Cellar → Cellar) : (s.onCellar f).foyerNewel = s.foyerNewel := rfl
@[simp] theorem State.onCellar_fabric (s : State) (f : Cellar → Cellar) : (s.onCellar f).fabric = s.fabric := rfl
@[simp] theorem State.onCellar_stair (s : State) (f : Cellar → Cellar) : (s.onCellar f).stair = s.stair := rfl
@[simp] theorem State.onCellar_porch (s : State) (f : Cellar → Cellar) : (s.onCellar f).porch = s.porch := rfl
@[simp] theorem State.onCellar_sys (s : State) (f : Cellar → Cellar) : (s.onCellar f).sys = s.sys := rfl
@[simp] theorem State.onCellar_pending (s : State) (f : Cellar → Cellar) : (s.onCellar f).pending = s.pending := rfl
@[simp] theorem State.onCellar_free (s : State) (f : Cellar → Cellar) : (s.onCellar f).free = s.free := rfl
@[simp] theorem State.onCellar_out (s : State) (f : Cellar → Cellar) : (s.onCellar f).out = s.out := rfl

@[simp] theorem State.onLarder_wings (s : State) (f : Larder → Larder) : (s.onLarder f).wings = s.wings := rfl
@[simp] theorem State.onLarder_wingTop (s : State) (f : Larder → Larder) : (s.onLarder f).wingTop = s.wingTop := rfl
@[simp] theorem State.onLarder_thr (s : State) (f : Larder → Larder) : (s.onLarder f).thr = s.thr := rfl
@[simp] theorem State.onLarder_mgmt (s : State) (f : Larder → Larder) : (s.onLarder f).mgmt = s.mgmt := rfl
@[simp] theorem State.onLarder_host (s : State) (f : Larder → Larder) : (s.onLarder f).host = s.host := rfl
@[simp] theorem State.onLarder_phase (s : State) (f : Larder → Larder) : (s.onLarder f).phase = s.phase := rfl
@[simp] theorem State.onLarder_fuse (s : State) (f : Larder → Larder) : (s.onLarder f).fuse = s.fuse := rfl
@[simp] theorem State.onLarder_cellar (s : State) (f : Larder → Larder) : (s.onLarder f).cellar = s.cellar := rfl
@[simp] theorem State.onLarder_larder (s : State) (f : Larder → Larder) : (s.onLarder f).larder = f s.larder := rfl
@[simp] theorem State.onLarder_rooms (s : State) (f : Larder → Larder) : (s.onLarder f).rooms = s.rooms := rfl
@[simp] theorem State.onLarder_storeys (s : State) (f : Larder → Larder) : (s.onLarder f).storeys = s.storeys := rfl
@[simp] theorem State.onLarder_porchNewel (s : State) (f : Larder → Larder) : (s.onLarder f).porchNewel = s.porchNewel := rfl
@[simp] theorem State.onLarder_foyerNewel (s : State) (f : Larder → Larder) : (s.onLarder f).foyerNewel = s.foyerNewel := rfl
@[simp] theorem State.onLarder_fabric (s : State) (f : Larder → Larder) : (s.onLarder f).fabric = s.fabric := rfl
@[simp] theorem State.onLarder_stair (s : State) (f : Larder → Larder) : (s.onLarder f).stair = s.stair := rfl
@[simp] theorem State.onLarder_porch (s : State) (f : Larder → Larder) : (s.onLarder f).porch = s.porch := rfl
@[simp] theorem State.onLarder_sys (s : State) (f : Larder → Larder) : (s.onLarder f).sys = s.sys := rfl
@[simp] theorem State.onLarder_pending (s : State) (f : Larder → Larder) : (s.onLarder f).pending = s.pending := rfl
@[simp] theorem State.onLarder_free (s : State) (f : Larder → Larder) : (s.onLarder f).free = s.free := rfl
@[simp] theorem State.onLarder_out (s : State) (f : Larder → Larder) : (s.onLarder f).out = s.out := rfl

@[simp] theorem State.onFabric_wings (s : State) (f : Fabric → Fabric) : (s.onFabric f).wings = s.wings := rfl
@[simp] theorem State.onFabric_wingTop (s : State) (f : Fabric → Fabric) : (s.onFabric f).wingTop = s.wingTop := rfl
@[simp] theorem State.onFabric_thr (s : State) (f : Fabric → Fabric) : (s.onFabric f).thr = s.thr := rfl
@[simp] theorem State.onFabric_mgmt (s : State) (f : Fabric → Fabric) : (s.onFabric f).mgmt = s.mgmt := rfl
@[simp] theorem State.onFabric_host (s : State) (f : Fabric → Fabric) : (s.onFabric f).host = s.host := rfl
@[simp] theorem State.onFabric_phase (s : State) (f : Fabric → Fabric) : (s.onFabric f).phase = s.phase := rfl
@[simp] theorem State.onFabric_fuse (s : State) (f : Fabric → Fabric) : (s.onFabric f).fuse = s.fuse := rfl
@[simp] theorem State.onFabric_cellar (s : State) (f : Fabric → Fabric) : (s.onFabric f).cellar = s.cellar := rfl
@[simp] theorem State.onFabric_larder (s : State) (f : Fabric → Fabric) : (s.onFabric f).larder = s.larder := rfl
@[simp] theorem State.onFabric_rooms (s : State) (f : Fabric → Fabric) : (s.onFabric f).rooms = s.rooms := rfl
@[simp] theorem State.onFabric_storeys (s : State) (f : Fabric → Fabric) : (s.onFabric f).storeys = s.storeys := rfl
@[simp] theorem State.onFabric_porchNewel (s : State) (f : Fabric → Fabric) : (s.onFabric f).porchNewel = s.porchNewel := rfl
@[simp] theorem State.onFabric_foyerNewel (s : State) (f : Fabric → Fabric) : (s.onFabric f).foyerNewel = s.foyerNewel := rfl
@[simp] theorem State.onFabric_fabric (s : State) (f : Fabric → Fabric) : (s.onFabric f).fabric = f s.fabric := rfl
@[simp] theorem State.onFabric_stair (s : State) (f : Fabric → Fabric) : (s.onFabric f).stair = s.stair := rfl
@[simp] theorem State.onFabric_porch (s : State) (f : Fabric → Fabric) : (s.onFabric f).porch = s.porch := rfl
@[simp] theorem State.onFabric_sys (s : State) (f : Fabric → Fabric) : (s.onFabric f).sys = s.sys := rfl
@[simp] theorem State.onFabric_pending (s : State) (f : Fabric → Fabric) : (s.onFabric f).pending = s.pending := rfl
@[simp] theorem State.onFabric_free (s : State) (f : Fabric → Fabric) : (s.onFabric f).free = s.free := rfl
@[simp] theorem State.onFabric_out (s : State) (f : Fabric → Fabric) : (s.onFabric f).out = s.out := rfl

@[simp] theorem State.onStair_wings (s : State) (f : Stairwell → Stairwell) : (s.onStair f).wings = s.wings := rfl
@[simp] theorem State.onStair_wingTop (s : State) (f : Stairwell → Stairwell) : (s.onStair f).wingTop = s.wingTop := rfl
@[simp] theorem State.onStair_thr (s : State) (f : Stairwell → Stairwell) : (s.onStair f).thr = s.thr := rfl
@[simp] theorem State.onStair_mgmt (s : State) (f : Stairwell → Stairwell) : (s.onStair f).mgmt = s.mgmt := rfl
@[simp] theorem State.onStair_host (s : State) (f : Stairwell → Stairwell) : (s.onStair f).host = s.host := rfl
@[simp] theorem State.onStair_phase (s : State) (f : Stairwell → Stairwell) : (s.onStair f).phase = s.phase := rfl
@[simp] theorem State.onStair_fuse (s : State) (f : Stairwell → Stairwell) : (s.onStair f).fuse = s.fuse := rfl
@[simp] theorem State.onStair_cellar (s : State) (f : Stairwell → Stairwell) : (s.onStair f).cellar = s.cellar := rfl
@[simp] theorem State.onStair_larder (s : State) (f : Stairwell → Stairwell) : (s.onStair f).larder = s.larder := rfl
@[simp] theorem State.onStair_rooms (s : State) (f : Stairwell → Stairwell) : (s.onStair f).rooms = s.rooms := rfl
@[simp] theorem State.onStair_storeys (s : State) (f : Stairwell → Stairwell) : (s.onStair f).storeys = s.storeys := rfl
@[simp] theorem State.onStair_porchNewel (s : State) (f : Stairwell → Stairwell) : (s.onStair f).porchNewel = s.porchNewel := rfl
@[simp] theorem State.onStair_foyerNewel (s : State) (f : Stairwell → Stairwell) : (s.onStair f).foyerNewel = s.foyerNewel := rfl
@[simp] theorem State.onStair_fabric (s : State) (f : Stairwell → Stairwell) : (s.onStair f).fabric = s.fabric := rfl
@[simp] theorem State.onStair_stair (s : State) (f : Stairwell → Stairwell) : (s.onStair f).stair = f s.stair := rfl
@[simp] theorem State.onStair_porch (s : State) (f : Stairwell → Stairwell) : (s.onStair f).porch = s.porch := rfl
@[simp] theorem State.onStair_sys (s : State) (f : Stairwell → Stairwell) : (s.onStair f).sys = s.sys := rfl
@[simp] theorem State.onStair_pending (s : State) (f : Stairwell → Stairwell) : (s.onStair f).pending = s.pending := rfl
@[simp] theorem State.onStair_free (s : State) (f : Stairwell → Stairwell) : (s.onStair f).free = s.free := rfl
@[simp] theorem State.onStair_out (s : State) (f : Stairwell → Stairwell) : (s.onStair f).out = s.out := rfl

@[simp] theorem State.onPorch_wings (s : State) (f : Porch → Porch) : (s.onPorch f).wings = s.wings := rfl
@[simp] theorem State.onPorch_wingTop (s : State) (f : Porch → Porch) : (s.onPorch f).wingTop = s.wingTop := rfl
@[simp] theorem State.onPorch_thr (s : State) (f : Porch → Porch) : (s.onPorch f).thr = s.thr := rfl
@[simp] theorem State.onPorch_mgmt (s : State) (f : Porch → Porch) : (s.onPorch f).mgmt = s.mgmt := rfl
@[simp] theorem State.onPorch_host (s : State) (f : Porch → Porch) : (s.onPorch f).host = s.host := rfl
@[simp] theorem State.onPorch_phase (s : State) (f : Porch → Porch) : (s.onPorch f).phase = s.phase := rfl
@[simp] theorem State.onPorch_fuse (s : State) (f : Porch → Porch) : (s.onPorch f).fuse = s.fuse := rfl
@[simp] theorem State.onPorch_cellar (s : State) (f : Porch → Porch) : (s.onPorch f).cellar = s.cellar := rfl
@[simp] theorem State.onPorch_larder (s : State) (f : Porch → Porch) : (s.onPorch f).larder = s.larder := rfl
@[simp] theorem State.onPorch_rooms (s : State) (f : Porch → Porch) : (s.onPorch f).rooms = s.rooms := rfl
@[simp] theorem State.onPorch_storeys (s : State) (f : Porch → Porch) : (s.onPorch f).storeys = s.storeys := rfl
@[simp] theorem State.onPorch_porchNewel (s : State) (f : Porch → Porch) : (s.onPorch f).porchNewel = s.porchNewel := rfl
@[simp] theorem State.onPorch_foyerNewel (s : State) (f : Porch → Porch) : (s.onPorch f).foyerNewel = s.foyerNewel := rfl
@[simp] theorem State.onPorch_fabric (s : State) (f : Porch → Porch) : (s.onPorch f).fabric = s.fabric := rfl
@[simp] theorem State.onPorch_stair (s : State) (f : Porch → Porch) : (s.onPorch f).stair = s.stair := rfl
@[simp] theorem State.onPorch_porch (s : State) (f : Porch → Porch) : (s.onPorch f).porch = f s.porch := rfl
@[simp] theorem State.onPorch_sys (s : State) (f : Porch → Porch) : (s.onPorch f).sys = s.sys := rfl
@[simp] theorem State.onPorch_pending (s : State) (f : Porch → Porch) : (s.onPorch f).pending = s.pending := rfl
@[simp] theorem State.onPorch_free (s : State) (f : Porch → Porch) : (s.onPorch f).free = s.free := rfl
@[simp] theorem State.onPorch_out (s : State) (f : Porch → Porch) : (s.onPorch f).out = s.out := rfl

@[simp] theorem State.onSys_wings (s : State) (f : System → System) : (s.onSys f).wings = s.wings := rfl
@[simp] theorem State.onSys_wingTop (s : State) (f : System → System) : (s.onSys f).wingTop = s.wingTop := rfl
@[simp] theorem State.onSys_thr (s : State) (f : System → System) : (s.onSys f).thr = s.thr := rfl
@[simp] theorem State.onSys_mgmt (s : State) (f : System → System) : (s.onSys f).mgmt = s.mgmt := rfl
@[simp] theorem State.onSys_host (s : State) (f : System → System) : (s.onSys f).host = s.host := rfl
@[simp] theorem State.onSys_phase (s : State) (f : System → System) : (s.onSys f).phase = s.phase := rfl
@[simp] theorem State.onSys_fuse (s : State) (f : System → System) : (s.onSys f).fuse = s.fuse := rfl
@[simp] theorem State.onSys_cellar (s : State) (f : System → System) : (s.onSys f).cellar = s.cellar := rfl
@[simp] theorem State.onSys_larder (s : State) (f : System → System) : (s.onSys f).larder = s.larder := rfl
@[simp] theorem State.onSys_rooms (s : State) (f : System → System) : (s.onSys f).rooms = s.rooms := rfl
@[simp] theorem State.onSys_storeys (s : State) (f : System → System) : (s.onSys f).storeys = s.storeys := rfl
@[simp] theorem State.onSys_porchNewel (s : State) (f : System → System) : (s.onSys f).porchNewel = s.porchNewel := rfl
@[simp] theorem State.onSys_foyerNewel (s : State) (f : System → System) : (s.onSys f).foyerNewel = s.foyerNewel := rfl
@[simp] theorem State.onSys_fabric (s : State) (f : System → System) : (s.onSys f).fabric = s.fabric := rfl
@[simp] theorem State.onSys_stair (s : State) (f : System → System) : (s.onSys f).stair = s.stair := rfl
@[simp] theorem State.onSys_porch (s : State) (f : System → System) : (s.onSys f).porch = s.porch := rfl
@[simp] theorem State.onSys_sys (s : State) (f : System → System) : (s.onSys f).sys = f s.sys := rfl
@[simp] theorem State.onSys_pending (s : State) (f : System → System) : (s.onSys f).pending = s.pending := rfl
@[simp] theorem State.onSys_free (s : State) (f : System → System) : (s.onSys f).free = s.free := rfl
@[simp] theorem State.onSys_out (s : State) (f : System → System) : (s.onSys f).out = s.out := rfl

@[simp] theorem State.onWing_wings (s : State) (w : WingId) (f : Wing → Wing) : (s.onWing w f).wings = vmod s.wings w f := rfl
@[simp] theorem State.onWing_wingTop (s : State) (w : WingId) (f : Wing → Wing) : (s.onWing w f).wingTop = s.wingTop := rfl
@[simp] theorem State.onWing_thr (s : State) (w : WingId) (f : Wing → Wing) : (s.onWing w f).thr = s.thr := rfl
@[simp] theorem State.onWing_mgmt (s : State) (w : WingId) (f : Wing → Wing) : (s.onWing w f).mgmt = s.mgmt := rfl
@[simp] theorem State.onWing_host (s : State) (w : WingId) (f : Wing → Wing) : (s.onWing w f).host = s.host := rfl
@[simp] theorem State.onWing_phase (s : State) (w : WingId) (f : Wing → Wing) : (s.onWing w f).phase = s.phase := rfl
@[simp] theorem State.onWing_fuse (s : State) (w : WingId) (f : Wing → Wing) : (s.onWing w f).fuse = s.fuse := rfl
@[simp] theorem State.onWing_cellar (s : State) (w : WingId) (f : Wing → Wing) : (s.onWing w f).cellar = s.cellar := rfl
@[simp] theorem State.onWing_larder (s : State) (w : WingId) (f : Wing → Wing) : (s.onWing w f).larder = s.larder := rfl
@[simp] theorem State.onWing_rooms (s : State) (w : WingId) (f : Wing → Wing) : (s.onWing w f).rooms = s.rooms := rfl
@[simp] theorem State.onWing_storeys (s : State) (w : WingId) (f : Wing → Wing) : (s.onWing w f).storeys = s.storeys := rfl
@[simp] theorem State.onWing_porchNewel (s : State) (w : WingId) (f : Wing → Wing) : (s.onWing w f).porchNewel = s.porchNewel := rfl
@[simp] theorem State.onWing_foyerNewel (s : State) (w : WingId) (f : Wing → Wing) : (s.onWing w f).foyerNewel = s.foyerNewel := rfl
@[simp] theorem State.onWing_fabric (s : State) (w : WingId) (f : Wing → Wing) : (s.onWing w f).fabric = s.fabric := rfl
@[simp] theorem State.onWing_stair (s : State) (w : WingId) (f : Wing → Wing) : (s.onWing w f).stair = s.stair := rfl
@[simp] theorem State.onWing_porch (s : State) (w : WingId) (f : Wing → Wing) : (s.onWing w f).porch = s.porch := rfl
@[simp] theorem State.onWing_sys (s : State) (w : WingId) (f : Wing → Wing) : (s.onWing w f).sys = s.sys := rfl
@[simp] theorem State.onWing_pending (s : State) (w : WingId) (f : Wing → Wing) : (s.onWing w f).pending = s.pending := rfl
@[simp] theorem State.onWing_free (s : State) (w : WingId) (f : Wing → Wing) : (s.onWing w f).free = s.free := rfl
@[simp] theorem State.onWing_out (s : State) (w : WingId) (f : Wing → Wing) : (s.onWing w f).out = s.out := rfl

@[simp] theorem State.onRing_wings (s : State) (w : WingId) (f : Ring → Ring) : (s.onRing w f).wings = s.wings := rfl
@[simp] theorem State.onRing_wingTop (s : State) (w : WingId) (f : Ring → Ring) : (s.onRing w f).wingTop = s.wingTop := rfl
@[simp] theorem State.onRing_thr (s : State) (w : WingId) (f : Ring → Ring) : (s.onRing w f).thr = s.thr := rfl
@[simp] theorem State.onRing_mgmt (s : State) (w : WingId) (f : Ring → Ring) : (s.onRing w f).mgmt = s.mgmt := rfl
@[simp] theorem State.onRing_host (s : State) (w : WingId) (f : Ring → Ring) : (s.onRing w f).host = { s.host with rings := vmod s.host.rings w f } := rfl
@[simp] theorem State.onRing_phase (s : State) (w : WingId) (f : Ring → Ring) : (s.onRing w f).phase = s.phase := rfl
@[simp] theorem State.onRing_fuse (s : State) (w : WingId) (f : Ring → Ring) : (s.onRing w f).fuse = s.fuse := rfl
@[simp] theorem State.onRing_cellar (s : State) (w : WingId) (f : Ring → Ring) : (s.onRing w f).cellar = s.cellar := rfl
@[simp] theorem State.onRing_larder (s : State) (w : WingId) (f : Ring → Ring) : (s.onRing w f).larder = s.larder := rfl
@[simp] theorem State.onRing_rooms (s : State) (w : WingId) (f : Ring → Ring) : (s.onRing w f).rooms = s.rooms := rfl
@[simp] theorem State.onRing_storeys (s : State) (w : WingId) (f : Ring → Ring) : (s.onRing w f).storeys = s.storeys := rfl
@[simp] theorem State.onRing_porchNewel (s : State) (w : WingId) (f : Ring → Ring) : (s.onRing w f).porchNewel = s.porchNewel := rfl
@[simp] theorem State.onRing_foyerNewel (s : State) (w : WingId) (f : Ring → Ring) : (s.onRing w f).foyerNewel = s.foyerNewel := rfl
@[simp] theorem State.onRing_fabric (s : State) (w : WingId) (f : Ring → Ring) : (s.onRing w f).fabric = s.fabric := rfl
@[simp] theorem State.onRing_stair (s : State) (w : WingId) (f : Ring → Ring) : (s.onRing w f).stair = s.stair := rfl
@[simp] theorem State.onRing_porch (s : State) (w : WingId) (f : Ring → Ring) : (s.onRing w f).porch = s.porch := rfl
@[simp] theorem State.onRing_sys (s : State) (w : WingId) (f : Ring → Ring) : (s.onRing w f).sys = s.sys := rfl
@[simp] theorem State.onRing_pending (s : State) (w : WingId) (f : Ring → Ring) : (s.onRing w f).pending = s.pending := rfl
@[simp] theorem State.onRing_free (s : State) (w : WingId) (f : Ring → Ring) : (s.onRing w f).free = s.free := rfl
@[simp] theorem State.onRing_out (s : State) (w : WingId) (f : Ring → Ring) : (s.onRing w f).out = s.out := rfl

@[simp] theorem State.onHatch_wings (s : State) (w : WingId) (f : Hatch → Hatch) : (s.onHatch w f).wings = s.wings := rfl
@[simp] theorem State.onHatch_wingTop (s : State) (w : WingId) (f : Hatch → Hatch) : (s.onHatch w f).wingTop = s.wingTop := rfl
@[simp] theorem State.onHatch_thr (s : State) (w : WingId) (f : Hatch → Hatch) : (s.onHatch w f).thr = s.thr := rfl
@[simp] theorem State.onHatch_mgmt (s : State) (w : WingId) (f : Hatch → Hatch) : (s.onHatch w f).mgmt = s.mgmt := rfl
@[simp] theorem State.onHatch_host (s : State) (w : WingId) (f : Hatch → Hatch) : (s.onHatch w f).host = { s.host with hatches := vmod s.host.hatches w f } := rfl
@[simp] theorem State.onHatch_phase (s : State) (w : WingId) (f : Hatch → Hatch) : (s.onHatch w f).phase = s.phase := rfl
@[simp] theorem State.onHatch_fuse (s : State) (w : WingId) (f : Hatch → Hatch) : (s.onHatch w f).fuse = s.fuse := rfl
@[simp] theorem State.onHatch_cellar (s : State) (w : WingId) (f : Hatch → Hatch) : (s.onHatch w f).cellar = s.cellar := rfl
@[simp] theorem State.onHatch_larder (s : State) (w : WingId) (f : Hatch → Hatch) : (s.onHatch w f).larder = s.larder := rfl
@[simp] theorem State.onHatch_rooms (s : State) (w : WingId) (f : Hatch → Hatch) : (s.onHatch w f).rooms = s.rooms := rfl
@[simp] theorem State.onHatch_storeys (s : State) (w : WingId) (f : Hatch → Hatch) : (s.onHatch w f).storeys = s.storeys := rfl
@[simp] theorem State.onHatch_porchNewel (s : State) (w : WingId) (f : Hatch → Hatch) : (s.onHatch w f).porchNewel = s.porchNewel := rfl
@[simp] theorem State.onHatch_foyerNewel (s : State) (w : WingId) (f : Hatch → Hatch) : (s.onHatch w f).foyerNewel = s.foyerNewel := rfl
@[simp] theorem State.onHatch_fabric (s : State) (w : WingId) (f : Hatch → Hatch) : (s.onHatch w f).fabric = s.fabric := rfl
@[simp] theorem State.onHatch_stair (s : State) (w : WingId) (f : Hatch → Hatch) : (s.onHatch w f).stair = s.stair := rfl
@[simp] theorem State.onHatch_porch (s : State) (w : WingId) (f : Hatch → Hatch) : (s.onHatch w f).porch = s.porch := rfl
@[simp] theorem State.onHatch_sys (s : State) (w : WingId) (f : Hatch → Hatch) : (s.onHatch w f).sys = s.sys := rfl
@[simp] theorem State.onHatch_pending (s : State) (w : WingId) (f : Hatch → Hatch) : (s.onHatch w f).pending = s.pending := rfl
@[simp] theorem State.onHatch_free (s : State) (w : WingId) (f : Hatch → Hatch) : (s.onHatch w f).free = s.free := rfl
@[simp] theorem State.onHatch_out (s : State) (w : WingId) (f : Hatch → Hatch) : (s.onHatch w f).out = s.out := rfl

@[simp] theorem State.onRoom_wings (s : State) (r : RoomId) (f : Room → Room) : (s.onRoom r f).wings = s.wings := rfl
@[simp] theorem State.onRoom_wingTop (s : State) (r : RoomId) (f : Room → Room) : (s.onRoom r f).wingTop = s.wingTop := rfl
@[simp] theorem State.onRoom_thr (s : State) (r : RoomId) (f : Room → Room) : (s.onRoom r f).thr = s.thr := rfl
@[simp] theorem State.onRoom_mgmt (s : State) (r : RoomId) (f : Room → Room) : (s.onRoom r f).mgmt = s.mgmt := rfl
@[simp] theorem State.onRoom_host (s : State) (r : RoomId) (f : Room → Room) : (s.onRoom r f).host = s.host := rfl
@[simp] theorem State.onRoom_phase (s : State) (r : RoomId) (f : Room → Room) : (s.onRoom r f).phase = s.phase := rfl
@[simp] theorem State.onRoom_fuse (s : State) (r : RoomId) (f : Room → Room) : (s.onRoom r f).fuse = s.fuse := rfl
@[simp] theorem State.onRoom_cellar (s : State) (r : RoomId) (f : Room → Room) : (s.onRoom r f).cellar = s.cellar := rfl
@[simp] theorem State.onRoom_larder (s : State) (r : RoomId) (f : Room → Room) : (s.onRoom r f).larder = s.larder := rfl
@[simp] theorem State.onRoom_rooms (s : State) (r : RoomId) (f : Room → Room) : (s.onRoom r f).rooms = vmod s.rooms r f := rfl
@[simp] theorem State.onRoom_storeys (s : State) (r : RoomId) (f : Room → Room) : (s.onRoom r f).storeys = s.storeys := rfl
@[simp] theorem State.onRoom_porchNewel (s : State) (r : RoomId) (f : Room → Room) : (s.onRoom r f).porchNewel = s.porchNewel := rfl
@[simp] theorem State.onRoom_foyerNewel (s : State) (r : RoomId) (f : Room → Room) : (s.onRoom r f).foyerNewel = s.foyerNewel := rfl
@[simp] theorem State.onRoom_fabric (s : State) (r : RoomId) (f : Room → Room) : (s.onRoom r f).fabric = s.fabric := rfl
@[simp] theorem State.onRoom_stair (s : State) (r : RoomId) (f : Room → Room) : (s.onRoom r f).stair = s.stair := rfl
@[simp] theorem State.onRoom_porch (s : State) (r : RoomId) (f : Room → Room) : (s.onRoom r f).porch = s.porch := rfl
@[simp] theorem State.onRoom_sys (s : State) (r : RoomId) (f : Room → Room) : (s.onRoom r f).sys = s.sys := rfl
@[simp] theorem State.onRoom_pending (s : State) (r : RoomId) (f : Room → Room) : (s.onRoom r f).pending = s.pending := rfl
@[simp] theorem State.onRoom_free (s : State) (r : RoomId) (f : Room → Room) : (s.onRoom r f).free = s.free := rfl
@[simp] theorem State.onRoom_out (s : State) (r : RoomId) (f : Room → Room) : (s.onRoom r f).out = s.out := rfl

@[simp] theorem State.onStorey_wings (s : State) (i : StoreyId) (f : Storey → Storey) : (s.onStorey i f).wings = s.wings := rfl
@[simp] theorem State.onStorey_wingTop (s : State) (i : StoreyId) (f : Storey → Storey) : (s.onStorey i f).wingTop = s.wingTop := rfl
@[simp] theorem State.onStorey_thr (s : State) (i : StoreyId) (f : Storey → Storey) : (s.onStorey i f).thr = s.thr := rfl
@[simp] theorem State.onStorey_mgmt (s : State) (i : StoreyId) (f : Storey → Storey) : (s.onStorey i f).mgmt = s.mgmt := rfl
@[simp] theorem State.onStorey_host (s : State) (i : StoreyId) (f : Storey → Storey) : (s.onStorey i f).host = s.host := rfl
@[simp] theorem State.onStorey_phase (s : State) (i : StoreyId) (f : Storey → Storey) : (s.onStorey i f).phase = s.phase := rfl
@[simp] theorem State.onStorey_fuse (s : State) (i : StoreyId) (f : Storey → Storey) : (s.onStorey i f).fuse = s.fuse := rfl
@[simp] theorem State.onStorey_cellar (s : State) (i : StoreyId) (f : Storey → Storey) : (s.onStorey i f).cellar = s.cellar := rfl
@[simp] theorem State.onStorey_larder (s : State) (i : StoreyId) (f : Storey → Storey) : (s.onStorey i f).larder = s.larder := rfl
@[simp] theorem State.onStorey_rooms (s : State) (i : StoreyId) (f : Storey → Storey) : (s.onStorey i f).rooms = s.rooms := rfl
@[simp] theorem State.onStorey_storeys (s : State) (i : StoreyId) (f : Storey → Storey) : (s.onStorey i f).storeys = vmod s.storeys i f := rfl
@[simp] theorem State.onStorey_porchNewel (s : State) (i : StoreyId) (f : Storey → Storey) : (s.onStorey i f).porchNewel = s.porchNewel := rfl
@[simp] theorem State.onStorey_foyerNewel (s : State) (i : StoreyId) (f : Storey → Storey) : (s.onStorey i f).foyerNewel = s.foyerNewel := rfl
@[simp] theorem State.onStorey_fabric (s : State) (i : StoreyId) (f : Storey → Storey) : (s.onStorey i f).fabric = s.fabric := rfl
@[simp] theorem State.onStorey_stair (s : State) (i : StoreyId) (f : Storey → Storey) : (s.onStorey i f).stair = s.stair := rfl
@[simp] theorem State.onStorey_porch (s : State) (i : StoreyId) (f : Storey → Storey) : (s.onStorey i f).porch = s.porch := rfl
@[simp] theorem State.onStorey_sys (s : State) (i : StoreyId) (f : Storey → Storey) : (s.onStorey i f).sys = s.sys := rfl
@[simp] theorem State.onStorey_pending (s : State) (i : StoreyId) (f : Storey → Storey) : (s.onStorey i f).pending = s.pending := rfl
@[simp] theorem State.onStorey_free (s : State) (i : StoreyId) (f : Storey → Storey) : (s.onStorey i f).free = s.free := rfl
@[simp] theorem State.onStorey_out (s : State) (i : StoreyId) (f : Storey → Storey) : (s.onStorey i f).out = s.out := rfl

@[simp] theorem State.onDoor_wings (s : State) (d : DoorId) (f : Doorway → Doorway) : (s.onDoor d f).wings = s.wings := rfl
@[simp] theorem State.onDoor_wingTop (s : State) (d : DoorId) (f : Doorway → Doorway) : (s.onDoor d f).wingTop = s.wingTop := rfl
@[simp] theorem State.onDoor_thr (s : State) (d : DoorId) (f : Doorway → Doorway) : (s.onDoor d f).thr = s.thr := rfl
@[simp] theorem State.onDoor_mgmt (s : State) (d : DoorId) (f : Doorway → Doorway) : (s.onDoor d f).mgmt = s.mgmt := rfl
@[simp] theorem State.onDoor_host (s : State) (d : DoorId) (f : Doorway → Doorway) : (s.onDoor d f).host = s.host := rfl
@[simp] theorem State.onDoor_phase (s : State) (d : DoorId) (f : Doorway → Doorway) : (s.onDoor d f).phase = s.phase := rfl
@[simp] theorem State.onDoor_fuse (s : State) (d : DoorId) (f : Doorway → Doorway) : (s.onDoor d f).fuse = s.fuse := rfl
@[simp] theorem State.onDoor_cellar (s : State) (d : DoorId) (f : Doorway → Doorway) : (s.onDoor d f).cellar = s.cellar := rfl
@[simp] theorem State.onDoor_larder (s : State) (d : DoorId) (f : Doorway → Doorway) : (s.onDoor d f).larder = s.larder := rfl
@[simp] theorem State.onDoor_rooms (s : State) (d : DoorId) (f : Doorway → Doorway) : (s.onDoor d f).rooms = s.rooms := rfl
@[simp] theorem State.onDoor_storeys (s : State) (d : DoorId) (f : Doorway → Doorway) : (s.onDoor d f).storeys = s.storeys := rfl
@[simp] theorem State.onDoor_porchNewel (s : State) (d : DoorId) (f : Doorway → Doorway) : (s.onDoor d f).porchNewel = s.porchNewel := rfl
@[simp] theorem State.onDoor_foyerNewel (s : State) (d : DoorId) (f : Doorway → Doorway) : (s.onDoor d f).foyerNewel = s.foyerNewel := rfl
@[simp] theorem State.onDoor_fabric (s : State) (d : DoorId) (f : Doorway → Doorway) : (s.onDoor d f).fabric = { s.fabric with doors := vmod s.fabric.doors d f } := rfl
@[simp] theorem State.onDoor_stair (s : State) (d : DoorId) (f : Doorway → Doorway) : (s.onDoor d f).stair = s.stair := rfl
@[simp] theorem State.onDoor_porch (s : State) (d : DoorId) (f : Doorway → Doorway) : (s.onDoor d f).porch = s.porch := rfl
@[simp] theorem State.onDoor_sys (s : State) (d : DoorId) (f : Doorway → Doorway) : (s.onDoor d f).sys = s.sys := rfl
@[simp] theorem State.onDoor_pending (s : State) (d : DoorId) (f : Doorway → Doorway) : (s.onDoor d f).pending = s.pending := rfl
@[simp] theorem State.onDoor_free (s : State) (d : DoorId) (f : Doorway → Doorway) : (s.onDoor d f).free = s.free := rfl
@[simp] theorem State.onDoor_out (s : State) (d : DoorId) (f : Doorway → Doorway) : (s.onDoor d f).out = s.out := rfl

@[simp] theorem State.onStack_wings (s : State) (i : StoreyId) (f : Stack → Stack) : (s.onStack i f).wings = s.wings := rfl
@[simp] theorem State.onStack_wingTop (s : State) (i : StoreyId) (f : Stack → Stack) : (s.onStack i f).wingTop = s.wingTop := rfl
@[simp] theorem State.onStack_thr (s : State) (i : StoreyId) (f : Stack → Stack) : (s.onStack i f).thr = s.thr := rfl
@[simp] theorem State.onStack_mgmt (s : State) (i : StoreyId) (f : Stack → Stack) : (s.onStack i f).mgmt = s.mgmt := rfl
@[simp] theorem State.onStack_host (s : State) (i : StoreyId) (f : Stack → Stack) : (s.onStack i f).host = s.host := rfl
@[simp] theorem State.onStack_phase (s : State) (i : StoreyId) (f : Stack → Stack) : (s.onStack i f).phase = s.phase := rfl
@[simp] theorem State.onStack_fuse (s : State) (i : StoreyId) (f : Stack → Stack) : (s.onStack i f).fuse = s.fuse := rfl
@[simp] theorem State.onStack_cellar (s : State) (i : StoreyId) (f : Stack → Stack) : (s.onStack i f).cellar = { s.cellar with stk := vmod s.cellar.stk i f } := rfl
@[simp] theorem State.onStack_larder (s : State) (i : StoreyId) (f : Stack → Stack) : (s.onStack i f).larder = s.larder := rfl
@[simp] theorem State.onStack_rooms (s : State) (i : StoreyId) (f : Stack → Stack) : (s.onStack i f).rooms = s.rooms := rfl
@[simp] theorem State.onStack_storeys (s : State) (i : StoreyId) (f : Stack → Stack) : (s.onStack i f).storeys = s.storeys := rfl
@[simp] theorem State.onStack_porchNewel (s : State) (i : StoreyId) (f : Stack → Stack) : (s.onStack i f).porchNewel = s.porchNewel := rfl
@[simp] theorem State.onStack_foyerNewel (s : State) (i : StoreyId) (f : Stack → Stack) : (s.onStack i f).foyerNewel = s.foyerNewel := rfl
@[simp] theorem State.onStack_fabric (s : State) (i : StoreyId) (f : Stack → Stack) : (s.onStack i f).fabric = s.fabric := rfl
@[simp] theorem State.onStack_stair (s : State) (i : StoreyId) (f : Stack → Stack) : (s.onStack i f).stair = s.stair := rfl
@[simp] theorem State.onStack_porch (s : State) (i : StoreyId) (f : Stack → Stack) : (s.onStack i f).porch = s.porch := rfl
@[simp] theorem State.onStack_sys (s : State) (i : StoreyId) (f : Stack → Stack) : (s.onStack i f).sys = s.sys := rfl
@[simp] theorem State.onStack_pending (s : State) (i : StoreyId) (f : Stack → Stack) : (s.onStack i f).pending = s.pending := rfl
@[simp] theorem State.onStack_free (s : State) (i : StoreyId) (f : Stack → Stack) : (s.onStack i f).free = s.free := rfl
@[simp] theorem State.onStack_out (s : State) (i : StoreyId) (f : Stack → Stack) : (s.onStack i f).out = s.out := rfl

@[simp] theorem State.onStream_wings (s : State) (n : Fin 64) (f : CelStream → CelStream) : (s.onStream n f).wings = s.wings := rfl
@[simp] theorem State.onStream_wingTop (s : State) (n : Fin 64) (f : CelStream → CelStream) : (s.onStream n f).wingTop = s.wingTop := rfl
@[simp] theorem State.onStream_thr (s : State) (n : Fin 64) (f : CelStream → CelStream) : (s.onStream n f).thr = s.thr := rfl
@[simp] theorem State.onStream_mgmt (s : State) (n : Fin 64) (f : CelStream → CelStream) : (s.onStream n f).mgmt = s.mgmt := rfl
@[simp] theorem State.onStream_host (s : State) (n : Fin 64) (f : CelStream → CelStream) : (s.onStream n f).host = s.host := rfl
@[simp] theorem State.onStream_phase (s : State) (n : Fin 64) (f : CelStream → CelStream) : (s.onStream n f).phase = s.phase := rfl
@[simp] theorem State.onStream_fuse (s : State) (n : Fin 64) (f : CelStream → CelStream) : (s.onStream n f).fuse = s.fuse := rfl
@[simp] theorem State.onStream_cellar (s : State) (n : Fin 64) (f : CelStream → CelStream) : (s.onStream n f).cellar = { s.cellar with streams := vmod s.cellar.streams n f } := rfl
@[simp] theorem State.onStream_larder (s : State) (n : Fin 64) (f : CelStream → CelStream) : (s.onStream n f).larder = s.larder := rfl
@[simp] theorem State.onStream_rooms (s : State) (n : Fin 64) (f : CelStream → CelStream) : (s.onStream n f).rooms = s.rooms := rfl
@[simp] theorem State.onStream_storeys (s : State) (n : Fin 64) (f : CelStream → CelStream) : (s.onStream n f).storeys = s.storeys := rfl
@[simp] theorem State.onStream_porchNewel (s : State) (n : Fin 64) (f : CelStream → CelStream) : (s.onStream n f).porchNewel = s.porchNewel := rfl
@[simp] theorem State.onStream_foyerNewel (s : State) (n : Fin 64) (f : CelStream → CelStream) : (s.onStream n f).foyerNewel = s.foyerNewel := rfl
@[simp] theorem State.onStream_fabric (s : State) (n : Fin 64) (f : CelStream → CelStream) : (s.onStream n f).fabric = s.fabric := rfl
@[simp] theorem State.onStream_stair (s : State) (n : Fin 64) (f : CelStream → CelStream) : (s.onStream n f).stair = s.stair := rfl
@[simp] theorem State.onStream_porch (s : State) (n : Fin 64) (f : CelStream → CelStream) : (s.onStream n f).porch = s.porch := rfl
@[simp] theorem State.onStream_sys (s : State) (n : Fin 64) (f : CelStream → CelStream) : (s.onStream n f).sys = s.sys := rfl
@[simp] theorem State.onStream_pending (s : State) (n : Fin 64) (f : CelStream → CelStream) : (s.onStream n f).pending = s.pending := rfl
@[simp] theorem State.onStream_free (s : State) (n : Fin 64) (f : CelStream → CelStream) : (s.onStream n f).free = s.free := rfl
@[simp] theorem State.onStream_out (s : State) (n : Fin 64) (f : CelStream → CelStream) : (s.onStream n f).out = s.out := rfl

@[simp] theorem State.onCtx_wings (s : State) (c : Fin 8) (f : Ctx → Ctx) : (s.onCtx c f).wings = s.wings := rfl
@[simp] theorem State.onCtx_wingTop (s : State) (c : Fin 8) (f : Ctx → Ctx) : (s.onCtx c f).wingTop = s.wingTop := rfl
@[simp] theorem State.onCtx_thr (s : State) (c : Fin 8) (f : Ctx → Ctx) : (s.onCtx c f).thr = s.thr := rfl
@[simp] theorem State.onCtx_mgmt (s : State) (c : Fin 8) (f : Ctx → Ctx) : (s.onCtx c f).mgmt = s.mgmt := rfl
@[simp] theorem State.onCtx_host (s : State) (c : Fin 8) (f : Ctx → Ctx) : (s.onCtx c f).host = s.host := rfl
@[simp] theorem State.onCtx_phase (s : State) (c : Fin 8) (f : Ctx → Ctx) : (s.onCtx c f).phase = s.phase := rfl
@[simp] theorem State.onCtx_fuse (s : State) (c : Fin 8) (f : Ctx → Ctx) : (s.onCtx c f).fuse = s.fuse := rfl
@[simp] theorem State.onCtx_cellar (s : State) (c : Fin 8) (f : Ctx → Ctx) : (s.onCtx c f).cellar = s.cellar := rfl
@[simp] theorem State.onCtx_larder (s : State) (c : Fin 8) (f : Ctx → Ctx) : (s.onCtx c f).larder = s.larder := rfl
@[simp] theorem State.onCtx_rooms (s : State) (c : Fin 8) (f : Ctx → Ctx) : (s.onCtx c f).rooms = s.rooms := rfl
@[simp] theorem State.onCtx_storeys (s : State) (c : Fin 8) (f : Ctx → Ctx) : (s.onCtx c f).storeys = s.storeys := rfl
@[simp] theorem State.onCtx_porchNewel (s : State) (c : Fin 8) (f : Ctx → Ctx) : (s.onCtx c f).porchNewel = s.porchNewel := rfl
@[simp] theorem State.onCtx_foyerNewel (s : State) (c : Fin 8) (f : Ctx → Ctx) : (s.onCtx c f).foyerNewel = s.foyerNewel := rfl
@[simp] theorem State.onCtx_fabric (s : State) (c : Fin 8) (f : Ctx → Ctx) : (s.onCtx c f).fabric = s.fabric := rfl
@[simp] theorem State.onCtx_stair (s : State) (c : Fin 8) (f : Ctx → Ctx) : (s.onCtx c f).stair = { s.stair with ctxs := vmod s.stair.ctxs c f } := rfl
@[simp] theorem State.onCtx_porch (s : State) (c : Fin 8) (f : Ctx → Ctx) : (s.onCtx c f).porch = s.porch := rfl
@[simp] theorem State.onCtx_sys (s : State) (c : Fin 8) (f : Ctx → Ctx) : (s.onCtx c f).sys = s.sys := rfl
@[simp] theorem State.onCtx_pending (s : State) (c : Fin 8) (f : Ctx → Ctx) : (s.onCtx c f).pending = s.pending := rfl
@[simp] theorem State.onCtx_free (s : State) (c : Fin 8) (f : Ctx → Ctx) : (s.onCtx c f).free = s.free := rfl
@[simp] theorem State.onCtx_out (s : State) (c : Fin 8) (f : Ctx → Ctx) : (s.onCtx c f).out = s.out := rfl

@[simp] theorem State.onPStream_wings (s : State) (k : Fin 16) (f : PStream → PStream) : (s.onPStream k f).wings = s.wings := rfl
@[simp] theorem State.onPStream_wingTop (s : State) (k : Fin 16) (f : PStream → PStream) : (s.onPStream k f).wingTop = s.wingTop := rfl
@[simp] theorem State.onPStream_thr (s : State) (k : Fin 16) (f : PStream → PStream) : (s.onPStream k f).thr = s.thr := rfl
@[simp] theorem State.onPStream_mgmt (s : State) (k : Fin 16) (f : PStream → PStream) : (s.onPStream k f).mgmt = s.mgmt := rfl
@[simp] theorem State.onPStream_host (s : State) (k : Fin 16) (f : PStream → PStream) : (s.onPStream k f).host = s.host := rfl
@[simp] theorem State.onPStream_phase (s : State) (k : Fin 16) (f : PStream → PStream) : (s.onPStream k f).phase = s.phase := rfl
@[simp] theorem State.onPStream_fuse (s : State) (k : Fin 16) (f : PStream → PStream) : (s.onPStream k f).fuse = s.fuse := rfl
@[simp] theorem State.onPStream_cellar (s : State) (k : Fin 16) (f : PStream → PStream) : (s.onPStream k f).cellar = s.cellar := rfl
@[simp] theorem State.onPStream_larder (s : State) (k : Fin 16) (f : PStream → PStream) : (s.onPStream k f).larder = s.larder := rfl
@[simp] theorem State.onPStream_rooms (s : State) (k : Fin 16) (f : PStream → PStream) : (s.onPStream k f).rooms = s.rooms := rfl
@[simp] theorem State.onPStream_storeys (s : State) (k : Fin 16) (f : PStream → PStream) : (s.onPStream k f).storeys = s.storeys := rfl
@[simp] theorem State.onPStream_porchNewel (s : State) (k : Fin 16) (f : PStream → PStream) : (s.onPStream k f).porchNewel = s.porchNewel := rfl
@[simp] theorem State.onPStream_foyerNewel (s : State) (k : Fin 16) (f : PStream → PStream) : (s.onPStream k f).foyerNewel = s.foyerNewel := rfl
@[simp] theorem State.onPStream_fabric (s : State) (k : Fin 16) (f : PStream → PStream) : (s.onPStream k f).fabric = s.fabric := rfl
@[simp] theorem State.onPStream_stair (s : State) (k : Fin 16) (f : PStream → PStream) : (s.onPStream k f).stair = s.stair := rfl
@[simp] theorem State.onPStream_porch (s : State) (k : Fin 16) (f : PStream → PStream) : (s.onPStream k f).porch = { s.porch with streams := vmod s.porch.streams k f } := rfl
@[simp] theorem State.onPStream_sys (s : State) (k : Fin 16) (f : PStream → PStream) : (s.onPStream k f).sys = s.sys := rfl
@[simp] theorem State.onPStream_pending (s : State) (k : Fin 16) (f : PStream → PStream) : (s.onPStream k f).pending = s.pending := rfl
@[simp] theorem State.onPStream_free (s : State) (k : Fin 16) (f : PStream → PStream) : (s.onPStream k f).free = s.free := rfl
@[simp] theorem State.onPStream_out (s : State) (k : Fin 16) (f : PStream → PStream) : (s.onPStream k f).out = s.out := rfl

@[simp] theorem State.onCmp_wings (s : State) (n : Fin 64) (f : Cmp → Cmp) : (s.onCmp n f).wings = s.wings := rfl
@[simp] theorem State.onCmp_wingTop (s : State) (n : Fin 64) (f : Cmp → Cmp) : (s.onCmp n f).wingTop = s.wingTop := rfl
@[simp] theorem State.onCmp_thr (s : State) (n : Fin 64) (f : Cmp → Cmp) : (s.onCmp n f).thr = s.thr := rfl
@[simp] theorem State.onCmp_mgmt (s : State) (n : Fin 64) (f : Cmp → Cmp) : (s.onCmp n f).mgmt = s.mgmt := rfl
@[simp] theorem State.onCmp_host (s : State) (n : Fin 64) (f : Cmp → Cmp) : (s.onCmp n f).host = s.host := rfl
@[simp] theorem State.onCmp_phase (s : State) (n : Fin 64) (f : Cmp → Cmp) : (s.onCmp n f).phase = { s.phase with cmps := vmod s.phase.cmps n f } := rfl
@[simp] theorem State.onCmp_fuse (s : State) (n : Fin 64) (f : Cmp → Cmp) : (s.onCmp n f).fuse = s.fuse := rfl
@[simp] theorem State.onCmp_cellar (s : State) (n : Fin 64) (f : Cmp → Cmp) : (s.onCmp n f).cellar = s.cellar := rfl
@[simp] theorem State.onCmp_larder (s : State) (n : Fin 64) (f : Cmp → Cmp) : (s.onCmp n f).larder = s.larder := rfl
@[simp] theorem State.onCmp_rooms (s : State) (n : Fin 64) (f : Cmp → Cmp) : (s.onCmp n f).rooms = s.rooms := rfl
@[simp] theorem State.onCmp_storeys (s : State) (n : Fin 64) (f : Cmp → Cmp) : (s.onCmp n f).storeys = s.storeys := rfl
@[simp] theorem State.onCmp_porchNewel (s : State) (n : Fin 64) (f : Cmp → Cmp) : (s.onCmp n f).porchNewel = s.porchNewel := rfl
@[simp] theorem State.onCmp_foyerNewel (s : State) (n : Fin 64) (f : Cmp → Cmp) : (s.onCmp n f).foyerNewel = s.foyerNewel := rfl
@[simp] theorem State.onCmp_fabric (s : State) (n : Fin 64) (f : Cmp → Cmp) : (s.onCmp n f).fabric = s.fabric := rfl
@[simp] theorem State.onCmp_stair (s : State) (n : Fin 64) (f : Cmp → Cmp) : (s.onCmp n f).stair = s.stair := rfl
@[simp] theorem State.onCmp_porch (s : State) (n : Fin 64) (f : Cmp → Cmp) : (s.onCmp n f).porch = s.porch := rfl
@[simp] theorem State.onCmp_sys (s : State) (n : Fin 64) (f : Cmp → Cmp) : (s.onCmp n f).sys = s.sys := rfl
@[simp] theorem State.onCmp_pending (s : State) (n : Fin 64) (f : Cmp → Cmp) : (s.onCmp n f).pending = s.pending := rfl
@[simp] theorem State.onCmp_free (s : State) (n : Fin 64) (f : Cmp → Cmp) : (s.onCmp n f).free = s.free := rfl
@[simp] theorem State.onCmp_out (s : State) (n : Fin 64) (f : Cmp → Cmp) : (s.onCmp n f).out = s.out := rfl

@[simp] theorem State.onCache_wings (s : State) (c : CoreId) (f : Cache → Cache) : (s.onCache c f).wings = s.wings := rfl
@[simp] theorem State.onCache_wingTop (s : State) (c : CoreId) (f : Cache → Cache) : (s.onCache c f).wingTop = s.wingTop := rfl
@[simp] theorem State.onCache_thr (s : State) (c : CoreId) (f : Cache → Cache) : (s.onCache c f).thr = s.thr := rfl
@[simp] theorem State.onCache_mgmt (s : State) (c : CoreId) (f : Cache → Cache) : (s.onCache c f).mgmt = s.mgmt := rfl
@[simp] theorem State.onCache_host (s : State) (c : CoreId) (f : Cache → Cache) : (s.onCache c f).host = s.host := rfl
@[simp] theorem State.onCache_phase (s : State) (c : CoreId) (f : Cache → Cache) : (s.onCache c f).phase = s.phase := rfl
@[simp] theorem State.onCache_fuse (s : State) (c : CoreId) (f : Cache → Cache) : (s.onCache c f).fuse = s.fuse := rfl
@[simp] theorem State.onCache_cellar (s : State) (c : CoreId) (f : Cache → Cache) : (s.onCache c f).cellar = s.cellar := rfl
@[simp] theorem State.onCache_larder (s : State) (c : CoreId) (f : Cache → Cache) : (s.onCache c f).larder = { s.larder with caches := vmod s.larder.caches c f } := rfl
@[simp] theorem State.onCache_rooms (s : State) (c : CoreId) (f : Cache → Cache) : (s.onCache c f).rooms = s.rooms := rfl
@[simp] theorem State.onCache_storeys (s : State) (c : CoreId) (f : Cache → Cache) : (s.onCache c f).storeys = s.storeys := rfl
@[simp] theorem State.onCache_porchNewel (s : State) (c : CoreId) (f : Cache → Cache) : (s.onCache c f).porchNewel = s.porchNewel := rfl
@[simp] theorem State.onCache_foyerNewel (s : State) (c : CoreId) (f : Cache → Cache) : (s.onCache c f).foyerNewel = s.foyerNewel := rfl
@[simp] theorem State.onCache_fabric (s : State) (c : CoreId) (f : Cache → Cache) : (s.onCache c f).fabric = s.fabric := rfl
@[simp] theorem State.onCache_stair (s : State) (c : CoreId) (f : Cache → Cache) : (s.onCache c f).stair = s.stair := rfl
@[simp] theorem State.onCache_porch (s : State) (c : CoreId) (f : Cache → Cache) : (s.onCache c f).porch = s.porch := rfl
@[simp] theorem State.onCache_sys (s : State) (c : CoreId) (f : Cache → Cache) : (s.onCache c f).sys = s.sys := rfl
@[simp] theorem State.onCache_pending (s : State) (c : CoreId) (f : Cache → Cache) : (s.onCache c f).pending = s.pending := rfl
@[simp] theorem State.onCache_free (s : State) (c : CoreId) (f : Cache → Cache) : (s.onCache c f).free = s.free := rfl
@[simp] theorem State.onCache_out (s : State) (c : CoreId) (f : Cache → Cache) : (s.onCache c f).out = s.out := rfl

@[simp] theorem State.onHome_wings (s : State) (h : Fin 4) (f : Home → Home) : (s.onHome h f).wings = s.wings := rfl
@[simp] theorem State.onHome_wingTop (s : State) (h : Fin 4) (f : Home → Home) : (s.onHome h f).wingTop = s.wingTop := rfl
@[simp] theorem State.onHome_thr (s : State) (h : Fin 4) (f : Home → Home) : (s.onHome h f).thr = s.thr := rfl
@[simp] theorem State.onHome_mgmt (s : State) (h : Fin 4) (f : Home → Home) : (s.onHome h f).mgmt = s.mgmt := rfl
@[simp] theorem State.onHome_host (s : State) (h : Fin 4) (f : Home → Home) : (s.onHome h f).host = s.host := rfl
@[simp] theorem State.onHome_phase (s : State) (h : Fin 4) (f : Home → Home) : (s.onHome h f).phase = s.phase := rfl
@[simp] theorem State.onHome_fuse (s : State) (h : Fin 4) (f : Home → Home) : (s.onHome h f).fuse = s.fuse := rfl
@[simp] theorem State.onHome_cellar (s : State) (h : Fin 4) (f : Home → Home) : (s.onHome h f).cellar = s.cellar := rfl
@[simp] theorem State.onHome_larder (s : State) (h : Fin 4) (f : Home → Home) : (s.onHome h f).larder = { s.larder with homes := vmod s.larder.homes h f } := rfl
@[simp] theorem State.onHome_rooms (s : State) (h : Fin 4) (f : Home → Home) : (s.onHome h f).rooms = s.rooms := rfl
@[simp] theorem State.onHome_storeys (s : State) (h : Fin 4) (f : Home → Home) : (s.onHome h f).storeys = s.storeys := rfl
@[simp] theorem State.onHome_porchNewel (s : State) (h : Fin 4) (f : Home → Home) : (s.onHome h f).porchNewel = s.porchNewel := rfl
@[simp] theorem State.onHome_foyerNewel (s : State) (h : Fin 4) (f : Home → Home) : (s.onHome h f).foyerNewel = s.foyerNewel := rfl
@[simp] theorem State.onHome_fabric (s : State) (h : Fin 4) (f : Home → Home) : (s.onHome h f).fabric = s.fabric := rfl
@[simp] theorem State.onHome_stair (s : State) (h : Fin 4) (f : Home → Home) : (s.onHome h f).stair = s.stair := rfl
@[simp] theorem State.onHome_porch (s : State) (h : Fin 4) (f : Home → Home) : (s.onHome h f).porch = s.porch := rfl
@[simp] theorem State.onHome_sys (s : State) (h : Fin 4) (f : Home → Home) : (s.onHome h f).sys = s.sys := rfl
@[simp] theorem State.onHome_pending (s : State) (h : Fin 4) (f : Home → Home) : (s.onHome h f).pending = s.pending := rfl
@[simp] theorem State.onHome_free (s : State) (h : Fin 4) (f : Home → Home) : (s.onHome h f).free = s.free := rfl
@[simp] theorem State.onHome_out (s : State) (h : Fin 4) (f : Home → Home) : (s.onHome h f).out = s.out := rfl

@[simp] theorem State.send_wings (s : State) (o : Out) : (s.send o).wings = s.wings := rfl
@[simp] theorem State.send_wingTop (s : State) (o : Out) : (s.send o).wingTop = s.wingTop := rfl
@[simp] theorem State.send_thr (s : State) (o : Out) : (s.send o).thr = s.thr := rfl
@[simp] theorem State.send_mgmt (s : State) (o : Out) : (s.send o).mgmt = s.mgmt := rfl
@[simp] theorem State.send_host (s : State) (o : Out) : (s.send o).host = s.host := rfl
@[simp] theorem State.send_phase (s : State) (o : Out) : (s.send o).phase = s.phase := rfl
@[simp] theorem State.send_fuse (s : State) (o : Out) : (s.send o).fuse = s.fuse := rfl
@[simp] theorem State.send_cellar (s : State) (o : Out) : (s.send o).cellar = s.cellar := rfl
@[simp] theorem State.send_larder (s : State) (o : Out) : (s.send o).larder = s.larder := rfl
@[simp] theorem State.send_rooms (s : State) (o : Out) : (s.send o).rooms = s.rooms := rfl
@[simp] theorem State.send_storeys (s : State) (o : Out) : (s.send o).storeys = s.storeys := rfl
@[simp] theorem State.send_porchNewel (s : State) (o : Out) : (s.send o).porchNewel = s.porchNewel := rfl
@[simp] theorem State.send_foyerNewel (s : State) (o : Out) : (s.send o).foyerNewel = s.foyerNewel := rfl
@[simp] theorem State.send_fabric (s : State) (o : Out) : (s.send o).fabric = s.fabric := rfl
@[simp] theorem State.send_stair (s : State) (o : Out) : (s.send o).stair = s.stair := rfl
@[simp] theorem State.send_porch (s : State) (o : Out) : (s.send o).porch = s.porch := rfl
@[simp] theorem State.send_sys (s : State) (o : Out) : (s.send o).sys = s.sys := rfl
@[simp] theorem State.send_pending (s : State) (o : Out) : (s.send o).pending = s.pending := rfl
@[simp] theorem State.send_free (s : State) (o : Out) : (s.send o).free = s.free := rfl
@[simp] theorem State.send_out (s : State) (o : Out) : (s.send o).out = s.out ++ [o] := rfl

@[simp] theorem State.draw_wings (s : State) : s.draw.wings = s.wings := rfl
@[simp] theorem State.draw_wingTop (s : State) : s.draw.wingTop = s.wingTop := rfl
@[simp] theorem State.draw_thr (s : State) : s.draw.thr = s.thr := rfl
@[simp] theorem State.draw_mgmt (s : State) : s.draw.mgmt = s.mgmt := rfl
@[simp] theorem State.draw_host (s : State) : s.draw.host = s.host := rfl
@[simp] theorem State.draw_phase (s : State) : s.draw.phase = s.phase := rfl
@[simp] theorem State.draw_fuse (s : State) : s.draw.fuse = s.fuse := rfl
@[simp] theorem State.draw_cellar (s : State) : s.draw.cellar = s.cellar := rfl
@[simp] theorem State.draw_larder (s : State) : s.draw.larder = s.larder := rfl
@[simp] theorem State.draw_rooms (s : State) : s.draw.rooms = s.rooms := rfl
@[simp] theorem State.draw_storeys (s : State) : s.draw.storeys = s.storeys := rfl
@[simp] theorem State.draw_porchNewel (s : State) : s.draw.porchNewel = s.porchNewel := rfl
@[simp] theorem State.draw_foyerNewel (s : State) : s.draw.foyerNewel = s.foyerNewel := rfl
@[simp] theorem State.draw_fabric (s : State) : s.draw.fabric = s.fabric := rfl
@[simp] theorem State.draw_stair (s : State) : s.draw.stair = s.stair := rfl
@[simp] theorem State.draw_porch (s : State) : s.draw.porch = s.porch := rfl
@[simp] theorem State.draw_sys (s : State) : s.draw.sys = s.sys := rfl
@[simp] theorem State.draw_pending (s : State) : s.draw.pending = s.pending := rfl
@[simp] theorem State.draw_free (s : State) : s.draw.free = s.free + 1 := rfl
@[simp] theorem State.draw_out (s : State) : s.draw.out = s.out := rfl

end Sys2Proof.Machine
end

