-- ==== Sys2Proof/Laws/Memory.lean ====
section
/-!
SUPPORT. Laws/Memory.lean: memory operations keep the canonical form; reads after writes; accesses of the host that are ready.
-/
namespace Sys2Proof.Machine
open Sys2Proof

/-! ### Accesses of the host -/

/-- An access that is ready is performed. -/
theorem barGo_ready {s : State} {d : Nat} (h : s.barReady d) (c : BarAccess) (r : Res) : barGo s c d r = r := by
  obtain ⟨h1, h2, h3, h4, h5⟩ := h
  simp [barGo, barUp, h1, h2, h3, h4, h5]

theorem mbxRow_ready {s : State} (h : s.mbxReady) (c : BarAccess) (r : Res) : mbxRow s c r = r := by
  obtain ⟨h1, h2, h3, h4⟩ := h
  simp [mbxRow, mbxUp, h1, h2, h3, h4]

/-! ### Rising addresses -/

theorem cellsRising_cons (c : Host.Cell) (m : List Host.Cell) :
    cellsRising (c :: m) = true ↔ (∀ x ∈ m, c.1 < x.1) ∧ cellsRising m = true := by
  induction m generalizing c with
  | nil => simp [cellsRising]
  | cons d m ih =>
    have e : cellsRising (c :: d :: m) = (decide (c.1 < d.1) && cellsRising (d :: m)) := rfl
    rw [e, Bool.and_eq_true, decide_eq_true_eq]
    constructor
    · rintro ⟨h1, h2⟩
      refine ⟨?_, h2⟩
      intro x hx
      rcases List.mem_cons.mp hx with rfl | hx
      · exact h1
      · exact Nat.lt_trans h1 (((ih d).mp h2).1 x hx)
    · rintro ⟨h1, h2⟩
      exact ⟨h1 d List.mem_cons_self, h2⟩

/-- Below the first address of a rising memory nothing is listed. -/
theorem cellFind_below {m : List Host.Cell} {j : Nat} (h : ∀ x ∈ m, j < x.1) : cellFind m j = none := by
  cases m with
  | nil => rfl
  | cons c m =>
    have := h c List.mem_cons_self
    simp only [cellFind, beq_iff_eq]
    rw [if_neg (by omega), if_pos this]

theorem mem_cellPut {m : List Host.Cell} {a : Nat} {b : Byte} {x : Host.Cell} (h : x ∈ cellPut m a b) : x = (a, b) ∨ x ∈ m := by
  induction m with
  | nil => simpa [cellPut] using h
  | cons c m ih =>
    simp only [cellPut] at h
    split at h
    · rcases List.mem_cons.mp h with h | h
      · exact .inl h
      · exact .inr (List.mem_cons_of_mem _ h)
    · split at h
      · rcases List.mem_cons.mp h with h | h
        · exact .inl h
        · exact .inr h
      · rcases List.mem_cons.mp h with rfl | h
        · exact .inr List.mem_cons_self
        · rcases ih h with h | h
          · exact .inl h
          · exact .inr (List.mem_cons_of_mem _ h)

theorem mem_cellDrop {m : List Host.Cell} {a : Nat} {x : Host.Cell} (h : x ∈ cellDrop m a) : x ∈ m := by
  induction m with
  | nil => simp [cellDrop] at h
  | cons c m ih =>
    simp only [cellDrop] at h
    split at h
    · exact List.mem_cons_of_mem _ h
    · split at h
      · exact h
      · rcases List.mem_cons.mp h with rfl | h
        · exact List.mem_cons_self
        · exact List.mem_cons_of_mem _ (ih h)

theorem cellPut_rising {m : List Host.Cell} (h : cellsRising m = true) (a : Nat) (b : Byte) :
    cellsRising (cellPut m a b) = true := by
  induction m with
  | nil => rfl
  | cons c m ih =>
    obtain ⟨h1, h2⟩ := (cellsRising_cons c m).mp h
    simp only [cellPut, beq_iff_eq]
    split
    · rename_i e
      exact (cellsRising_cons _ _).mpr ⟨fun x hx => by have := h1 x hx; simpa [← e] using this, h2⟩
    · split
      · rename_i e
        refine (cellsRising_cons _ _).mpr ⟨fun x hx => ?_, h⟩
        rcases List.mem_cons.mp hx with rfl | hx
        · exact e
        · exact Nat.lt_trans e (h1 x hx)
      · refine (cellsRising_cons _ _).mpr ⟨fun x hx => ?_, ih h2⟩
        rcases mem_cellPut hx with rfl | hx
        · simp only; omega
        · exact h1 x hx

theorem cellDrop_rising {m : List Host.Cell} (h : cellsRising m = true) (a : Nat) : cellsRising (cellDrop m a) = true := by
  induction m with
  | nil => rfl
  | cons c m ih =>
    obtain ⟨h1, h2⟩ := (cellsRising_cons c m).mp h
    simp only [cellDrop]
    split
    · exact h2
    · split
      · exact h
      · exact (cellsRising_cons _ _).mpr ⟨fun x hx => h1 x (mem_cellDrop hx), ih h2⟩

theorem filter_rising {m : List Host.Cell} (h : cellsRising m = true) (p : Host.Cell → Bool) :
    cellsRising (m.filter p) = true := by
  induction m with
  | nil => rfl
  | cons c m ih =>
    obtain ⟨h1, h2⟩ := (cellsRising_cons c m).mp h
    simp only [List.filter]
    split
    · exact (cellsRising_cons _ _).mpr ⟨fun x hx => h1 x ((List.mem_filter.mp hx).1), ih h2⟩
    · exact ih h2

/-! ### Every memory operation keeps the canonical form -/

theorem wf_iff (m : List Host.Cell) : Memory.wf m = true ↔ cellsRising m = true ∧ ∀ c ∈ m, c.2 ≠ 0 := by
  simp [Memory.wf]

@[simp] theorem wf_nil : Memory.wf [] = true := rfl

theorem zput_wf {m : List Host.Cell} (h : Memory.wf m = true) (a : Nat) (b : Byte) : Memory.wf (zput m a b) = true := by
  obtain ⟨h1, h2⟩ := (wf_iff m).mp h
  unfold zput
  split
  · exact (wf_iff _).mpr ⟨cellDrop_rising h1 a, fun c hc => h2 c (mem_cellDrop hc)⟩
  · rename_i e
    refine (wf_iff _).mpr ⟨cellPut_rising h1 a b, fun c hc => ?_⟩
    rcases mem_cellPut hc with rfl | hc
    · simpa using e
    · exact h2 c hc

theorem zwrite_wf {m : List Host.Cell} (h : Memory.wf m = true) (a : Nat) (bs : List Byte) : Memory.wf (zwrite m a bs) = true := by
  induction bs generalizing m a with
  | nil => exact h
  | cons b bs ih => exact ih (zput_wf h a b) (a + 1)

theorem memOf_wf (bs : List Byte) : Memory.wf (memOf bs) = true := zwrite_wf wf_nil 0 bs

theorem cellClear_wf {m : List Host.Cell} (h : Memory.wf m = true) (a n : Nat) : Memory.wf (cellClear m a n) = true := by
  obtain ⟨h1, h2⟩ := (wf_iff m).mp h
  exact (wf_iff _).mpr ⟨filter_rising h1 _, fun c hc => h2 c ((List.mem_filter.mp hc).1)⟩

theorem cellClear_rising {m : List Host.Cell} (h : cellsRising m = true) (a n : Nat) : cellsRising (cellClear m a n) = true :=
  filter_rising h _

theorem cellsPut_rising {m : List Host.Cell} (h : cellsRising m = true) (a : Nat) (bs : List Byte) :
    cellsRising (cellsPut m a bs) = true := by
  induction bs generalizing m a with
  | nil => exact h
  | cons b bs ih => exact ih (cellPut_rising h a b) (a + 1)

/-- Reset lists nothing in any memory. -/
theorem reset_memWf : State.reset.memWf := by
  unfold State.memWf
  decide +kernel

/-! ### Reads after writes -/

theorem cellFind_cellPut (m : List Host.Cell) (a : Nat) (b : Byte) (j : Nat) :
    cellFind (cellPut m a b) j = if j = a then some b else cellFind m j := by
  have same : ∀ (m : List Host.Cell), cellFind ((a, b) :: m) a = some b := fun m => by simp [cellFind]
  have below : ∀ (m : List Host.Cell), j < a → cellFind ((a, b) :: m) j = none := fun m h => by
    simp only [cellFind, beq_iff_eq]; rw [if_neg (by omega), if_pos h]
  have above : ∀ (m : List Host.Cell), a < j → cellFind ((a, b) :: m) j = cellFind m j := fun m h => by
    simp only [cellFind, beq_iff_eq]; rw [if_neg (by omega), if_neg (by omega)]
  induction m with
  | nil =>
    rcases Nat.lt_trichotomy j a with h | h | h
    · rw [if_neg (by omega)]; exact below [] h
    · rw [if_pos h, h]; exact same []
    · rw [if_neg (by omega)]; exact above [] h
  | cons c m ih =>
    obtain ⟨k, v⟩ := c
    simp only [cellPut, beq_iff_eq]
    by_cases e : k = a
    · rw [if_pos e]
      subst e
      rcases Nat.lt_trichotomy j k with h | h | h
      · rw [if_neg (by omega), below m h]
        simp only [cellFind, beq_iff_eq]; rw [if_neg (by omega), if_pos h]
      · rw [if_pos h, h]; exact same m
      · rw [if_neg (by omega), above m h]
        simp only [cellFind, beq_iff_eq]; rw [if_neg (by omega), if_neg (by omega)]
    · rw [if_neg e]
      by_cases l : a < k
      · rw [if_pos l]
        rcases Nat.lt_trichotomy j a with h | h | h
        · rw [if_neg (by omega), below _ h]
          simp only [cellFind, beq_iff_eq]; rw [if_neg (by omega), if_pos (by omega)]
        · rw [if_pos h, h]; exact same _
        · rw [if_neg (by omega)]; exact above _ h
      · rw [if_neg l]
        simp only [cellFind, beq_iff_eq, ih]
        by_cases f : k = j
        · rw [if_pos f, if_neg (by omega), if_pos f]
        · rw [if_neg f, if_neg f]
          by_cases g : j < k
          · rw [if_pos g, if_neg (by omega), if_pos g]
          · rw [if_neg g, if_neg g]

theorem cellFind_cellDrop {m : List Host.Cell} (h : cellsRising m = true) (a j : Nat) :
    cellFind (cellDrop m a) j = if j = a then none else cellFind m j := by
  induction m with
  | nil => simp [cellDrop, cellFind]
  | cons c m ih =>
    obtain ⟨h1, h2⟩ := (cellsRising_cons c m).mp h
    obtain ⟨k, v⟩ := c
    simp only [cellDrop, beq_iff_eq]
    split
    · simp only [cellFind, beq_iff_eq]
      split
      · exact cellFind_below fun x hx => by have := h1 x hx; simp only at this; omega
      · rw [if_neg (by omega)]
        split
        · exact cellFind_below fun x hx => by have := h1 x hx; simp only at this; omega
        · rfl
    · split
      · split
        · refine cellFind_below fun x hx => ?_
          rcases List.mem_cons.mp hx with rfl | hx
          · simp only; omega
          · have := h1 x hx; simp only at this; omega
        · rfl
      · simp only [cellFind, beq_iff_eq, ih h2]
        split
        · rw [if_neg (by omega)]
        · split
          · rw [if_neg (by omega)]
          · rfl

theorem cellFind_cellsPut (m : List Host.Cell) (a : Nat) (bs : List Byte) (j : Nat) :
    cellFind (cellsPut m a bs) j = if a ≤ j ∧ j < a + bs.length then bs[j - a]? else cellFind m j := by
  induction bs generalizing m a with
  | nil => exact (if_neg (by simp only [List.length_nil]; omega)).symm
  | cons b bs ih =>
    simp only [cellsPut, ih, cellFind_cellPut, List.length_cons]
    rcases Nat.lt_trichotomy j a with h | h | h
    · rw [if_neg (by omega), if_neg (by omega), if_neg (by omega)]
    · subst h
      rw [if_neg (by omega), if_pos rfl, if_pos (by omega), Nat.sub_self]
      rfl
    · by_cases h' : j < a + 1 + bs.length
      · rw [if_pos (by omega), if_pos (by omega), show j - a = (j - (a + 1)) + 1 by omega]
        rfl
      · rw [if_neg (by omega), if_neg (by omega), if_neg (by omega)]

theorem zget_zput {m : List Host.Cell} (h : cellsRising m = true) (a : Nat) (b : Byte) (j : Nat) :
    zget (zput m a b) j = if j = a then b else zget m j := by
  unfold zget zput
  split
  · rename_i e
    rw [cellFind_cellDrop h]
    split
    · simpa using (beq_iff_eq.mp e).symm
    · rfl
  · rw [cellFind_cellPut]
    split <;> rfl

theorem zput_rising {m : List Host.Cell} (h : cellsRising m = true) (a : Nat) (b : Byte) : cellsRising (zput m a b) = true := by
  unfold zput
  split
  · exact cellDrop_rising h a
  · exact cellPut_rising h a b

/-- A byte read after a store is the stored one inside the stored bytes and the old one outside them. -/
theorem zget_zwrite {m : List Host.Cell} (h : cellsRising m = true) (a : Nat) (bs : List Byte) (j : Nat) :
    zget (zwrite m a bs) j = if a ≤ j ∧ j < a + bs.length then bs.getD (j - a) 0 else zget m j := by
  induction bs generalizing m a with
  | nil => exact (if_neg (by simp only [List.length_nil]; omega)).symm
  | cons b bs ih =>
    simp only [zwrite, ih (zput_rising h a b), zget_zput h, List.length_cons]
    rcases Nat.lt_trichotomy j a with h | h | h
    · rw [if_neg (by omega), if_neg (by omega), if_neg (by omega)]
    · subst h
      rw [if_neg (by omega), if_pos rfl, if_pos (by omega), Nat.sub_self]
      rfl
    · by_cases h' : j < a + 1 + bs.length
      · rw [if_pos (by omega), if_pos (by omega), show j - a = (j - (a + 1)) + 1 by omega]
        rfl
      · rw [if_neg (by omega), if_neg (by omega), if_neg (by omega)]

theorem zget_zwrite_outside {m : List Host.Cell} (h : Memory.wf m = true) (a : Nat) (bs : List Byte) {j : Nat}
    (hj : j < a ∨ a + bs.length ≤ j) : zget (zwrite m a bs) j = zget m j := by
  rw [zget_zwrite ((wf_iff m).mp h).1, if_neg (by omega)]

theorem zread_zwrite {m : List Host.Cell} (h : Memory.wf m = true) (a : Nat) (bs : List Byte) :
    zread (zwrite m a bs) a bs.length = bs := by
  refine List.ext_getElem (by simp [zread]) fun i h1 h2 => ?_
  simp only [zread, List.getElem_map, List.getElem_range]
  rw [zget_zwrite ((wf_iff m).mp h).1, if_pos (by omega), Nat.add_sub_cancel_left]
  simp [h2]

theorem cellFind_filter {m : List Host.Cell} (h : cellsRising m = true) (p : Nat → Bool) (j : Nat) :
    cellFind (m.filter fun c => p c.1) j = if p j = true then cellFind m j else none := by
  induction m with
  | nil => simp [cellFind]
  | cons c m ih =>
    obtain ⟨h1, h2⟩ := (cellsRising_cons c m).mp h
    obtain ⟨k, v⟩ := c
    have below : j < k → cellFind (m.filter fun c => p c.1) j = none := fun hj =>
      cellFind_below fun x hx => by have := h1 x ((List.mem_filter.mp hx).1); simp only at this; omega
    by_cases hk : p k = true
    · rw [List.filter_cons_of_pos (by simpa using hk)]
      simp only [cellFind, beq_iff_eq, ih h2]
      by_cases e : k = j
      · subst e; simp [hk]
      · simp only [if_neg e]
        split <;> split <;> rfl
    · rw [List.filter_cons_of_neg (by simpa using hk), ih h2]
      simp only [cellFind, beq_iff_eq]
      by_cases e : k = j
      · subst e; simp [hk]
      · rw [if_neg e]
        by_cases l : j < k
        · rw [if_pos l, ← ih h2, below l]; simp
        · rw [if_neg l]

/-- A cleared range reads 0, the rest as before. -/
theorem zget_cellClear {m : List Host.Cell} (h : cellsRising m = true) (a n j : Nat) :
    zget (cellClear m a n) j = if a ≤ j ∧ j < a + n then 0 else zget m j := by
  unfold zget cellClear
  rw [cellFind_filter h fun k => decide (k < a) || decide (a + n ≤ k)]
  by_cases e : a ≤ j ∧ j < a + n
  · rw [if_pos e, if_neg (by simp; omega)]; rfl
  · rw [if_neg e, if_pos (by simp; omega)]

end Sys2Proof.Machine
end

