-- ==== Sys2Proof/Laws/Newel.lean ====
section
/-!
SUPPORT. Laws/Newel.lean: a Newel changed, its registers read and written, and a row whose instruction is at the PC.
-/
namespace Sys2Proof.Machine
open Sys2Proof

theorem vset_vset {α : Type} {n : Nat} (v : Vector α n) (i : Fin n) (x y : α) : vset (vset v i x) i y = vset v i y := by
  unfold vset; exact Vector.set_set ..

theorem vmod_vmod {α : Type} {n : Nat} (v : Vector α n) (i : Fin n) (f g : α → α) :
    vmod (vmod v i f) i g = vmod v i fun x => g (f x) := by
  simp only [vmod, get_vset_same, vset_vset]

/-- Two changes of one core's Newel are one. -/
theorem onCore_onCore (s : State) (c : CoreId) (f g : Newel → Newel) :
    onCore (onCore s c f) c g = onCore s c fun n => g (f n) := by
  unfold onCore
  split
  · simp only [State.onRoom, vmod_vmod]
  · split <;> rfl

@[simp] theorem coreNewel_onCore (s : State) (c : CoreId) (f : Newel → Newel) :
    coreNewel (onCore s c f) c = f (coreNewel s c) := by
  unfold coreNewel onCore
  split
  · simp
  · split <;> simp_all

/-- Changes that agree on the core's Newel agree. -/
theorem onCore_congr (s : State) (c : CoreId) {f g : Newel → Newel} (h : f (coreNewel s c) = g (coreNewel s c)) :
    onCore s c f = onCore s c g := by
  unfold coreNewel at h
  unfold onCore
  split
  · rename_i r hr
    simp only [hr] at h
    simp only [State.onRoom, vmod]
    simp only [State.room] at h
    rw [h]
  · rename_i hr
    simp only [hr] at h
    split
    · rename_i h32; simp only [h32, if_true] at h; rw [h]
    · rename_i h32; simp only [h32, if_false] at h; rw [h]

/-- A row whose instruction is at the PC does what that instruction does. -/
theorem newelRow_atWord {s : State} {c : CoreId} {k : NOp} {w : W32} (h : s.atWord c k w) :
    newelRow k c s = .next (settle s c (newelDo k (fetched s c) c w)) := by
  obtain ⟨h1, h2, h3, h4, h5⟩ := h
  unfold newelRow nextDid
  cases hb : filledBuf s c with
  | nil => simp [hb] at h2
  | cons x xs =>
    simp [hb] at h2
    subst h2
    simp [h1, h3, h4]

/-- An instruction that retires with a change of the Newel, where no interrupt is due. -/
theorem settle_retired {s : State} {c : CoreId} (h : irqDue s c = none) (f : Newel → Newel)
    (hf : ∀ (n : Newel) b, f { n with fetchBuf := b } = { f n with fetchBuf := b } ∧ (f n).pc = n.pc ∧ (f n).retired = n.retired) :
    settle s c (retired (fetched s c) c f) = s.retires c f := by
  simp only [settle, retired, h, fetched, onCore_onCore, State.retires, Option.isSome_none, Bool.false_eq_true, if_false]
  apply onCore_congr
  have h1 := (hf (coreNewel s c) (filledBuf s c)).1
  have h2 := hf (coreNewel s c) (filledBuf s c)
  simp only [retire, h1]
  simp [h2]

/-- Reading a register of a Newel whose fetch buffer alone changed. -/
@[simp] theorem regGet_fetchBuf (n : Newel) (b : List W32) (k : BitVec 5) : regGet { n with fetchBuf := b } k = regGet n k := rfl

@[simp] theorem coreNewel_fetched (s : State) (c : CoreId) :
    coreNewel (fetched s c) c = { coreNewel s c with fetchBuf := filledBuf s c } := by
  simp [fetched]

/-- Writing a register leaves the PC, the count and the rest of the Newel as they are. -/
theorem regSet_frame (n : Newel) (k : BitVec 5) (v : W32) (b : List W32) :
    regSet { n with fetchBuf := b } k v = { regSet n k v with fetchBuf := b } ∧ (regSet n k v).pc = n.pc ∧
      (regSet n k v).retired = n.retired := by
  have hn : regName { n with fetchBuf := b } k = regName n k := rfl
  unfold regSet
  rw [hn]
  cases regName n k <;> simp [nameSet]

end Sys2Proof.Machine
end

