-- ==== Sys2Proof/Laws/Rows.lean ====
section
/-!
SUPPORT. Laws/Rows.lean: what the shared row operations of the Porch, the Parlour and the streams do with a command that is
next.
-/
namespace Sys2Proof.Machine
open Sys2Proof

/-- The engine takes the list that is next. -/
theorem engineTake_next {s : State} {e : EngineBy} (h : s.engineNext e) : engineTake s = some (e, s.engineHolds e) := by
  unfold engineTake State.engineHolds
  rcases h with h | ⟨h, h1⟩
  · simp [h]
  · cases hq : s.porch.queue with
    | nil => simp [hq] at h1
    | cons a q => simp only [hq, List.head?_cons, Option.some.injEq] at h1; subst h1; simp [h, State.onPorch, hq]

/-- A request that the Porch takes is answered with what its row makes of it. -/
theorem requestRow_asks {s : State} {w : WingId} {t : Nat} (h : s.porchAsks w t) (ht : 1 ≤ t ∧ t ≤ 10)
    (f : WingId → List Byte → State → Cond × W32 × State) :
    requestRow t f s = .next (answerPorch (f w (porchRequest s w) s).2.2 w (f w (porchRequest s w) s).1
      (f w (porchRequest s w) s).2.1) := by
  obtain ⟨h1, h2, h3, h4, h5⟩ := h
  unfold requestRow
  cases ha : s.porch.arrivals with
  | nil => simp [ha] at h1
  | cons a l =>
    simp only [ha, List.head?_cons, Option.some.injEq] at h1
    subst h1
    simp only [h2]
    rw [if_neg (by omega), if_neg (by simp), if_neg, if_neg]
    · simp only [Bool.or_eq_true, Bool.not_eq_true', Bool.or_eq_false_iff, beq_iff_eq]
      rintro (⟨h, h'⟩ | h)
      · rcases h4 with h4 | h4
        · simp [h4] at h
        · simp [h4] at h'
      · exact h5 h
    · rintro ⟨h, h'⟩
      rcases h3 with h3 | h3
      · exact h h3
      · simp [h3] at h'

/-- A native command that is next and no command fault is performed by its row. -/
theorem nativeRow_at {s : State} {k : Fin 16} {c : NCmd} (h : s.engineAt k c) (ok : c.ok = true) (op : Nat) (hop : c.op = op)
    (f : NCmd → Fin 16 → State → State) : nativeRow op f s = .next (f c k (s.engineHolds (.stream k))) := by
  obtain ⟨h1, h2, h3, h4, h5, h6⟩ := h
  have same : (s.engineHolds (.stream k)).porch.streams = s.porch.streams ∧
      (s.engineHolds (.stream k)).porch.sram = s.porch.sram ∧ (s.engineHolds (.stream k)).porch.pages = s.porch.pages := by
    unfold State.engineHolds; split <;> exact ⟨rfl, rfl, rfl⟩
  have pages : ∀ w o n, holdsPages (s.engineHolds (.stream k)) w o n = holdsPages s w o n := by
    intro w o n; simp only [holdsPages, holdsPage, same]
  unfold nativeRow
  simp only [engineTake_next h1, same, pages, h2, h3, h4, h5, h6]
  simp [ok, hop]

/-- A Parlour command that is next is performed by its row. -/
theorem parRow_at {s : State} {g : ParFetch} (h : s.parlourAt g) (op : Nat) (hop : g.op = op)
    (f : ParFetch → Parlour → State → State) :
    parRow op f s = .next (f g s.porch.parlour (s.engineHolds .parlour)) := by
  obtain ⟨h1, h2, h3, h4, h5, h6, h7, h8⟩ := h
  have same : (s.engineHolds .parlour).porch.parlour = s.porch.parlour := by
    unfold State.engineHolds; split <;> rfl
  unfold parRow
  simp only [engineTake_next h1, same, h2, h3, h4, hop] at *
  rw [if_neg (by simp), if_neg (by omega), if_neg (by omega), if_neg (by simp), if_neg (by omega), if_neg (by simp [h8])]

/-- The command of an A-stream that is next is performed by its row. -/
theorem aRow_atCommand {s : State} {r : RoomId} {op w : Nat} (h : s.atCommand r op w)
    (act : ACmd → Nat → State → Got (Option Nat)) :
    aRow r op act s = strmResult r .a (act (aDecode w) ((s.room r).astream.strm.pc + 8) s) := by
  obtain ⟨h1, h2, h3, h4, h5, h6, h7, h8⟩ := h
  unfold aRow
  have h7' : ¬ ((s.room r).astream.issued = 0 ∧ strmHalts s r (aDecode w).tag (s.room r).astream.strm = true) := by
    rintro ⟨a, b⟩; simp [h7 a] at b
  simp only [h1, h4, h5, h6, h7', h8]
  simp [h2]; omega

end Sys2Proof.Machine
end

