-- ==== Sys2Proof/WellFormed.lean ====
section
/-!
DEFINITION. WellFormed.lean: the operands that a command of the outside can have. The types of `Instr` hold most bounds; the
rest stand here.
-/
namespace Sys2Proof

/-- A packet that a frame announces: at most 128 data flits of 32 bytes (R470, R471). -/
def packetWf (h : FrameHead) : Bool := decide (h.pkt.data.length ≤ 4096) && decide (h.start < 32)

/-- A command's operands are within the bounds that the spec gives them: BAR0 offsets below 16 MiB (R147), CAN FD payloads of at
most 64 bytes (R108), mailbox lengths of 11 bits (R123), completions of at most 4 KiB, Hatch windows of 32 KiB with a byte enable
for each byte (R170), the 2^30 lines of the Larder (R34), blocks of a stack
(R239), metering of 32 Rooms and 16 wings (R200), frames of 32 data flits and two headers (R434, R469), and CSI lines of a 16-bit word count
(R506). -/
def Instr.wf : Instr → Bool
  | .registerWrite off bs => decide (off < 2 ^ 24) && decide (1 ≤ bs.length)
  | .wingCreate => true
  | .wingDestroy => true
  | .clearingZeroingDone .. => true
  | .controlRun => true
  | .controlFreeze => true
  | .controlThaw => true
  | .wingFrozen .. => true
  | .houseFloorWrite => true
  | .deviceCapWrite => true
  | .socketBudgetWrite => true
  | .norWriteDone => true
  | .keyInstall => true
  | .keyRemove => true
  | .provision => true
  | .fwImage => true
  | .fwNorUpdateDone => true
  | .debugUnlock => true
  | .debugLock => true
  | .alarmReset => true
  | .levelMap => true
  | .supplyAlarm => true
  | .clockAlarm => true
  | .tempAlarm => true
  | .lidAlarm => true
  | .tapInstruction .. => true
  | .eraseEpochProgrammed => true
  | .keyFileErased => true
  | .eraseScrubDone => true
  | .porchSramZeroed => true
  | .canFrame f => decide (f.payload.length ≤ 64)
  | .mbxGo _ _ _ len _ _ => decide (len < 2 ^ 11)
  | .mbxCancel .. => true
  | .mbxNext .. => true
  | .segTimeout .. => true
  | .mladyxRead => true
  | .mladyxWrite => true
  | .mladyxAnswerSent => true
  | .alertQueueSend => true
  | .canBusOffRecovery => true
  | .disturbLimitWrite => true
  | .configRequest .. => true
  | .functionLevelReset => true
  | .ringEnable .. => true
  | .ringEnableDone .. => true
  | .ringDisable .. => true
  | .sqDoorbell .. => true
  | .descriptorCopy .. => true
  | .completionSlotReserve .. => true
  | .cqHeadWrite .. => true
  | .jobNop .. => true
  | .jobProgramLoad .. => true
  | .programLoadDone .. => true
  | .jobRun .. => true
  | .jobHatchCopy .. => true
  | .hatchCopyDone .. => true
  | .msixHoldoffExpiry .. => true
  | .pcieCompletion _ _ data _ => decide (data.length ≤ 4096)
  | .pcieCompletionTimeout .. => true
  | .jobImageLoad .. => true
  | .imageLoadDone .. => true
  | .jobImageCommit .. => true
  | .jobImageErase .. => true
  | .jobCollective .. => true
  | .hatchWindowWrite _ off bs be => decide (off < 2 ^ 15) && be.length == bs.length
  | .hatchWindowRead _ off n => decide (off < 2 ^ 15) && decide (1 ≤ n)
  | .hatchPortWrite _ bs _ => decide (1 ≤ bs.length)
  | .hatchPortRead _ n => decide (1 ≤ n)
  | .hatchAddrWrite .. => true
  | .hatchFlush .. => true
  | .hatchReadaheadFill .. => true
  | .phaseTick => true
  | .halfCycleBoundary => true
  | .mainsEdge dt => decide (1 ≤ dt)
  | .mainsEdgeMissing => true
  | .unlockedDecision => true
  | .holdoverExpiry => true
  | .unlockedAccountClose => true
  | .beacon .. => true
  | .beaconMissing => true
  | .phCmpClaim .. => true
  | .phCmpRelease .. => true
  | .phCmpArm .. => true
  | .phCmpDisarm .. => true
  | .phCmpTimeWrite .. => true
  | .phCmpRecWrite .. => true
  | .phNowLowRead => true
  | .fuseReport => true
  | .reportDeadline => true
  | .fuseGrant => true
  | .grantDeadline => true
  | .pmbusTransactionDone .. => true
  | .stretchStep e0 => e0.rooms.length == 32 && decide (e0.shared.length ≤ 16) && e0.shared.all fun u => u.2.length == 16
  | .cellarSlot .. => true
  | .pageReadDone .. => true
  | .reconstructionDone .. => true
  | .pageProgramDone _ b pos _ => decide (b < 1472) && decide (pos < 2 ^ 16)
  | .rateUpdate => true
  | .imageCommitEntry => true
  | .imageEraseEntry => true
  | .relocationStart .. => true
  | .mapSnapshotDone .. => true
  | .blockEraseStart _ b => decide (b < 1472)
  | .blockEraseDone _ b _ => decide (b < 1472)
  | .scrubPassStart .. => true
  | .scrubNow .. => true
  | .dieCommandTimeout .. => true
  | .larderRequestSlot .. => true
  | .gets line => decide (line < 2 ^ 30)
  | .getx line => decide (line < 2 ^ 30)
  | .upg line => decide (line < 2 ^ 30)
  | .atom line => decide (line < 2 ^ 30)
  | .ncRd line => decide (line < 2 ^ 30)
  | .ncWr line => decide (line < 2 ^ 30)
  | .fwdGets _ line => decide (line < 2 ^ 30)
  | .fwdGetx _ line => decide (line < 2 ^ 30)
  | .inv _ line => decide (line < 2 ^ 30)
  | .binv _ line => decide (line < 2 ^ 30)
  | .ack _ line => decide (line < 2 ^ 30)
  | .wbPending _ line => decide (line < 2 ^ 30)
  | .dat _ line => decide (line < 2 ^ 30)
  | .wb _ line => decide (line < 2 ^ 30)
  | .cmp _ line => decide (line < 2 ^ 30)
  | .wbAck _ line => decide (line < 2 ^ 30)
  | .ncAck _ line => decide (line < 2 ^ 30)
  | .atomDone _ line => decide (line < 2 ^ 30)
  | .datS _ line => decide (line < 2 ^ 30)
  | .datE _ line => decide (line < 2 ^ 30)
  | .datM _ line => decide (line < 2 ^ 30)
  | .datNc _ line => decide (line < 2 ^ 30)
  | .larderAccessDone line _ => decide (line < 2 ^ 30)
  | .farAtomicIdle line => decide (line < 2 ^ 30)
  | .regionEntryWrite .. => true
  | .storeBufferDrain .. => true
  | .pantryRangeClaim .. => true
  | .pantryRangeRelease .. => true
  | .roomTaskWrite .. => true
  | .hqConfigWrite .. => true
  | .linkMoveStart .. => true
  | .linkMoveDone .. => true
  | .waitLimitExpiry .. => true
  | .stallWatchFire .. => true
  | .storeyWatchFire .. => true
  | .roomIdle .. => true
  | .roomGangWrite .. => true
  | .pantryPeek .. => true
  | .pantryForce .. => true
  | .add .. => true
  | .sub .. => true
  | .and .. => true
  | .or .. => true
  | .xor .. => true
  | .sll .. => true
  | .srl .. => true
  | .sra .. => true
  | .slt .. => true
  | .sltu .. => true
  | .mul .. => true
  | .mulh .. => true
  | .mulhu .. => true
  | .div .. => true
  | .divu .. => true
  | .rem .. => true
  | .remu .. => true
  | .addi .. => true
  | .andi .. => true
  | .ori .. => true
  | .xori .. => true
  | .slli .. => true
  | .srli .. => true
  | .srai .. => true
  | .slti .. => true
  | .sltiu .. => true
  | .lui .. => true
  | .ldw .. => true
  | .ldh .. => true
  | .ldhu .. => true
  | .ldb .. => true
  | .ldbu .. => true
  | .stw .. => true
  | .sth .. => true
  | .stb .. => true
  | .ldfk .. => true
  | .ldfd .. => true
  | .stf .. => true
  | .atomAdd .. => true
  | .atomSwap .. => true
  | .atomCas .. => true
  | .atomMinSigned .. => true
  | .atomMaxSigned .. => true
  | .atomMinUnsigned .. => true
  | .atomMaxUnsigned .. => true
  | .beq .. => true
  | .bne .. => true
  | .blt .. => true
  | .bge .. => true
  | .bltu .. => true
  | .bgeu .. => true
  | .jmp .. => true
  | .call .. => true
  | .jmpr .. => true
  | .callr .. => true
  | .ret .. => true
  | .leave .. => true
  | .enter .. => true
  | .rett .. => true
  | .newelEnd .. => true
  | .wfi .. => true
  | .trap .. => true
  | .brk .. => true
  | .fence .. => true
  | .fenceR .. => true
  | .ifence .. => true
  | .spill .. => true
  | .fill .. => true
  | .stra .. => true
  | .strx .. => true
  | .sjoin .. => true
  | .rds .. => true
  | .wrs .. => true
  | .pusha .. => true
  | .pmov .. => true
  | .popn .. => true
  | .newelInterrupt .. => true
  | .nwlDbgResume .. => true
  | .asNop .. => true
  | .ldt .. => true
  | .stt .. => true
  | .ldtLineDone .. => true
  | .sttLineDone .. => true
  | .popa .. => true
  | .adda .. => true
  | .qpush .. => true
  | .qpop .. => true
  | .asGload .. => true
  | .asLoop .. => true
  | .asSkip .. => true
  | .asPset .. => true
  | .asPpop .. => true
  | .asPloop .. => true
  | .bind .. => true
  | .unbind .. => true
  | .asHrecv .. => true
  | .asHsend .. => true
  | .asWaitph .. => true
  | .asSync .. => true
  | .asEnd .. => true
  | .waitphDone .. => true
  | .syncRendezvous .. => true
  | .xsLoop .. => true
  | .xsSkip .. => true
  | .xsPset .. => true
  | .xsPpop .. => true
  | .xsPloop .. => true
  | .xsGload .. => true
  | .xsHrecv .. => true
  | .xsHsend .. => true
  | .xsWaitph .. => true
  | .xsSync .. => true
  | .xsEnd .. => true
  | .copy .. => true
  | .fillc .. => true
  | .mma .. => true
  | .mmat .. => true
  | .conv .. => true
  | .seth .. => true
  | .hearthOpDone .. => true
  | .sculleryAdd .. => true
  | .scullerySub .. => true
  | .sculleryMul .. => true
  | .max .. => true
  | .min .. => true
  | .mulg .. => true
  | .rope .. => true
  | .exp .. => true
  | .silu .. => true
  | .gelu .. => true
  | .tanh .. => true
  | .swiglu .. => true
  | .cvtI8 .. => true
  | .cvtE4m3 .. => true
  | .cvtE5m2 .. => true
  | .cvtBf16 .. => true
  | .cvtF32 .. => true
  | .cvtI32 .. => true
  | .rmax .. => true
  | .rsum .. => true
  | .rssq .. => true
  | .rdot .. => true
  | .sld .. => true
  | .sst .. => true
  | .rsqf .. => true
  | .rcpf .. => true
  | .tkclr .. => true
  | .topk .. => true
  | .tkout .. => true
  | .tkmrg .. => true
  | .sample .. => true
  | .dwconv .. => true
  | .sculleryOpDone .. => true
  | .streamDebugResume .. => true
  | .dwFrameSend .. => true
  | .dwFrameReceived _ f _ _ _ => decide (f.flits ≤ 32) && decide (f.heads.length ≤ 2) && f.heads.all packetWf
  | .lockSearchStart .. => true
  | .dwSignalDetect .. => true
  | .trainingStageDone .. => true
  | .trainingStageTimeout .. => true
  | .dwDownRetry .. => true
  | .replayTimeout .. => true
  | .dwEcho .. => true
  | .dwFabCtrlEn .. => true
  | .mladyx => true
  | .censusQuery => true
  | .censusAnswer => true
  | .censusResult => true
  | .censusComplete => true
  | .censusNow => true
  | .rdReq => true
  | .wrReq => true
  | .atomReq => true
  | .pageReq => true
  | .creditDraw => true
  | .rdRsp => true
  | .wrAck => true
  | .atomRsp => true
  | .pageData => true
  | .creditGrant => true
  | .refuse => true
  | .move => true
  | .reqTimeout .. => true
  | .dwVcClaim .. => true
  | .dwVcRelease .. => true
  | .dwRouteWrite .. => true
  | .stwGroupWrite .. => true
  | .collGrant => true
  | .collDataChunk => true
  | .collCredit => true
  | .collAbort => true
  | .stwCtxAbort .. => true
  | .collTimeout .. => true
  | .abortHoldExpiry .. => true
  | .abortRecordExpiry => true
  | .collChunkSend .. => true
  | .segmentHandlePop .. => true
  | .claimStream => true
  | .releaseStream => true
  | .start => true
  | .stop => true
  | .claimPages => true
  | .releasePages => true
  | .pageZeroed .. => true
  | .claimParlour => true
  | .releaseParlour => true
  | .parlourRun => true
  | .parlourStop => true
  | .csiBurstStart .. => true
  | .frameStart .. => true
  | .csiLine _ bs _ => decide (bs.length < 2 ^ 16)
  | .frameEnd .. => true
  | .tdmFs _ slots => decide (slots.length ≤ 16)
  | .sensorPeriod .. => true
  | .sensorTransactionDone .. => true
  | .porchConv => true
  | .fc => true
  | .pool => true
  | .porchAdd => true
  | .mel => true
  | .waitsrc => true
  | .waitsrcDone .. => true
  | .porchCopy => true
  | .result => true
  | .porchJmp => true
  | .porchWaitph => true
  | .porchWaitphDone .. => true
  | .porchEnd => true
  | .frameTimeout .. => true
  | .parlourNop => true
  | .parlourConv => true
  | .parlourFc => true
  | .parlourPool => true
  | .parlourResult => true
  | .wait => true
  | .parlourWaitDone => true
  | .wrw => true
  | .parlourJmp => true
  | .parlourLoop => true
  | .input => true
  | .inputDone => true
  | .parlourEnd => true
  | .porchParResultRead .. => true
  | .resHeadWrite .. => true
  | .voutCommandDone .. => true
  | .settleExpiry .. => true
  | .pllLockDetect .. => true
  | .lockHoldExpiry .. => true
  | .relockTimeout .. => true
  | .storeyGate .. => true
  | .foyDomHold .. => true
  | .foyRoomHold .. => true
  | .foyRoomInval .. => true
  | .roomInvalDone .. => true
  | .powerOnReset => true
  | .porEnd => true
  | .sysResetN .. => true
  | .perstN .. => true
  | .watchdogExpiry => true
  | .refClkLoss .. => true
  | .trstN => true
  | .holdupMonitor => true
  | .deviceResetRelease => true
  | .slotVerifyDone .. => true
  | .larderTrainingDone .. => true
  | .larderZeroingDone => true
  | .cellarRecoveryDone .. => true
  | .stackTimeout .. => true
  | .hostReady => true
  | .fabricTimeout => true
  | .alarmSourceCleared .. => true
  | .engineCommandDone => true
  | .roomZeroingDone .. => true
  | .emptyLongWord .. => true
  | .markerAbsent .. => true

end Sys2Proof
end

