-- ==== Sys2Proof/Tests/Slice0.lean ====
section
/-!
SUPPORT. Tests/Slice0.lean: an ill-formed command for each check of WellFormed; instruction words of the Newel written out
from the spec's formats; and for every statement of Certificates/Slice0 states that meet its hypotheses.
-/
namespace Sys2Proof.Tests
open Sys2Proof Sys2Proof.Machine

set_option Elab.async false

/-! ### Ill-formed commands are refused by the check -/

theorem test_wf_registers : (Instr.registerWrite 0x1000000 [0]).wf = false ∧ (Instr.registerWrite 0 []).wf = false := by decide

theorem test_wf_management : (Instr.canFrame ⟨true, 0, List.replicate 65 0⟩).wf = false ∧
    (Instr.mbxGo 0 0 0 0x800 true true).wf = false := by decide

theorem test_wf_host : (Instr.pcieCompletion 0 0 (List.replicate 4097 0) true).wf = false ∧
    (Instr.hatchWindowWrite 0 0x8000 [0] [true]).wf = false ∧ (Instr.hatchWindowWrite 0 0 [0] []).wf = false ∧
    (Instr.hatchWindowRead 0 0x8000 1).wf = false ∧ (Instr.hatchWindowRead 0 0 0).wf = false ∧
    (Instr.hatchPortWrite 0 [] true).wf = false ∧ (Instr.hatchPortRead 0 0).wf = false := by decide +kernel

theorem test_wf_phase : (Instr.mainsEdge 0).wf = false ∧ (Instr.stretchStep ⟨[0], [], 0⟩).wf = false ∧
    (Instr.stretchStep ⟨List.replicate 32 0, List.replicate 17 (0, List.replicate 16 0), 0⟩).wf = false ∧
    (Instr.stretchStep ⟨List.replicate 32 0, [(0, [0])], 0⟩).wf = false := by decide +kernel

theorem test_wf_cellar : (Instr.pageProgramDone 0 1472 0 true).wf = false ∧ (Instr.pageProgramDone 0 0 65536 true).wf = false ∧
    (Instr.blockEraseStart 0 1472).wf = false ∧ (Instr.blockEraseDone 0 1472 true).wf = false := by decide

theorem test_wf_lines : (([Instr.gets, Instr.getx, Instr.upg, Instr.atom, Instr.ncRd, Instr.ncWr] : List (Nat → Instr)).all
      fun i => !(i (2 ^ 30)).wf) = true ∧
    (([Instr.fwdGets, Instr.fwdGetx, Instr.inv, Instr.binv, Instr.ack, Instr.wbPending, Instr.dat, Instr.wb, Instr.cmp, Instr.wbAck,
      Instr.datS, Instr.datE, Instr.datM] : List (CoreId → Nat → Instr)).all fun i => !(i 0 (2 ^ 30)).wf) = true ∧
    (([Instr.ncAck, Instr.atomDone, Instr.datNc] : List (Agent → Nat → Instr)).all fun i => !(i (.cache 0) (2 ^ 30)).wf) = true ∧
    (Instr.larderAccessDone (2 ^ 30) 0).wf = false ∧ (Instr.farAtomicIdle (2 ^ 30)).wf = false := by decide +kernel

/-- A training frame with `n` headers and `m` data flits. -/
def frameOf (h : List FrameHead) (m : Nat) : Frame :=
  { fseq := 0, locked := true, nak := false, ackSeq := 0, echo := 0, echoT := 0, train := true, owner := 0, creditA := ⟨0, 0, 0⟩,
    creditB := ⟨0, 0, 0⟩, heads := h, flits := m, exch := none }

/-- A header of a packet with `n` bytes that starts at flit `k`. -/
def headOf (n k : Nat) : FrameHead := ⟨Packet.mgmt .mladyx 0 0 (List.replicate n 0), 0, k, false⟩

theorem test_wf_frames : (Instr.dwFrameReceived 0 (frameOf [] 33) true true 0).wf = false ∧
    (Instr.dwFrameReceived 0 (frameOf (List.replicate 3 (headOf 0 0)) 0) true true 0).wf = false ∧
    (Instr.dwFrameReceived 0 (frameOf [headOf 4097 0] 0) true true 0).wf = false ∧
    (Instr.dwFrameReceived 0 (frameOf [headOf 0 32] 0) true true 0).wf = false := by decide +kernel

theorem test_wf_capture : (Instr.csiLine 0 (List.replicate 65536 0) true).wf = false := by
  simp only [Instr.wf, List.length_replicate]
  decide

theorem test_wf_samples : (Instr.tdmFs 0 (List.replicate 17 0)).wf = false := by decide

/-! ### Instruction words of the Newel, from the formats of R356, R357 and R359

ADDI v0, c0, 16; ADD v0, v0, v3; ADDI v2, v2, -1; BNE v2, z0, -12 bytes; PUSHA v0, v1, token 0x11; SPILL; FILL; an
ATOM v1, v0, v3 ADD far. -/

theorem test_words_arithmetic : newelDecode 0x05D80010 = some .addi ∧ nRd 0x05D80010 = 14 ∧ nRs1 0x05D80010 = 24 ∧
    nImm 0x05D80010 = 16 ∧ newelDecode 0x01CE8800 = some .add ∧ nRd 0x01CE8800 = 14 ∧ nRs1 0x01CE8800 = 14 ∧
    nRs2 0x01CE8800 = 17 := by decide +kernel

theorem test_words_branch : newelDecode 0x8600FFFD = some .bne ∧ nRd 0x8600FFFD = 16 ∧ nRs1 0x8600FFFD = 0 ∧
    (nImm 0x8600FFFD).toInt = -3 := by decide +kernel

theorem test_words_system : newelDecode 0xC000000B = some .spill ∧ newelDecode 0xC000000C = some .fill ∧
    newelDecode 0xC0000013 = none := by decide +kernel

theorem test_words_queue : newelDecode 0xD00E7888 = some .pusha ∧ nRs1 0xD00E7888 = 14 ∧ nRs2 0xD00E7888 = 15 ∧
    nToken 0xD00E7888 = 0x11 := by decide +kernel

theorem test_words_atomic : newelDecode 0x71EE8820 = some .atomAdd ∧ nRd 0x71EE8820 = 15 ∧ nRs1 0x71EE8820 = 14 ∧
    nRs2 0x71EE8820 = 17 ∧ nPlace 0x71EE8820 = 2 := by decide +kernel

/-! ### States that meet the hypotheses of the statements -/

/-- A device past its start: stage 10, every clock domain up, every key slot filled, host interface ready. -/
def hostUp : State :=
  { State.reset with host := { HostIf.init with ready := true },
                     thr := { Threshold.init with slots := Vector.replicate 64 (some 0) },
                     sys := { System.init with bootStage := 10, clkRunning := 0x1FFFF, resetHeld := 0 } }

/-! SealedWritesThatActAtOnce -/

/-- A write in turn at the server of `hostUp`. -/
def req (obj : W16) (mem : Byte) (v : List Byte) : Request :=
  { who := .mailbox 0 0, seq := 0, pri := 0, act := 0, write := true, sealed := none, obj := obj, mem := mem, value := v, irq := false }

def turn (r : Request) : State := hostUp.onMgmt fun m => { m with ready := [(r, 0)] }

theorem witness_SealedWrites : serverUp (turn (req 0x2000 3 (List.replicate 64 0))) = true ∧
    (turn (req 0x2000 3 (List.replicate 64 0))).mgmt.norPending = none ∧
    (turn (req 0x2000 3 (List.replicate 64 0))).mgmt.ready.head? = some (req 0x2000 3 (List.replicate 64 0), 0) ∧
    rowOf (req 0x2000 3 (List.replicate 64 0)) = .create ∧ rowOf (req 0x2000 4 [15]) = .destroy ∧
    rowOf (req 0x2000 8 [100, 0]) = .houseFloor ∧ rowOf (req 0x9040 1 [1, 0, 0, 0]) = .debugUnlock ∧
    rowOf (req 0x9030 1 [1]) = .alarmReset ∧ rowOf (req 0x4110 5 [31]) = .imageCommit ∧
    rowOf (req 0x4110 6 [31]) = .imageErase := by decide +kernel

theorem witness_inTurn (r : Request) : (turn r).inTurn r := ⟨by show serverUp hostUp = true; decide +kernel, rfl, rfl⟩

/-! SealedWritesKeptInNor -/

theorem witness_SealedWritesKeptInNor : rowOf (req 0x9010 1 (List.replicate 80 0)) = .keyInstall ∧
    rowOf (req 0x9010 3 [33]) = .keyRemove ∧ rowOf (req 0x3010 1 [0x20, 3]) = .deviceCap ∧
    rowOf (req 0x3010 3 [100, 0]) = .socketBudget ∧ rowOf (req 0x9030 2 [0, 0]) = .levelMap ∧
    rowOf (req 0x9050 1 []) = .fwImage := by decide +kernel

/-! NorWritesTakeEffect -/

theorem witness_NorWritesTakeEffect : rowOf (req 0x9000 2 (List.replicate 176 0)) = .provision ∧
    rowOf (req 0x4000 4 [0x00, 0xE1, 0xF5, 0x05]) = .disturbLimit ∧
    100000000 ≤ leNat (req 0x4000 4 [0x00, 0xE1, 0xF5, 0x05]).value ∧
    leNat (req 0x4000 4 [0x00, 0xE1, 0xF5, 0x05]).value ≤ 1900000000 ∧
    (requestEntry (req 0x9030 1 [1])).isSome = true := by decide +kernel

theorem witness_norPending (r : Request) (e : NorEffect) :
    (hostUp.onMgmt fun m => { m with norPending := some ⟨r, e, true⟩ }).mgmt.norPending = some ⟨r, e, true⟩ := rfl

/-! LifecycleOfWings -/

theorem witness_Lifecycle_rows : rowOf (req 0x21F0 7 [1]) = .run ∧ rowOf (req 0x21F0 7 [2]) = .freeze ∧
    rowOf (req 0x21F0 7 [3]) = .thaw ∧ objectOf 0x21F0 = some (.wing0 15) := by decide +kernel

/-- Wing 15 in a state, with Room 31. -/
def wingIn (st : WingSt) (r : Request) : State :=
  (turn r).onWing 15 fun x => { x with st := st, frozenBy := .host, roomMask := 0x80000000, keysGone := true }

theorem witness_Lifecycle_states : ((wingIn .populate (req 0x21F0 7 [1])).wing 15).st = .populate ∧
    keyFilled (wingIn .populate (req 0x21F0 7 [1])) (larderSlot 15) = true ∧
    keyFilled (wingIn .populate (req 0x21F0 7 [1])) (cellarSlot 15) = true ∧
    ((wingIn .run (req 0x21F0 7 [2])).wing 15).st = .run ∧ ((wingIn .frozen (req 0x21F0 7 [3])).wing 15).st = .frozen ∧
    ((wingIn .frozen (req 0x21F0 7 [3])).wing 15).frozenBy = .host ∧
    wingStopped (wingIn .freezing (req 0x21F0 7 [3])) 15 = true ∧
    ((wingIn .clearing (req 0x21F0 7 [3])).wing 15).keysGone = true ∧
    ((wingIn .clearing (req 0x21F0 7 [3])).wing 15).clearLines = 0 := by decide +kernel

/-! DictionaryRequests -/

theorem witness_DictionaryRequests : requestEntry { req 0x1010 5 [] with write := false } = some (.can, ⟨.u16, .rw, true⟩) ∧
    rowOf (req 0xA010 2 [5]) = .other ∧ (requestEntry (req 0xA010 2 [5])).isSome = true ∧
    rowOf (req 0x9040 3 [1]) = .debugLock ∧ leNat (req 0x9040 3 [1]).value = 1 ∧ serverUp hostUp = true ∧
    hostUp.mgmt.canSt ≠ .busOff := by decide +kernel

/-! AlarmsAndErases -/

theorem witness_AlarmsAndErases_AlarmSources_now : powered hostUp = true ∧ hostUp.thr.asserted.getLsbD 3 = false ∧
    (hostUp.onThr fun t => { t with asserted := 9 }).thr.asserted.getLsbD 3 = true ∧
    tapAvailable hostUp .extest = true ∧ tapAvailable hostUp .other = false := by decide +kernel

/-- A Threshold in a state with every source at one level. -/
def levelAt (st : ThrSt) (m : W16) : State := hostUp.onThr fun t => { t with st := st, levelMap := m }

theorem witness_AlarmsAndErases_AlarmSources_level : alarmLevel (levelAt .normal 0x0FFF).thr 3 = 3 ∧ alarmLevel (levelAt .normal 0x0AAA).thr 3 = 2 ∧
    alarmLevel (levelAt .normal 0x0555).thr 3 = 1 ∧ (levelAt .locked 0x0FFF).thr.st = .locked ∧
    (levelAt .normal 0x0AAA).thr.st = .normal ∧ powered (levelAt .locked 0x0FFF) = true := by decide +kernel

/-- An erase with steps left. -/
def erasing (e : EraseSteps) : State := hostUp.onThr fun t => { t with st := .erasing, erase := some e }

theorem witness_AlarmsAndErases_EraseStepsAndEnd : (erasing ⟨true, true, true, true⟩).thr.erase = some ⟨true, true, true, true⟩ ∧
    (erasing ⟨false, true, true, true⟩).thr.erase = some ⟨false, true, true, true⟩ ∧
    (erasing ⟨false, false, false, true⟩).thr.st = .erasing := ⟨rfl, rfl, rfl⟩

/-! ManagementTransactions -/

/-- A read of 0x1010/05 of a device at address 0, as one CAN frame. -/
def readFrame : CanFrame := ⟨true, 0x8404410, [1, 0, 0, 0, 0x10, 0x10, 5, 0, 0, 0, 0, 0]⟩

/-- The server with CAN on. -/
def canOn : State := hostUp.onMgmt fun m => { m with canEnable := true }

theorem witness_ManagementTransactions_RequestsTaken_can : serverUp canOn = true ∧ canOn.mgmt.canEnable = true ∧ canOn.mgmt.canSt ≠ .busOff ∧
    readFrame.payload.length ∈ canLengths ∧ readFrame.id.toNat / 2 ^ 22 % 16 = 1 ∧ readFrame.id.toNat % 16 = 0 ∧
    (parseHeader readFrame.payload).target = canOn.fabric.devAddr.toNat ∧
    headChecks canOn (.can 0x11) 1 2 true false 0 0x1010 5 0 = 0 ∧
    headChecks canOn (.can 0x11) 1 2 true false 0 0x1010 99 0 = 0x0302 ∧
    streamNeed (parseHeader readFrame.payload) ≤ readFrame.payload.length ∧ streamCrcOk readFrame.payload = true := by
  decide +kernel

theorem witness_ManagementTransactions_RequestsTaken_mbx : mbxOpen hostUp 0 0 = false ∧ serverUp hostUp = true ∧ hostUp.host.ready = true ∧
    hostUp.host.cfg.d3hot = false ∧ hostUp.host.barBlocked = [] ∧
    headChecks hostUp (.mailbox 0 0) 0 0 true false 0 0x1010 5 0 = 0 ∧
    mbxWanted (hostUp.onMgmt fun m => { m with txns := [⟨.mailbox 0 0, 0, 0, false, 1, [], true, false⟩] }) 0 0 = false := by
  decide +kernel

/-- A mailbox slot of wing 3 with an open transaction. -/
def slotOpen (complete : Bool) : State :=
  hostUp.onMgmt fun m => { m with txns := [⟨.mailbox 3 1, 0, 0, false, 1, [], complete, false⟩] }

theorem witness_ManagementTransactions_TransactionsClosed : ((slotOpen false).mgmt.txns.find? fun t => t.who == .mailbox 3 1 && t.seq == 0 &&
      !t.complete && !t.refused) = some ⟨.mailbox 3 1, 0, 0, false, 1, [], false, false⟩ ∧
    (slotOpen false).mgmt.answers = [] ∧ (slotOpen false).mgmt.norPending = none ∧ serverUp (slotOpen false) = true ∧
    ((hostUp.onMbx 3 1 fun x => { x with ready := true, more := true }).mbxSlot 3 1).more = true ∧
    ((hostUp.onMbx 3 1 fun x => { x with ready := true, more := true }).mbxSlot 3 1).ready = true ∧
    canUp (hostUp.onMgmt fun m => { m with canEnable := true, alertQueue := [] }) = true ∧
    (hostUp.onMgmt fun m => { m with canSt := .busOff }).mgmt.canSt = .busOff := by decide +kernel

/-! HostFunctionAndItsReset -/

theorem witness_HostFunctionAndItsReset_ConfigurationSpace : hostUp.sys.inReset = false ∧ cfgRetry hostUp = false ∧ cfgRetry State.reset = true ∧
    State.reset.sys.inReset = false := by decide

theorem witness_HostFunctionAndItsReset_FunctionLevelReset : hostUp.host.jobs = [] ∧ hostUp.mgmt.txns = [] ∧
    (hostUp.host.msix.get 31).pending = false := by decide

def pendingVector : State :=
  { hostUp with host := { hostUp.host with
      cfg := { PcieCfg.init with busMaster := true, msixEnable := true },
      msix := vset hostUp.host.msix 31 { MsixVec.init with masked := false, pending := true, holding := true } } }

theorem witness_HostFunctionAndItsReset_FunctionLevelReset_pending : (pendingVector.host.msix.get 31).pending = true ∧
    (pendingVector.host.msix.get 31).masked = false ∧ pendingVector.host.cfg.busMaster = true ∧
    pendingVector.host.cfg.d3hot = false ∧ pendingVector.host.cfg.msixEnable = true ∧
    pendingVector.host.cfg.msixFuncMask = false := by decide

/-! RingsAndDispatch -/

/-- Wing 0's ring with 16 entries each, at Larder offsets 0x1000 and 0x2000. -/
def ringSet : State := hostUp.onRing 0 fun r => { r with sqBase := 0x1000, sqSize := 4, cqBase := 0x2000, cqSize := 4 }

theorem witness_RingsAndDispatch_RingEnableAndDisable : ringSet.host.ready = true ∧ ringSet.host.cfg.d3hot = false ∧
    ringSet.sys.inReset = false ∧ ringSet.host.barBlocked = [] ∧ domainUp ringSet 2 = true ∧
    ringSet.sys.larderFailed = false ∧ (ringSet.ring 0).en = false ∧ ringOk ringSet 0 = true ∧ ringOk hostUp 0 = false := by
  decide +kernel

/-- The same ring enabled and, with `a`, ACTIVE. -/
def ringOn (a : Bool) : State := ringSet.onRing 0 fun r => { r with en := true, active := a, phase := true }

theorem witness_RingsAndDispatch_RingEnableAndDisable_done : ((ringOn false).ring 0).en = true ∧ ((ringOn false).ring 0).active = false := by
  decide +kernel

theorem witness_RingsAndDispatch_RingIndexWrites : ((ringOn true).ring 0).en = true ∧ ((ringOn true).wing 0).st ≠ .free ∧
    ((ringOn true).wing 0).st ≠ .clearing ∧ (15#12).toNat < 2 ^ ((ringOn true).ring 0).sqSize.toNat ∧
    (((ringOn true).ring 0).sqTail.toNat + 16 - ((ringOn true).ring 0).sqHead.toNat) % 16 + (15 + 16 - 0) % 16 ≤ 16 - 1 ∧
    2 ^ ((ringOn true).ring 0).sqSize.toNat ≤ (16#12).toNat := by decide +kernel

/-- A full submission ring: one more entry overfills it. -/
def ringFull : State := (ringOn true).onRing 0 fun r => { r with sqTail := 15, unreleased := 3, cqTail := 3 }

theorem witness_RingsAndDispatch_RingIndexWrites_overfill : (0#12).toNat < 2 ^ (ringFull.ring 0).sqSize.toNat ∧
    16 - 1 < ((ringFull.ring 0).sqTail.toNat + 16 - (ringFull.ring 0).sqHead.toNat) % 16 +
      ((0#12).toNat + 16 - (ringFull.ring 0).sqTail.toNat) % 16 ∧ (hostUp.ring 0).en = false ∧
    (3#12).toNat < 2 ^ (ringFull.ring 0).cqSize.toNat ∧
    ((3#12).toNat + 16 - (ringFull.ring 0).cqHead.toNat) % 16 ≤ (ringFull.ring 0).unreleased ∧
    (ringFull.ring 0).unreleased < ((4#12).toNat + 16 - (ringFull.ring 0).cqHead.toNat) % 16 := by decide +kernel

/-- A NOP descriptor with TAG 7. -/
def nopDesc : List Byte := [1, 0, 0, 0, 7, 0, 0, 0] ++ List.replicate 56 0

def nopHeld (c : Bool) (typ : Byte) : State :=
  (ringOn true).onRing 0 fun r => { r with held := some ⟨[typ] ++ nopDesc.drop 1, c⟩, inflight := 0 }

theorem witness_Dispatcher_copy : (ringFull.ring 0).en = true ∧ (ringFull.ring 0).active = true ∧
    dispatchOpen ringFull 0 = true ∧ (ringFull.ring 0).sqHead ≠ (ringFull.ring 0).sqTail ∧
    (ringFull.ring 0).held = none ∧ larderOpen ringFull 0 = true ∧
    wingFree ringFull 0 ((ringFull.ring 0).sqBase.toNat + 64 * (ringFull.ring 0).sqHead.toNat) 64 = true := by
  decide +kernel

theorem witness_Dispatcher_reserve : ((nopHeld false 1).ring 0).held = some ⟨nopDesc, false⟩ ∧
    dispatchOpen (nopHeld false 1) 0 = true ∧
    ((nopHeld false 1).ring 0).unreleased + ((nopHeld false 1).ring 0).inflight.toNat <
      2 ^ ((nopHeld false 1).ring 0).cqSize.toNat ∧ dSealed nopDesc = false ∧ descCheck (nopHeld false 1) 0 nopDesc = 0 ∧
    descOutside (nopHeld false 1) 0 nopDesc = false ∧ descParked (nopHeld false 1) nopDesc = false ∧
    descCheck (nopHeld false 9) 0 ([9] ++ nopDesc.drop 1) = 0x0403 := by decide +kernel

/-! JobsEndAtStart -/

theorem witness_JobsEndAtStart : startable (nopHeld true 1) 0 1 = some nopDesc ∧
    startable (nopHeld true 6) 0 6 = some ([6] ++ nopDesc.drop 1) ∧
    (0 : Fin 32).1 = fieldAt ([6] ++ nopDesc.drop 1) 16 1 % 32 := by decide +kernel

/-- A descriptor of a type is held and image 0 of wing 0 is in a state. -/
def imageHeld (typ : Byte) (st : ImgSt) : State := (nopHeld true typ).onImage 0 0 fun g => { g with st := st, quarterPages := 2 }

theorem witness_JobsEndAtStart_images : startable (imageHeld 6 .loaded) 0 6 = some ([6] ++ nopDesc.drop 1) ∧
    ((imageHeld 6 .loaded).image 0 0).st = .loaded ∧ startable (imageHeld 7 .loaded) 0 7 = some ([7] ++ nopDesc.drop 1) ∧
    eraseCheck (imageHeld 7 .loaded) 0 0 = 0 := by decide +kernel

/-! ProgramLoadAndRun -/

/-- A descriptor for Room 5: mask 0x20. -/
def roomDesc (typ : Byte) : List Byte := putAt ([typ] ++ nopDesc.drop 1) 16 [0x20]

def roomHeld (typ : Byte) : State := (ringOn true).onRing 0 fun r => { r with held := some ⟨roomDesc typ, true⟩ }

theorem witness_ProgramLoadAndRun_load : startable (roomHeld 2) 0 2 = some (roomDesc 2) ∧
    ((List.finRange 32).all fun r => !(withCheckers (roomHeld 2) (dMask (roomDesc 2))).getLsbD r.1 ||
      (((roomHeld 2).room r).st != .debugHalt && ((roomHeld 2).room r).st != .running)) = true := by decide +kernel

theorem witness_ProgramLoadAndRun_run : startable (roomHeld 3) 0 3 = some (roomDesc 3) ∧
    noChecker (roomHeld 3) (dMask (roomDesc 3)) = true ∧ dMask (roomDesc 3) ≠ 0 ∧
    ((List.finRange 32).all fun r => !(withCheckers (roomHeld 3) (dMask (roomDesc 3))).getLsbD r.1 ||
      (((roomHeld 3).room r).st == .idle && !((roomHeld 3).room r).zeroing && !((roomHeld 3).room r).held)) = true := by
  decide +kernel

def loadJob : Job :=
  { ring := 0, serial := 3, tag := 7, typ := 2, irq := false, late := false, kind := .programLoad 0x20 0x8000 64 0 0 0 }

def loading : State := hostUp.onHost fun h => { h with jobs := [loadJob] }

theorem witness_ProgramLoadAndRun_done : findJob loading 0 3 = some loadJob ∧ loadJob.kind = .programLoad 0x20 0x8000 64 0 0 0 ∧
    wingFree loading 0 0x8000 (64 + 0 + 0 + 0) = true ∧ larderOpen loading 0 = true ∧
    (wingRead loading 0 0x8000 (64 + 0 + 0 + 0)).2.1 = false := by decide +kernel

/-! HatchCopyJob -/

def copyDesc : List Byte := putAt (putAt ([4] ++ nopDesc.drop 1) 20 [0x40]) 32 [0, 0x10]

def copyHeld : State :=
  ((ringOn true).onRing 0 fun r => { r with held := some ⟨copyDesc, true⟩ }).onHost fun h =>
    { h with cfg := { h.cfg with busMaster := true } }

theorem witness_HatchCopyJob_start : startable copyHeld 0 4 = some copyDesc ∧ copyHeld.host.cfg.busMaster = true := by
  decide +kernel

def engine (reads : List HostRead) : CopyEngine :=
  { serial := 3, toHost := false, hostAddr := 0, wingOff := 0x1000, left := 0, moved := 0, nextTag := 1, reads := reads,
    failed := none }

def copying (reads : List HostRead) : State :=
  (copyHeld.onHatch 0 fun h => { h with copy := some (engine reads) }).onHost fun h =>
    { h with jobs := [{ loadJob with typ := 4, kind := .hatchCopy }] }

theorem witness_HatchCopyJob_read : ((copying [⟨0, 0x1000, 4⟩]).hatch 0).copy = some (engine [⟨0, 0x1000, 4⟩]) ∧
    ((engine [⟨0, 0x1000, 4⟩]).reads.find? fun r => r.tag == 0) = some ⟨0, 0x1000, 4⟩ ∧
    ([1, 2, 3, 4] : List Byte).length = 4 := by decide +kernel

theorem witness_HatchCopyJob_done : ((copying []).hatch 0).copy = some (engine []) ∧
    (findJob (copying []) 0 (engine []).serial).isSome = true ∧ (engine []).failed = none ∧
    (copying []).host.cfg.busMaster = true ∧ (engine []).toHost = false ∧ (engine []).left = 0 ∧ (engine []).reads = [] := by
  decide +kernel

/-! ImageLoadJob -/

/-- An IMAGE_LOAD of 16 KiB from wing offset 0 to DEST, for image 0. -/
def loadDesc (dest : Byte) : List Byte :=
  putAt (putAt ([5] ++ nopDesc.drop 1) 20 [0x00, 0x40]) 32 [0x00, dest]

def loadHeld (dest : Byte) (w : WingId) (st : ImgSt) : State :=
  (hostUp.onRing w fun r => { r with en := true, active := true, held := some ⟨loadDesc dest, true⟩ }).onImage w 0 fun g =>
    { g with st := st, quarterPages := 2 }

theorem witness_ImageLoadJob_more : startable (loadHeld 0x40 0 .loading) 0 5 = some (loadDesc 0x40) ∧
    (0 : Fin 32).1 = fieldAt (loadDesc 0x40) 16 1 % 32 ∧ keyFilled (loadHeld 0x40 0 .loading) (cellarSlot 0) = true ∧
    ((loadHeld 0x40 0 .loading).image 0 0).st = .loading ∧ fieldAt (loadDesc 0x40) 32 8 ≠ 0 ∧
    fieldAt (loadDesc 0x40) 32 8 + fieldAt (loadDesc 0x40) 20 4 ≤
      16384 * (4 * ((loadHeld 0x40 0 .loading).image 0 0).quarterPages.toNat + 1) := by decide +kernel

/-- Wing 1 in POPULATE with the window of 2 MiB at 0. -/
def headerStands : State := (loadHeld 0 1 .empty).onWing 1 fun x =>
  { x with st := .populate, celQuota := 8, windowCount := 1, windows := vset x.windows 0 0x10000 }

theorem witness_ImageLoadJob_header : startable headerStands 1 5 = some (loadDesc 0) ∧
    keyFilled headerStands (cellarSlot 1) = true ∧ (headerStands.image 1 0).st = .empty ∧ fieldAt (loadDesc 0) 32 8 = 0 ∧
    fieldAt (loadDesc 0) 20 4 ≠ 0 ∧ larderOpen headerStands 1 = true := by decide +kernel

theorem witness_ImageLoadJob_job : findJob (hostUp.onHost fun h =>
    { h with jobs := [{ loadJob with kind := .imageLoad 0 [] 0 0 16384 }] }) 0 3 =
      some { loadJob with kind := .imageLoad 0 [] 0 0 16384 } := by decide +kernel

/-! HatchAccesses -/

theorem witness_HatchAccesses_HatchWindow : hatchRefuse hostUp 0 = none ∧ (hostUp.hatch 0).winEn = false ∧
    domainUp hostUp 2 = true ∧ hostUp.host.ready = true ∧ hostUp.host.cfg.d3hot = false ∧ hostUp.sys.inReset = false ∧
    hostUp.host.barBlocked = [] := by decide +kernel

/-- Wing 0's Hatch with its window at 0x8000. -/
def windowOn : State := hostUp.onHatch 0 fun h => { h with winEn := true, win := 0x8000, addr := 0x2000, raEn := true }

theorem witness_HatchAccesses_HatchWindow_on : hatchRefuse windowOn 0 = none ∧ (windowOn.hatch 0).winEn = true ∧
    wingRange windowOn 0 ((windowOn.hatch 0).win.toNat + 0x7FFC) 4 = true ∧
    wingFree windowOn 0 ((windowOn.hatch 0).win.toNat + 0x7FFC) 4 = true ∧ 0x7FFC + 4 ≤ 0x8000 ∧ 0x8000 < 0x7FFD + 4 := by
  decide +kernel

theorem witness_HatchAccesses_HatchPort : wingRange windowOn 0 (windowOn.hatch 0).addr.toNat 512 = true ∧
    wingFree windowOn 0 (windowOn.hatch 0).addr.toNat 4096 = true ∧ wingRange windowOn 0 (windowOn.hatch 0).addr.toNat 4096 = true ∧
    (windowOn.hatch 0).lines = [] ∧ hatchRefuse windowOn 0 = none ∧ domainUp windowOn 2 = true := by decide +kernel

theorem witness_HatchAccesses_HatchPort_outside : wingRange (hostUp.onHatch 0 fun h => { h with addr := 0xFFFFFFFFC }) 0
    ((hostUp.onHatch 0 fun h => { h with addr := 0xFFFFFFFFC }).hatch 0).addr.toNat 4 = false ∧
    hatchRefuse (hostUp.onHatch 0 fun h => { h with addr := 0xFFFFFFFFC }) 0 = none := by decide +kernel

theorem witness_HatchAccesses_HatchControl : (windowOn.hatch 0).raEn = true ∧ engineBusy windowOn 0 = false ∧ hatchOpen windowOn 0 = true ∧
    larderOpen windowOn 0 = true ∧ 0 < (windowOn.hatch 0).raDepth.toNat ∧ (windowOn.hatch 0).lines = [] ∧
    wingRange windowOn 0 ((windowOn.hatch 0).addr.toNat / 4096 * 4096) 4096 = true ∧
    wingFree windowOn 0 ((windowOn.hatch 0).addr.toNat / 4096 * 4096) 4096 = true ∧
    (0xFFFFFFFFC#64).toNat % 4 = 0 ∧ (0xFFFFFFFFC#64).toNat < 2 ^ 36 := by decide +kernel

/-! HostAndDomainRegisters -/

theorem witness_HostAndDomainRegisters_RegisterWrites : domainUp hostUp (storeyDomain 31) = true ∧ regShape 0x140019 4 = false ∧
    regShape 0x1FFFFC 4 = true ∧ regMapped hostUp 0x1FFFFC 4 = false ∧ mailboxOff 0x1FFFFC = false ∧
    mailboxOff 0x140019 = false ∧ debugAllows hostUp 31 0 = false := by decide +kernel

/-- Room 31 at a breakpoint of its Newel, with debug scope 0 for wing 0. -/
def atBreak : State := (hostUp.onThr fun t => { t with debugWings := 1, debugScope := 1 }).onRoom 31 fun x =>
  { x with st := .debugHalt, sdbgWhich := 0 }

theorem witness_HostAndDomainRegisters_RegisterWrites_resume : (atBreak.room 31).st = .debugHalt ∧ (atBreak.room 31).sdbgWhich = 0 ∧
    debugAllows atBreak 31 0 = true ∧ domainUp atBreak (storeyDomain 31) = true := by decide +kernel

theorem witness_HostAndDomainRegisters_DomainRegisters : domainUp hostUp 1 = true ∧ (0x400#32).toNat &&& 0xFFFFF87F = 0 ∧
    (0x10080#32).getLsbD 7 = true ∧ (0x10080#32).getLsbD (11 + 5) = true ∧ hostUp.sys.domHold.getLsbD 0 = false ∧
    hostUp.sys.domHold.getLsbD 9 = false ∧ (0x80000000#32).getLsbD 31 = true ∧ hostUp.sys.roomHold.getLsbD 31 = false ∧
    (hostUp.onSys fun y => { y with roomHold := 0x80000000, roomInval := 0x80000000 }).sys.roomHold.getLsbD 31 = true ∧
    (hostUp.onSys fun y => { y with roomHold := 0x80000000, roomInval := 0x80000000 }).sys.roomInval.getLsbD 31 = true ∧
    (0#32).getLsbD 31 = false ∧ domainUp hostUp (storeyDomain 31) = true ∧
    ((hostUp.onRoom 31 fun x => { x with zeroing := true }).room 31).zeroing = true ∧
    ((hostUp.onRoom 31 fun x => { x with zeroing := true }).room 31).held = false := by decide +kernel

/-! ResetsAndOperatingPoints -/

theorem witness_ResetsAndOperatingPoints_DeviceResets : hostUp.sys.inReset = false ∧
    ResetSrc.por ∈ (hostUp.onSys fun y => { y with asserted := [.por] }).sys.asserted ∧
    (erasing ⟨true, true, true, true⟩).thr.erase = some ⟨true, true, true, true⟩ ∧
    (erasing ⟨false, true, true, true⟩).thr.erase = some ⟨false, true, true, true⟩ ∧
    (hostUp.onSys fun y => { y with inReset := true }).sys.inReset = true ∧
    (hostUp.onSys fun y => { y with inReset := true }).sys.asserted = [] := by decide +kernel

theorem witness_ResetsAndOperatingPoints_OperatingPointSteps : (∀ k ∈ [RelockStep.volt, .settle, .waitLock, .hold],
    ((hostUp.onStorey 3 fun x => { x with step := k }).storey 3).step = k) := by decide +kernel

/-! PhaseTimeAndComparators -/

/-- Phase time at 9 of a LOCKED base, comparator 63 armed for 10 with an event in Room 31. -/
def cmpAt10 (p : W32) : State := (hostUp.onPhase fun b => { b with st := .locked, time := 9 }).onCmp 63 fun c =>
  { c with held := true, arm := true, event := true, room := 31, time := 10, period := p }

theorem witness_PhaseTimeAndComparators : phaseRuns (cmpAt10 3) = true ∧ ((cmpAt10 3).phase.cmps.get 63).held = true ∧
    ((cmpAt10 3).phase.cmps.get 63).arm = true ∧ wingFrozen (cmpAt10 3) ((cmpAt10 3).phase.cmps.get 63).wing = false ∧
    reached ((cmpAt10 3).phase.time + 1) ((cmpAt10 3).phase.cmps.get 63).time = true ∧
    ((cmpAt10 3).phase.cmps.get 63).period ≠ 0 ∧ ((cmpAt10 0).phase.cmps.get 63).period = 0 ∧
    ((cmpAt10 3).phase.cmps.get 62).held = false ∧ phaseRuns hostUp = false := by decide +kernel

theorem witness_PhaseTimeAndComparators_ComparatorRegisters : domainUp hostUp 1 = true ∧ (hostUp.phase.cmps.get 63).held = false ∧
    wingClaims hostUp 0 = true ∧ ((cmpAt10 3).phase.cmps.get 63).held = true ∧ ((cmpAt10 3).phase.cmps.get 63).wing = 0 ∧
    cmpRefused (cmpAt10 3) 0 true false 31 0 = false ∧ domainUp (cmpAt10 3) 1 = true ∧
    ((cmpAt10 3).phase.cmps.get 63).record = false := by decide +kernel

/-! MainsAndBeacons -/

/-- A phase base with 8 periods of 50 Hz. -/
def mainsAt (st : PhSt) : State := hostUp.onPhase fun p =>
  { p with st := st, periods := List.replicate 8 2000000, time := 1, goodEdges := 15, missingEdges := 1,
           run := List.replicate 4 2000000, holdoverUsed := 65536 }

theorem witness_MainsAndBeacons_MainsLock : readsMains (mainsAt .acquiring) = true ∧ (mainsAt .acquiring).phase.startPending = false ∧
    hzOk 2040000 = true ∧ 50 * absGap (2040000 * 8) (sumOf (mainsAt .acquiring).phase.periods) ≤ sumOf (mainsAt .acquiring).phase.periods ∧
    hzOk 1530000 = false ∧ 20 * absGap (1530000 * 8) (8 * 1600000) ≤ 8 * 1600000 ∧
    sumOf (List.replicate 8 1600000) = 8 * 1600000 ∧ (mainsAt .acquiring).phase.missingEdges = 1 ∧
    hostUp.phase.missingEdges = 0 ∧ hostUp.phase.run.length < 4 ∧
    4 ≤ (mainsAt .unlocked).phase.run.length ∧ (mainsAt .holdover).phase.holdoverMax.toNat ≤ (mainsAt .holdover).phase.holdoverUsed ∧
    hostUp.phase.st = .unlocked ∧ ownMains hostUp = true := by decide +kernel

/-- A device with a beacon of phase 100 in its inbox. -/
def beaconIn : State := hostUp.onFabric fun f =>
  { f with inbox := [⟨0, 0, Packet.mgmt .beacon 1 0 (beaconBytes ⟨.locked, 0, 100, 0, 50000⟩)⟩] }

theorem witness_MainsAndBeacons_BeaconsFollowed : (takePacket beaconIn fun x => x.pkt.typ == .beacon).isSome = true ∧
    beaconIn.fabric.isMaster = false ∧ (parseBeacon (beaconBytes ⟨.locked, 0, 100, 0, 50000⟩)).phase = 100 ∧
    (hostUp.onPhase fun p => { p with beaconSeen := true, missedBeacons := 7 }).phase.missedBeacons + 1 = 8 ∧
    (hostUp.onFabric fun f => { f with candidate := true }).fabric.excluded = false := by decide +kernel

/-! EnergyAccounts -/

theorem witness_EnergyAccounts_HalfCycleAccounts : phaseRuns (hostUp.onPhase fun b => { b with st := .locked, time := 32768 }) = true ∧
    (hostUp.onPhase fun b => { b with st := .locked, time := 32768 }).phase.time.toNat % 32768 = 0 ∧
    (hostUp.onPhase fun b => { b with st := .locked, time := 32768 }).fuse.half ≠ some 1 ∧ hostUp.phase.st = .unlocked ∧
    6 ≤ hostUp.sys.bootStage.toNat ∧ hostUp.sys.bootStage.toNat ≤ 10 ∧ hostUp.sys.inReset = false ∧
    (hostUp.onFuse fun f => { f with armed := true }).fuse.armed = true := by decide +kernel

/-- Wing 15 runs with Room 31 and a grant in mJ. -/
def metered (grant : W32) : State := (hostUp.onWing 15 fun x => { x with st := .run, roomMask := 0x80000000 }).onFuse fun f =>
  { f with wings := vmod f.wings 15 fun a => { a with grant := grant } }

theorem witness_EnergyAccounts_MeteringAndStretch : (∀ i, ((metered 100).fuse.regs.get i).failed = false) ∧
    ((metered 100).storey (storeyOf 31)).gang.getLsbD 7 = false ∧ roomOwner (metered 100) 31 = 15 ∧
    ((metered 100).fuse.wings.get 15).reached = false ∧
    stepCharge (metered 100) ⟨List.replicate 32 7, [], 0⟩ 15 < 100 * 1000 ∧
    stepCharge (metered 0) ⟨List.replicate 32 7, [], 0⟩ 15 = 7 ∧ ((metered 0).wing 15).st.exists_ = true ∧
    roomOwner hostUp 31 = 0 := by decide +kernel

/-! LoansAtTheMaster -/

/-- A report of half-cycle 0 and a grant for half-cycle 1, as the Fusebox of another device sends them. -/
def aReport : FuseReport := ⟨0, 5, 4, 100, 0, 7, 20, 50⟩
def aGrant : FuseGrant := ⟨1, 7, 60, 20⟩

/-- A device, master or not, with a FUSE packet in its inbox. -/
def fuseIn (master : Bool) (time : W48) (bs : List Byte) : State :=
  ((hostUp.onFuse fun f => { f with armed := true, reports := [⟨0, aReport⟩] }).onPhase fun p => { p with time := time }).onFabric
    fun f => { f with isMaster := master, inbox := [⟨0, 0, Packet.mgmt .fuse 1 0 bs⟩] }

theorem witness_LoansAtTheMaster : (takeFuse (fuseIn true 0 (reportBytes aReport)) 2).isSome = true ∧
    (parseReport (reportBytes aReport)).half = 0 ∧ (takeFuse (fuseIn false 0 (grantBytes aGrant)) 3).isSome = true ∧
    (parseGrant (grantBytes aGrant)).half = BitVec.ofNat 16 (halfIndex 0 + 1) ∧ (fuseIn true 8192 []).fuse.armed = true ∧
    (fuseIn true 8192 []).phase.time.toNat % 32768 = 8192 ∧ (fuseIn false 16384 []).phase.time.toNat % 32768 = 16384 ∧
    (fuseIn false 16384 []).fuse.grantSeen = false ∧ aReport.borrow = 7 := by decide +kernel

theorem witness_LoansAtTheMaster_own : (loans (allReports (fuseIn true 8192 []))).map (·.1) = [0] := by
  have h : allReports (fuseIn true 8192 []) = [⟨0, aReport⟩] := by decide +kernel
  rw [h]; simp [loans, proportion, aReport, sumOf]

/-! DoorwayTraining -/

/-- Doorway 5 in a state and stage, with what its peer sent. -/
def doorIn (st : DoorSt) (k : TrainStage) (e : Exchange) : State := (hostUp.onDoor 5 fun x =>
  { x with st := st, stage := k, peer := some e, rxLocked := true, lockHold := true }).onFabric fun f => { f with en := 63 }

theorem witness_DoorwayTraining : (hostUp.onFabric fun f => { f with en := 63 }).fabric.en.getLsbD 5 = true ∧
    (hostUp.door 5).st = .absent ∧ hostUp.sys.resetHeld.getLsbD 16 = false ∧ 7 ≤ hostUp.sys.bootStage.toNat ∧
    ((doorIn .down .lock ⟨4, 1, true, false, 0, 15⟩).door 5).st = .down ∧
    (∀ k ∈ [TrainStage.detect, .equalise, .align, .lock, .exchange],
      ((doorIn .training k ⟨4, 1, true, false, 0, 15⟩).door 5).stage = k ∧
      ((doorIn .training k ⟨4, 1, true, false, 0, 15⟩).door 5).st = .training) ∧
    opposite 5 = 4 ∧ laneSet 11 = 3 ∧ laneSet 0 = 0 ∧
    ((doorIn .training .exchange ⟨4, 1, true, false, 0, 15⟩).door 5).peer = some ⟨4, 1, true, false, 0, 15⟩ ∧
    ((doorIn .training .lock ⟨4, 1, true, false, 0, 15⟩).door 5).lockHold = true := by decide +kernel

/-! DoorwayFrames -/

/-- A packet of chunk data for this device in a frame, and Doorway 5 UP with it held. -/
def heldPkt : Packet := { typ := .rdRsp, vc := 1, src := 1, dst := 0, wing := 1, span := 0, seq := 0, tag := 0, param := 0,
                          poison := false, data := List.replicate 64 0 }

def heldFrame : Frame := { emptyFrame hostUp 5 0 with
  train := false
  fseq := 1
  heads := [⟨heldPkt, 0, 30, false⟩]
  flits := 32 }

def doorUp : State := hostUp.onDoor 5 fun x =>
  { x with st := .up, rxLocked := true, rxHeld := some heldFrame, replay := [heldFrame], absentMarks := 3 }

theorem witness_DoorwayFrames : (doorUp.door 5).st = .up ∧ (doorUp.door 5).rxLocked = true ∧ framesGo (doorUp.door 5) = true ∧
    (doorUp.door 5).rxHeld = some heldFrame ∧ heldFrame.train = false ∧ heldFrame.fseq = (doorUp.door 5).rxSeq + 1 ∧
    (doorUp.door 5).reasm = [] ∧ pktLen heldPkt + 30 ≤ 32 ∧ vcFits heldPkt = true ∧ heldPkt.dst = doorUp.fabric.devAddr ∧
    doorUp.fabric.assignWait = false ∧ (doorUp.door 5).replayNext = [] ∧ (doorUp.door 5).replay.length < 64 ∧
    (doorUp.door 5).noProgress < 8 ∧ 3 ≤ (doorUp.door 5).absentMarks ∧
    ((doorIn .down .lock ⟨4, 1, true, false, 0, 15⟩).door 5).st ≠ .up ∧
    framesGo ((doorIn .down .lock ⟨4, 1, true, false, 0, 15⟩).door 5) = true := by decide +kernel

/-! FabricRegistersAndCensus -/

theorem witness_FabricRegistersAndCensus_FabricRegisters : domainUp hostUp 1 = true ∧ ((hostUp.door 5).claims.get 2).held = false ∧
    doorShares hostUp 0 ≠ 0 ∧ (0xD0FF0012#32).toNat / 2 ^ 28 % 8 ≠ 6 ∧ (0xD0FF0012#32).toNat / 65536 % 4096 ≠ 0 ∧
    (0xD0FF0012#32).toNat / 4096 % 16 = 0 ∧ (0xE0FF0012#32).toNat / 2 ^ 28 % 8 = 6 ∧
    (hostUp.onFabric fun f => { f with isMaster := true }).fabric.isMaster = true ∧ hostUp.fabric.isMaster = false ∧
    (((hostUp.onDoor 5 fun x => { x with claims := vset x.claims 2 ⟨true, 3⟩ }).door 5).claims.get 2).wing = 3 ∧
    (((hostUp.onDoor 5 fun x => { x with claims := vset x.claims 2 ⟨true, 3⟩ }).door 5).claims.get 2).held = true := by
  decide +kernel

/-- A device with a census packet in its inbox. -/
def censusIn (k : Nat) (data : List Byte) (m : Bool) (st : CensusSt) : State := hostUp.onFabric fun f =>
  { f with inbox := [⟨0, 0, { Packet.mgmt .census 1 0 data with param := k, tag := 1 }⟩], isMaster := m, censusSt := st, epoch := 1,
           upstream := some 5 }

theorem witness_FabricRegistersAndCensus_CensusPackets : (takePacket (censusIn 0 [0, 0] false .none) (isCensus censusQuery)).isSome = true ∧
    (censusIn 0 [0, 0] false .none).fabric.excluded = false ∧ (censusIn 0 [0, 0] false .none).fabric.candidate = false ∧
    (censusIn 0 [0, 0] false .none).fabric.lowestSeen = none ∧ (censusIn 0 [0, 0] false .none).fabric.answeredEpoch = none ∧
    (takePacket (censusIn 1 [] true .running) (isCensus censusAnswer)).isSome = true ∧
    (censusIn 1 [] true .running).fabric.isMaster = true ∧ (censusIn 1 [] true .running).fabric.censusSt = .running ∧
    (censusIn 1 [] true .running).fabric.answers = [] ∧ (∀ d, ((censusIn 1 [] true .running).door d).st ≠ .up) := by
  decide +kernel

/-- The same device with an answer given to device 0's census, and its result with this device at address 0x123. -/
def resultIn : State := (censusIn 2 (List.replicate 512 0 ++ [0, 0, 0, 0, 0x23, 0x01]) false .running).onFabric fun f =>
  { f with answeredEpoch := some (0, 1) }

theorem witness_FabricRegistersAndCensus_CensusPackets_result : (takePacket resultIn (isCensus censusResult)).isSome = true ∧
    (parseTable 4096 [0, 0, 0, 0, 0x23, 0x01]).find? (fun e => e.1 == resultIn.thr.fuses.serial.setWidth 32) = some (0, 0x123) := by
  decide +kernel

/-! HomeAgents -/

/-- A tracker just accepted, and its home with it and a directory entry of line 5. -/
def accepted (k : HomeKind) : Tracker := ⟨⟨k, 5, .cache 2⟩, .accepted, false, false, false⟩

def homeWith (k : HomeKind) (dir : List DirEntry) : State := hostUp.onHome (homeOf 5) fun h =>
  { h with trackers := [accepted k], dir := dir }

theorem witness_HomeAgent_handles : (homeWith .getS []).handles (accepted .getS) ∧ (homeWith .ncRd []).handles (accepted .ncRd) ∧
    (homeWith .upg [⟨5, .shared 4⟩]).handles (accepted .upg) ∧
    (homeWith (.ncWr (List.replicate 64 1) (BitVec.allOnes 64)) []).handles (accepted (.ncWr (List.replicate 64 1) (BitVec.allOnes 64))) := by
  unfold State.handles; decide +kernel

theorem witness_HomeAgent_entry : dirFind ((homeWith .getS []).homeAt 5) 5 = none ∧
    noRead (homeWith .getS []) (homeOf 5) (accepted .getS) = false ∧
    (∀ e ∈ [(⟨5, .owned 33⟩ : DirEntry), ⟨5, .owned 0⟩], (snoopFor (accepted .getS).req (some e)).2 ≠ 0 ∧
      dirFind ((homeWith .getS [e]).homeAt 5) 5 = some e) ∧
    dirFind ((homeWith .upg [⟨5, .shared 4⟩]).homeAt 5) 5 = some ⟨5, .shared (1 <<< 2)⟩ ∧
    farFind ((homeWith .getS []).homeAt 5) 5 = none := by decide +kernel

/-- A home whose transaction of line 5 waits for the Larder. -/
def homeReads (k : HomeKind) (dir : List DirEntry) : State := hostUp.onHome (homeOf 5) fun h =>
  { h with trackers := [{ accepted k with phase := .reading }], dir := dir, far := [⟨5, List.replicate 64 7, false, .cache 1⟩] }

theorem witness_HomeAgents_HomeAgentAnswers : (homeReads .getS []).reads { accepted .getS with phase := .reading } ∧
    (homeReads (.atom .add 1 0 15) []).reads { accepted (.atom .add 1 0 15) with phase := .reading } ∧
    dirFind ((homeReads .getS []).homeAt 5) 5 = none ∧
    dirFind ((homeReads .getS [⟨5, .shared 1⟩]).homeAt 5) 5 = some ⟨5, .shared 1⟩ ∧
    farFind ((homeReads .getS []).homeAt 5) 5 = some ⟨5, List.replicate 64 7, false, .cache 1⟩ := by
  unfold State.reads; decide +kernel

/-- A request of wing 0 for line 5 waiting at its pair. -/
def waitingAt : State := hostUp.onLarder fun l => { l with waiting := vset l.waiting (pairOf (homeOf 5)) [(0, (accepted .getS).req)] }

theorem witness_HomeAgents_HomeAgentAnswers_slot : domainUp waitingAt 5 = true ∧ waitingAt.larder.posted = [] ∧
    waitingFor waitingAt (homeOf 5) (rotate (waitingAt.larder.homes.get (homeOf 5)).rot (larderShare waitingAt)).1 =
      some (0, (accepted .getS).req) ∧ (waitingAt.larder.homes.get (homeOf 5)).trackers.length < 256 := by decide +kernel

/-! SnoopsAndTheirAnswers -/

/-- Cache 33 with a line in a state and a message for it. -/
def snooped (k : MsgKind) (ls : List CacheLine) : State :=
  (hostUp.onCache 33 fun c => { c with lines := ls }).onLarder fun l => { l with net := [bareMsg k 5 (.cache 33)] }

theorem witness_SnoopsAndTheirAnswers_CachesAnswerSnoops : (∀ k ∈ [MsgKind.fwdGetS, .fwdGetX, .inv, .binv],
      (takeMsg (snooped k [⟨5, .m, [], false⟩]) k (.cache 33) 5).isSome = true ∧
      cacheFind ((snooped k [⟨5, .m, [], false⟩]).cache 33) 5 = some ⟨5, .m, [], false⟩ ∧
      (takeMsg (snooped k []) k (.cache 33) 5).isSome = true ∧ cacheFind ((snooped k []).cache 33) 5 = none ∧
      answerComing (snooped k []) 33 5 = false) ∧
    answerComing ((snooped .fwdGetS []).onLarder fun l => { l with net := [bareMsg .datE 5 (.cache 33)] }) 33 5 = true ∧
    (takeMsg ((snooped .fwdGetS []).onLarder fun l => { l with net := bareMsg .datE 5 (.cache 33) :: l.net })
      .fwdGetS (.cache 33) 5).isSome = true := by decide +kernel

/-- A home that waits for caches 32 and 33 about line 5, with an answer of cache 33 on its way. -/
def awaitsTwo (k : MsgKind) : State := (hostUp.onHome (homeOf 5) fun h =>
  { h with trackers := [{ accepted .getX with phase := .snooping 0x300000000 }] }).onLarder fun l =>
    { l with net := [{ bareMsg k 5 (.cache 33) with data := List.replicate 64 1, dirty := true }] }

theorem witness_SnoopsAndTheirAnswers_SnoopAnswersReachHome : (∀ k ∈ [MsgKind.ack, .dat, .wbPending, .wb],
      (takeMsg (awaitsTwo k) k (.cache 33) 5).isSome = true) ∧
    awaiting (awaitsTwo .ack) 5 33 = some { accepted .getX with phase := .snooping 0x300000000 } ∧
    (0x300000000 : BitVec 34) &&& ~~~((1 : BitVec 34) <<< 33) ≠ 0 ∧ ((awaitsTwo .ack).homeAt 5).wbData = [] ∧
    farFind ((awaitsTwo .ack).homeAt 5) 5 = none ∧ awaiting (awaitsTwo .wb) 6 33 = none := by decide +kernel

/-! AnswersReachTheirAgents -/

/-- Core 31 with a wait and a store of line 5, its cache with the line in S, and a message for it. -/
def coreWaits (w : NewelWait) (k : MsgKind) : State :=
  (((hostUp.onRoom 31 fun x => { x with newel := { x.newel with wait := w, stores := [⟨320, 0, [1]⟩] } }).onCache 31 fun q =>
    { q with lines := [⟨5, .s, List.replicate 64 0, false⟩] })).onLarder fun l =>
      { l with net := [{ bareMsg k 5 (.cache 31) with data := List.replicate 64 7 }] }

theorem witness_AnswersReachTheirAgents_AnswersReachCaches : (∀ k ∈ [MsgKind.datS, .datE, .datM, .cmp, .wbAck],
      (takeMsg (coreWaits .ready k) k (.cache 31) 5).isSome = true) ∧
    (coreNewel (coreWaits (.load 5 .word 324 0) .datS) 31).wait = .load 5 .word 324 0 ∧ (324#48).toNat / 64 = 5 ∧
    (coreNewel (coreWaits (.nearAtom 5 .add 1 0 324 0) .datM) 31).wait = .nearAtom 5 .add 1 0 324 0 ∧
    ((coreWaits .ready .cmp).cache 31).heldSnoop = none ∧ (coreNewel (coreWaits .ready .cmp) 31).wait = .ready ∧
    (coreNewel (coreWaits .ready .cmp) 31).stores = [⟨320, 0, [1]⟩] ∧ (320#48).toNat / 64 = 5 ∧
    cacheFind ((coreWaits .ready .cmp).cache 31) 5 = some ⟨5, .s, List.replicate 64 0, false⟩ := by decide +kernel

/-- A message of a kind for a peer about line 5. -/
def msgFor (k : MsgKind) (p : Agent) : State := hostUp.onLarder fun l => { l with net := [bareMsg k 5 p] }

theorem witness_AnswersReachTheirAgents_NonCachingAnswers : (∀ p ∈ [Agent.cache 33, .astream 31 1, .remote 1 0 15], ∀ k ∈ [MsgKind.ncAck, .datNc, .atomDone],
      (takeMsg (msgFor k p) k p 5).isSome = true) ∧
    (coreNewel (coreWaits (.farAtom 5 324 0) .atomDone) 31).wait = .farAtom 5 324 0 ∧
    (takeMsg (coreWaits (.farAtom 5 324 0) .atomDone) .atomDone (.cache 31) 5).isSome = true ∧
    domainUp hostUp 3 = true ∧ regionReserved 0 0x7FFF = false ∧ regionReserved 2 3 = false ∧
    (regionWith (hostUp.larder.regions.get 15) 0 0x7FFF).en = false ∧
    (regionWith (hostUp.larder.regions.get 15) 2 3).en = true ∧ regionOk hostUp (regionWith (hostUp.larder.regions.get 15) 2 3) = true ∧
    regionOk hostUp (regionWith ⟨0x10, 0xF, true, false⟩ 2 3) = false := by decide +kernel

/-! RequestsFromOtherDevices -/

/-- Wing 15 in a span with Room 31, whose queue 0 receives with credits in queue 1, and a packet of its in the inbox. -/
def spanIn (typ : PktType) (param : Nat) (data : List Byte) : State :=
  ((((hostUp.onWing 15 fun x => { x with st := .run, flags := 2, spanId := 7, windowCount := 1, roomMask := 0x80000000,
                                         windows := vset x.windows 0 0x00010001 }).onRoom 31 fun x =>
    { x with ranges := vset x.ranges 0 ⟨true, 15, 0, 0, 0x7FF⟩,
             hqs := vset (vset x.hqs 0 { (x.hqs.get 0) with kind := .receive, auxQ := 1 }) 1
               { (x.hqs.get 1) with kind := .local, handles := [0xF8000000] } }).onCellar fun c =>
    { c with remote := vset c.remote 0 ⟨true, 15, 1, 3, 0⟩ }).onImage 15 0 fun g => { g with quarterPages := 3 }).onFabric fun f =>
    { f with inbox := [⟨0, 0, { typ := typ, vc := 3, src := 1, dst := 0, wing := 15, span := 7, seq := 0, tag := 0,
                                param := param, poison := false, data := data }⟩] }

theorem witness_RequestsFromOtherDevices_larder : (∀ p ∈ [PktType.rdReq, .wrReq, .atomReq],
      ((takePacket (spanIn p 0 (List.replicate 32 0)) fun x => x.pkt.typ == p).map fun x =>
        (spanTest (spanIn p 0 (List.replicate 32 0)) x.1.pkt, reqAddr (spanIn p 0 (List.replicate 32 0)) x.1.pkt,
         larderOpen (spanIn p 0 (List.replicate 32 0)) x.1.pkt.wing)) = some (true, some 0x200000, true)) ∧
    atomOpOf 0 = some .add := by decide +kernel

theorem witness_RequestsFromOtherDevices_mladyx : ((takePacket (hostUp.onFabric fun f =>
      { f with inbox := [⟨0, 0, Packet.mgmt .mladyx 1 0 []⟩] }) fun x => x.pkt.typ == .mladyx).map fun x => x.1.pkt.wing) = some 0 ∧
    startsStream hostUp (.fabric 1) 0 0 = true ∧ serverUp (hostUp.onFabric fun f => { f with inbox := [⟨0, 0, Packet.mgmt .mladyx 1 0 []⟩] }) = true := by decide +kernel

theorem witness_RequestsFromOtherDevices_page : ((takePacket (spanIn .pageReq 0 [0, 0, 0, 0, 9, 0, 0, 0, 3, 0, 0, 0]) fun x =>
      x.pkt.typ == .pageReq).map fun x => ((remoteCtx x.2 x.1.pkt 3).isSome, fieldAt x.1.pkt.data 0 4, fieldAt x.1.pkt.data 4 4,
      fieldAt x.1.pkt.data 8 4, (x.2.image 15 0).quarterPages)) = some (true, 0, 9, 3, 3) ∧
    fieldAt [0, 0, 0, 0, 12, 0, 0, 0, 3, 0, 0, 0] 4 4 = 4 * 3 := by decide +kernel

theorem witness_RequestsFromOtherDevices_draw : ((takePacket (spanIn .creditDraw (31 * 32) []) fun x =>
      x.pkt.typ == .creditDraw && drawReady (spanIn .creditDraw (31 * 32) []) x.pkt).map fun x => drawRoom x.1.pkt) = some 31 ∧
    roomOwner (spanIn .creditDraw (31 * 32) []) 31 = 15 ∧
    handleOk ((spanIn .creditDraw (31 * 32) []).room 31) 31 1 0xF8000000 = true ∧
    handleOk ((spanIn .creditDraw (31 * 32) []).room 31) 31 0 0xF8000000 = true := by decide +kernel

theorem witness_RequestsFromOtherDevices_move : ((takePacket (spanIn .move (0xF8000000 * 64 + 1) (List.replicate 64 1)) fun x =>
      x.pkt.typ == .move && moveReady (spanIn .move (0xF8000000 * 64 + 1) (List.replicate 64 1)) x.pkt).map fun x =>
      (handleRoom (moveHandle x.1.pkt), moveQueue x.1.pkt)) = some (31, 0) := by decide +kernel

/-! AnswersOfOtherDevices -/

/-- Core 31 waits for device 1 with a request of tag 0, and an answer of a type is in the inbox. -/
def answerIn (typ req : PktType) (w : NewelWait) (b : ReqBy) : State :=
  (hostUp.onRoom 31 fun x =>
    { x with newel := { x.newel with wait := w },
             astream := { x.astream with lines := [⟨0, false, false, none, [], false, [], 4, 1⟩] },
             hqs := vset x.hqs 0 { (x.hqs.get 0) with handles := [0xF8000000] } }).onFabric fun f =>
    { f with reqs := [⟨0, b, 1, req, []⟩],
             inbox := [⟨0, 0, { typ := typ, vc := 1, src := 1, dst := 0, wing := 15, span := 7, seq := 0, tag := 0,
                                param := 0, poison := false, data := List.replicate 64 1 }⟩] }

theorem witness_AnswersOfOtherDevices : (takeAnswer (answerIn .rdRsp .rdReq (.load 5 .word 0x800000000000 0) (.newel 31 0))
      .rdRsp (· == .rdReq)).isSome = true ∧
    (takeAnswer (answerIn .wrAck .wrReq .ready (.newel 31 0)) .wrAck (· == .wrReq)).isSome = true ∧
    (takeAnswer (answerIn .atomRsp .atomReq (.farAtom 5 0x800000000000 0) (.newel 31 0)) .atomRsp (· == .atomReq)).isSome = true ∧
    (takeAnswer (answerIn .refuse .rdReq (.load 5 .word 0x800000000000 0) (.newel 31 0)) .refuse fun _ => true).isSome = true ∧
    (0x800000000000#48).getLsbD 47 = true ∧
    (takeAnswer (answerIn .pageData .pageReq .ready (.stream 0 0)) .pageData (· == .pageReq)).isSome = true ∧
    ((answerIn .rdRsp .rdReq .ready (.aLine 31 0)).fabric.reqs.find? fun q => q.tag == 0) = some ⟨0, .aLine 31 0, 1, .rdReq, []⟩ := by
  decide +kernel

theorem witness_AnswersOfOtherDevices_grant : ((takePacket (answerIn .creditGrant .creditDraw .ready (.link 31 0)) fun x =>
      x.pkt.typ == .creditGrant && grantReady (answerIn .creditGrant .creditDraw .ready (.link 31 0)) x.pkt).map fun x =>
      (findReq x.2 x.1.pkt (· == .creditDraw)).map (·.by_)) = some (some (.link 31 0)) ∧
    handleSize 0xF8000000 ≤ handleSize (BitVec.ofNat 32 0) := by decide +kernel

/-! RoomConfiguration -/

/-- Room 31 with range 15 held by task 3, and debug scope 1 for wing 0. -/
def rangeHeld : State := (hostUp.onThr fun t => { t with debugWings := 1, debugScope := 2 }).onRoom 31 fun x =>
  { x with ranges := vset x.ranges 15 ⟨true, 0, 3, 0x700, 0xFF⟩ }

theorem witness_RoomConfiguration : domainUp rangeHeld (storeyDomain 31) = true ∧ ((rangeHeld.room 31).ranges.get 15).held = true ∧
    ((rangeHeld.room 31).ranges.get 15).task = 3 ∧ (rangeHeld.room 31).astream.strm.running = false ∧
    (rangeHeld.room 31).xstream.running = false ∧ ((rangeHeld.room 31).ranges.get 0).held = false ∧
    (∀ p ∈ (rangeHeld.room 31).ranges.toList, groupsMeet p 0 0x700 = false) ∧
    groupsMeet ((rangeHeld.room 31).ranges.get 15) 0x7FF 1 = true ∧ moveInto rangeHeld 31 31 = false ∧
    ((rangeHeld.room 31).hqs.get 31).handles = [] ∧ ((rangeHeld.room 31).hqs.get 31).kind = .off ∧
    (∀ r ∈ gangRooms 3 0x81 0, (rangeHeld.room r).st = .idle ∧ roomOwner rangeHeld r = 0) ∧
    peekAllowed rangeHeld 31 = true ∧ domainUp rangeHeld (7 + (3 : StoreyId).1) = true ∧
    Memory.wf (rangeHeld.room 31).pantry = true ∧ (rangeHeld.room 31).peekData.length = 64 := by decide +kernel

/-! LinksAndWatches -/

/-- Rooms 30 and 31 linked: queue 0 of Room 30 sends to queue 1 of Room 31, whose credits are in queue 2. -/
def linked : State :=
  (hostUp.onRoom 30 fun x =>
    { x with st := .running, waitLimit := 1, ranges := vset x.ranges 0 ⟨true, 0, 0, 0, 0x7FF⟩,
             newel := { x.newel with wait := .blocked .handleQueue },
             hqs := vset (vset x.hqs 0 { (x.hqs.get 0) with kind := .send, handles := [0xF0000000], destRoom := 31, destQ := 1, auxQ := 3 })
               3 { (x.hqs.get 3) with kind := .local } }).onRoom 31 fun x =>
    { x with st := .running, ranges := vset x.ranges 0 ⟨true, 0, 0, 0, 0x7FF⟩,
             newel := { x.newel with wait := .blocked .handleQueue },
             hqs := vset (vset x.hqs 1 { (x.hqs.get 1) with kind := .receive, auxQ := 2 })
               2 { (x.hqs.get 2) with kind := .local, handles := [0xF8000200] } }

theorem witness_LinksAndWatches_start : moveOpen (linked.room 30) = true ∧
    lastStepWaits linked 30 ((linked.room 30).hqs.get 0) = false ∧ linkConfigured linked 30 ((linked.room 30).hqs.get 0) = true ∧
    handleOk (linked.room 30) 30 0 0xF0000000 = true ∧ handleOk (linked.room 30) 30 3 0xF0000000 = true ∧
    handleOk (linked.room 31) 31 2 0xF8000200 = true ∧ handleOk (linked.room 31) 31 1 0xF8000200 = true ∧
    handleSize 0xF0000000 ≤ handleSize 0xF8000200 ∧ ((linked.room 30).hqs.get 0).dev = linked.fabric.devAddr ∧
    roomOwner linked 31 = roomOwner linked 30 := by decide +kernel

theorem witness_LinksAndWatches_stop : roomGoes linked 30 = true ∧ roomGoes linked 31 = true ∧ (linked.room 30).waitLimit ≠ 0 ∧
    limited (newelReason (linked.room 30)) = true ∧ agentsStalled (linked.room 30) = true ∧ agentsStalled (linked.room 31) = true ∧
    showsHandle (linked.room 30) = true ∧ showsHandle (linked.room 31) = true ∧ 30 ∈ roomsOf 3 ∧ 31 ∈ roomsOf 3 ∧
    (linked.room 31).st ≠ .quarantined ∧ domainUp linked (storeyDomain 31) = true ∧
    ((linked.onRoom 31 fun x => { x with st := .halted }).room 31).st = .halted := by decide +kernel

theorem witness_LinksAndWatches_done : (((linked.onRoom 30 fun x => { x with hqs := vmod x.hqs 0 fun k =>
      { k with flight := [⟨0xF0000000, 0xF8000200, 31, 1, 3, none⟩] } }).room 30).hqs.get 0).flight =
      [⟨0xF0000000, 0xF8000200, 31, 1, 3, none⟩] ∧ ((linked.room 30).hqs.get 3).kind ≠ .off ∧
    ((linked.room 31).hqs.get 1).kind ≠ .off ∧ ((linked.room 31).hqs.get 1).handles.length < 32 := by decide +kernel

/-! CellarSlotsAndReads -/

/-- Wing 0's image 0 of 4 pages, one a stack, in block 8 of stack 0, bound as stream 63 to Room 31. -/
def cellarUp : State :=
  ((hostUp.onRoom 31 fun x =>
    { x with ranges := vset x.ranges 0 ⟨true, 0, 0, 0, 0x7FF⟩,
             hqs := vset (vset x.hqs 0 { (x.hqs.get 0) with kind := .local, handles := [0xF8001000] }) 1
               { (x.hqs.get 1) with kind := .local } }).onImage 0 0 fun g =>
    { g with st := .committed, quarterPages := 1, pages := [] }).onCellar fun c =>
    { c with streams := vset c.streams 63
               { CelStream.init with st := .running, room := 31, runPages := 2, runs := 1, freeQ := 0, fullQ := 1, rate := 1 },
             stk := vmod c.stk 0 fun k =>
               { k with recovering := false,
                        blocks := [(8, { Block.fresh with st := .mapped, owner := some (0, 0, 0, 0), programmed := 1 })] } }

theorem witness_CellarSlotsAndReads_slot : cellarRuns cellarUp 0 = true ∧ slotClass (cellarUp.stack 0).slot = .read ∧
    (slotOwner cellarUp 0).1 = 0 ∧ smallestTtd cellarUp (eligible cellarUp 0 (· == 0)) = some 63 ∧
    streamPage cellarUp 0 63 = some (8, 0) ∧ (∀ m, (cellarUp.cellar.streams.get m).remote = false) ∧
    pageHandleOk cellarUp 63 0xF8001000 = true := by decide +kernel

/-- The page is in flight. -/
def pageFlying : State := cellarUp.onStream 63 fun x => { x with flight := [⟨0, 0, 0xF8001000, some 8, 0, false⟩] }

theorem witness_CellarSlotsAndReads_land : cellarRuns pageFlying 0 = true ∧
    findRead pageFlying 0 (.stream 63 0) = some ⟨8, 0, 0, false⟩ ∧
    flightPage pageFlying 0 63 0 = some ⟨0, 0, 0xF8001000, some 8, 0, false⟩ ∧
    (pageFlying.stack 0).lostDies.contains (dieOf 0) = false ∧ keyFilled pageFlying (cellarSlot 0) = true ∧
    Memory.wf (pageFlying.room 31).pantry = true ∧ (pageFlying.cellar.streams.get 63).landed = [] ∧
    ((pageFlying.room 31).hqs.get 1).kind ≠ .off := by decide +kernel

theorem witness_CellarSlotsAndReads_data : ((cellarUp.image 0 0).pageData 0).length = 16384 := by
  have h : (cellarUp.image 0 0).pages = [] := by decide +kernel
  unfold Image.pageData
  rw [h]
  exact List.length_replicate

/-- A relocation read of block 8 at a step. -/
def workRead (step : Nat) (re : Bool) : State := cellarUp.onStack 0 fun k =>
  { k with reads := [⟨8, 0, .reloc, step, re⟩], dieMisses := Vector.replicate 9 2 }

theorem witness_CellarSlotsAndReads_work : findRead (workRead 0 false) 0 (.work 8 0) = some ⟨8, 0, 0, false⟩ ∧
    findRead (workRead 5 false) 0 (.work 8 0) = some ⟨8, 0, 5, false⟩ ∧ canRebuild ((workRead 5 false).stack 0) (dieOf 0) = true ∧
    findRead (workRead 5 true) 0 (.work 8 0) = some ⟨8, 0, 5, true⟩ ∧ cellarRuns (workRead 5 true) 0 = true ∧
    2 ≤ ((workRead 5 true).stack 0).dieMisses.get 8 ∧ ((workRead 5 true).stack 0).lostDies = [] ∧
    (workRead 5 true).sys.clkRunning.getLsbD 6 = true ∧ ((workRead 5 true).cellar.streams.get 63).st ≠ .free := by decide +kernel

/-! CellarProgramsAndUpkeep -/

/-- Stack 0 with a program under way, block 8 queued for relocation and a snapshot to write. -/
def upkeep (job : Option (WingId × Nat)) (r : Option Reloc) : State := cellarUp.onStack 0 fun k =>
  { k with progs := [⟨9, 1535, job, (0, 0), 1, []⟩], queue := [(8, .wear)], reloc := r, snapPending := true, periodH := 0 }

theorem witness_CellarProgramsAndUpkeep : (((upkeep (some (0, 0)) none).stack 0).progs.find? fun g => g.block == 9 && g.pos == 1535) =
      some ⟨9, 1535, some (0, 0), (0, 0), 1, []⟩ ∧
    (((upkeep none (some ⟨8, 9, .wear, [], [], false⟩)).stack 0).reloc).isSome = true ∧ cellarRuns (upkeep none none) 0 = true ∧
    nextReloc ((upkeep none none).stack 0) = some (8, .wear) ∧ ((upkeep none none).stack 0).reloc = none ∧
    ((upkeep none none).stack 0).st ≠ .failed ∧ ((upkeep none none).stack 0).snapPending = true ∧
    ((upkeep none none).stack 0).lastPass + ((upkeep none none).stack 0).periodH.toNat * 3600000000 ≤
      poweredUs (upkeep none none) ((upkeep none none).stack 0) ∧ ((upkeep none none).stack 0).scrubActive = false ∧
    domainUp (upkeep none none) 6 = true := by decide +kernel

/-- Block 8 to be erased, or being erased. -/
def erasable (e : Bool) : State := cellarUp.onStack 0 fun k =>
  { k with blocks := [(8, { Block.fresh with st := .toErase, erasing := e, pe := 9999 })] }

theorem witness_CellarProgramsAndUpkeep_erase : ((erasable false).stack 0).block 8 =
      { Block.fresh with st := .toErase, pe := 9999 } ∧ (((erasable true).stack 0).block 8).erasing = true ∧
    (((erasable true).stack 0).block 8).pe.toNat < 10000 ∧ cellarRuns (erasable true) 0 = true := by decide +kernel

theorem witness_CellarProgramsAndUpkeep_worn : (mostWorn (upkeep none none) ((upkeep none none).stack 0)).isSome = true := by
  decide +kernel

/-! NewelArithmetic -/

/-- A Room's Newel 0 at a word of its program, in a Room that runs. -/
def newelAt (w : W32) (f : Newel → Newel) : State :=
  hostUp.onRoom 0 fun x =>
    { x with st := .running, held := false, zeroing := false,
             newel := f { x.newel with wait := .ready, pc := 0, imem := zwrite [] 0 (leBytes 4 w.toNat) } }

theorem witness_NewelArithmetic_add : (newelAt 0x01CE8800 id).atWord 0 .add 0x01CE8800 := by decide +kernel

theorem witness_NewelArithmetic_div :
    (newelAt 0x01CE8814 id).atWord 0 .div 0x01CE8814 ∧ (newelAt 0x01CE8814 id).reg 0 17 = 0 := by decide +kernel

theorem witness_NewelArithmetic_addi : (newelAt 0x05D80010 id).atWord 0 .addi 0x05D80010 := by decide +kernel

/-! NewelLoadsAndStores -/

theorem witness_NewelLoadsAndStores_load :
    (newelAt 0x41D80010 id).atWord 0 .ldw 0x41D80010 ∧
      ((newelAt 0x41D80010 id).reg 0 (nRs1 0x41D80010) + (nImm 0x41D80010).signExtend 32).toNat = 16 := by decide +kernel

/-- Newel 0 holds the address of byte 0 of wing 0's Larder in z1, through segment 0. -/
def larderAt (w : W32) : State :=
  (newelAt w fun n => { n with globals := vset n.globals 1 0x80000000, segs := vset n.segs 0 1 }).onLarder fun l =>
    { l with caches := vmod l.caches 0 fun q => cachePut q { line := 0, st := .m, data := List.replicate 64 7, poison := false } }

theorem witness_NewelLoadsAndStores_trap :
    (newelAt 0x41D80011 id).atWord 0 .ldw 0x41D80011 ∧
      coreTarget (newelAt 0x41D80011 id) 0 false 0x9000 4 = .bad 0x0701 := by decide +kernel

/-! NewelTaggedAndAtomicAccess -/

theorem witness_NewelTaggedAndAtomicAccess_NewelTaggedAccess :
    let s := (newelAt 0x60210000 fun n => { n with globals := vset n.globals 1 0x100000 }).onRoom 0 fun x =>
      { x with winLen := 1 }
    s.atWord 0 .ldfk 0x60210000 ∧ windowAddr (s.room 0) 0 4 = some 0 := by decide +kernel

theorem witness_NewelTaggedAndAtomicAccess_NewelAtomics_near :
    (larderAt 0x70611010).atWord 0 .atomAdd 0x70611010 ∧ coreMap (larderAt 0x70611010) 0 0x80000000 4 = .dev 0 (.larder 0) ∧
      localRefuse (larderAt 0x70611010) 0 false true (.larder 0) 4 = 0 ∧ placeFar (larderAt 0x70611010) 0 1 0 = false ∧
      (larderAt 0x70611010).reg 0 (nRs1 0x70611010) = 0x80000000 := by decide +kernel

/-! NewelBranchesAndFrames -/

theorem witness_NewelBranchesAndFrames_branch : (newelAt 0x8600FFFD id).atWord 0 .bne 0x8600FFFD := by decide +kernel

theorem witness_NewelBranchesAndFrames_call :
    (newelAt 0xA4000040 id).atWord 0 .call 0xA4000040 ∧ jumpOk (newelAt 0xA4000040 id) 0 0x100 = true ∧
      (coreNewel (newelAt 0xA4000040 id) 0).res = 0 := by decide +kernel

theorem witness_NewelBranchesAndFrames_spill :
    let s := newelAt 0xC000000B fun n => { n with tm := true, res := 3, wsp := 0x1000 }
    s.atWord 0 .spill 0xC000000B := by decide +kernel

theorem witness_NewelBranchesAndFrames_fill :
    let s := newelAt 0xC000000C fun n => { n with tm := true, res := 3, wsp := 0x1040 }
    s.atWord 0 .fill 0xC000000C ∧ ((coreNewel s 0).wsp - 64).toNat % 64 = 0 := by decide +kernel

/-! NewelSystemInstructions -/

theorem witness_NewelSystemInstructions_rett :
    let s := newelAt 0xC0000003 fun n => { n with tm := true, tpsr := 0x4000 }
    s.atWord 0 .rett 0xC0000003 := by decide +kernel

theorem witness_NewelSystemInstructions_brk :
    let s := newelAt 0xC0000007 id
    s.atWord 0 .brk 0xC0000007 ∧ debugHalts s 0 = false := by decide +kernel

theorem witness_NewelSystemInstructions_stra :
    let s := newelAt 0xC0010010 id
    s.atWord 0 .stra 0xC0010010 ∧ (s.room 0).astream.strm.running = false := by decide +kernel

theorem witness_NewelSystemInstructions_interrupt :
    let s := newelAt 0xC0000008 fun n => { n with ie := true, ien := 1, pendPhase := true }
    issues s 0 = true ∧ irqDue s 0 = some 0 ∧ trapsFirst (nextDid s 0).2 = false := by decide +kernel

/-! EndOfTheRoomProgram -/

theorem witness_EndOfTheRoomProgram :
    let s := newelAt 0xC0000004 fun n => { n with tm := true }
    coreRoom 0 = some 0 ∧ s.atWord 0 .newelEnd 0xC0000004 ∧ streamsRun (s.room 0) = false ∧ runJobOf s 0 = none := by decide +kernel

/-! NewelStatusAndQueueInstructions -/

theorem witness_NewelStatusAndQueueInstructions_NewelStatusRegisters_rds : (newelAt 0xC5C00014 id).atWord 0 .rds 0xC5C00014 ∧ nImm 0xC5C00014 = 0x14 := by decide +kernel

theorem witness_NewelStatusAndQueueInstructions_NewelStatusRegisters_wrs :
    (newelAt 0xC8010014 id).atWord 0 .wrs 0xC8010014 ∧ (newelAt 0xC8010014 id).reg 0 (nRs1 0xC8010014) &&& 0x3F = 0 := by
  decide +kernel

theorem witness_NewelStatusAndQueueInstructions_NewelQueueInstructions_push : coreRoom 0 = some 0 ∧ (newelAt 0xD00E7888 id).atWord 0 .pusha 0xD00E7888 := by
  decide +kernel

theorem witness_NewelStatusAndQueueInstructions_NewelQueueInstructions_pop :
    let s := (newelAt 0xD1C00002 id).onRoom 0 fun x =>
      { x with queues := vset x.queues 5 { DataQ.init with entries := [(5, 0)] } }
    s.atWord 0 .popn 0xD1C00002 ∧ ((s.room 0).queues.get 5).entries = [(5, 0)] := by decide +kernel

/-! AStreamCommands -/

/-- Room 0 runs with its A-stream at a command word. -/
def aStreamAt (w : Nat) (f : Room → Room) : State :=
  (newelAt 0 id).onRoom 0 fun x =>
    f { x with astream := { x.astream with strm := { x.astream.strm with running := true, mem := zwrite [] 0 (leBytes 8 w) } } }

theorem witness_AStreamCommands_adda : (aStreamAt (4 * 2 ^ 58 + 64) id).atCommand 0 4 (4 * 2 ^ 58 + 64) := by decide +kernel

theorem witness_AStreamCommands_popa :
    let s := aStreamAt (3 * 2 ^ 58) fun x => x.pushed 0 5 0
    s.atCommand 0 3 (3 * 2 ^ 58) ∧ ((s.room 0).queues.get 0).entries = [(5, 0)] := by decide +kernel

theorem witness_AStreamCommands_qpush : (aStreamAt (5 * 2 ^ 58 + 2 ^ 41 + 7) id).atCommand 0 5 (5 * 2 ^ 58 + 2 ^ 41 + 7) := by
  decide +kernel

theorem witness_AStreamCommands_skip : (aStreamAt (17 * 2 ^ 58 + 3) id).atCommand 0 17 (17 * 2 ^ 58 + 3) := by decide +kernel

theorem witness_AStreamCommands_loop :
    (aStreamAt (16 * 2 ^ 58 + 2 ^ 32 + 3) id).atCommand 0 16 (16 * 2 ^ 58 + 2 ^ 32 + 3) := by decide +kernel

/-! PhaseTargets -/

theorem witness_PhaseTargets_comparator :
    phaseRuns (cmpAt10 0) = true ∧ ((cmpAt10 0).phase.cmps.get 63).held = true ∧ ((cmpAt10 0).phase.cmps.get 63).arm = true ∧
      wingFrozen (cmpAt10 0) ((cmpAt10 0).phase.cmps.get 63).wing = false ∧ ((cmpAt10 0).phase.cmps.get 63).fired = false := by
  decide +kernel

theorem witness_PhaseTargets_waitph :
    let s := aStreamAt 0 fun x => roomStrm x .a fun t => { t with wait := .waitph 0 }
    roomGoes s 0 = true ∧ (strmOf (s.room 0) .a).running = true ∧ (strmOf (s.room 0) .a).wait = .waitph 0 := by decide +kernel

/-! AStreamGeneratorsAndBinding -/

theorem witness_AStreamGeneratorsAndBinding_gload :
    let s := aStreamAt (8 * 2 ^ 58) fun x => { x with winLen := 1, pantry := zwrite [] 32 [1, 1, 1, 1] }
    s.atCommand 0 8 (8 * 2 ^ 58) ∧ windowAddr (s.room 0) 0 64 = some 0 ∧
      (parseGen (zread (s.room 0).pantry 0 64)).isSome = true ∧ (genOf s 0 .a 0).hold = .none := by decide +kernel

theorem witness_AStreamGeneratorsAndBinding_hrecv :
    let s := onGen (aStreamAt (26 * 2 ^ 58) fun x => { x with
      hqs := vmod x.hqs 0 fun q => { q with kind := .local, handles := [7] } }) 0 .a 0 fun g => { g with loaded := true }
    s.atCommand 0 26 (26 * 2 ^ 58) ∧ (genOf s 0 .a 0).loaded = true ∧ (genOf s 0 .a 0).hold = .none ∧
      ((s.room 0).hqs.get 0).handles = [7] := by decide +kernel

theorem witness_AStreamGeneratorsAndBinding_unbind :
    let s := aStreamAt (25 * 2 ^ 58) fun x => { x with
      astream := { x.astream with bind := vset x.astream.bind 0 (some 3) } }
    s.atCommand 0 25 (25 * 2 ^ 58) ∧ (s.room 0).astream.bind.get 0 = some 3 := by decide +kernel

/-! StreamWaitsAndLines -/

theorem witness_StreamWaitsAndLines_waitph :
    let s := aStreamAt (32 * 2 ^ 58 + 2 ^ 45 + 5) id
    s.atCommand 0 32 (32 * 2 ^ 58 + 2 ^ 45 + 5) := by decide +kernel

theorem witness_StreamWaitsAndLines_end :
    let s := aStreamAt (63 * 2 ^ 58) id
    s.atCommand 0 63 (63 * 2 ^ 58) ∧ (s.room 0).astream.lines = [] := by decide +kernel

theorem witness_StreamWaitsAndLines_rendezvous :
    let s := aStreamAt 0 fun x => roomStrm (roomStrm x .a fun t => { t with wait := .rdv 1 }) .x fun t =>
      { t with wait := .rdv 1 }
    roomGoes s 0 = true ∧ (s.room 0).astream.strm.wait = .rdv 1 ∧ (s.room 0).xstream.wait = .rdv 1 := by decide +kernel

/-! XStreamControl -/

/-- Room 0 runs with its X-stream at a long word of these bytes. -/
def xStreamAt (bs : List Byte) (f : Room → Room) : State :=
  (newelAt 0 id).onRoom 0 fun x => f { x with xstream := { x.xstream with running := true, mem := zwrite [] 0 bs } }

theorem witness_XStreamControl_loop :
    let s := xStreamAt [8, 0, 0x10, 0, 1, 0x10] id
    s.atLong 0 (xDecode (s.room 0).xstream.mem 0) ∧ (xDecode (s.room 0).xstream.mem 0).c = some 0x10010010 ∧
      (xDecode (s.room 0).xstream.mem 0).h = none := by decide +kernel

theorem witness_XStreamControl_empty :
    let s := xStreamAt [0, 0] id
    s.atLong 0 (xDecode (s.room 0).xstream.mem 0) ∧ (xDecode (s.room 0).xstream.mem 0).c = none := by decide +kernel

theorem witness_XStreamControl_end :
    let s := xStreamAt [8, 0, 0, 0, 0, 0xB0] id
    s.atLong 0 (xDecode (s.room 0).xstream.mem 0) ∧ (xDecode (s.room 0).xstream.mem 0).c = some 0xB0000000 ∧
      (s.room 0).compute.hearth = [] := by decide +kernel

/-! XStreamOperations -/

/-- A generator loaded at the start of the window. -/
def plainGen : Gen := { Gen.init with loaded := true, h := 1, w := 1 }

/-- Room 0 runs with its X-stream at a long word, a window of a range and four plain generators. -/
def unitsAt (bs : List Byte) : State :=
  xStreamAt bs fun x => { x with winLen := 8, xstream := { x.xstream with gens := Vector.replicate 4 plainGen } }

theorem witness_XStreamOperations_mma :
    let s := unitsAt [0x01, 0x00, 0x00, 0x72, 0x04, 0x10]
    let x := xDecode (s.room 0).xstream.mem 0
    s.atLong 0 x ∧ x.h = some 0x10047200 ∧ x.s = none ∧ x.c = none ∧ unitsFree (s.room 0).compute x = true ∧
      configFault (s.room 0).xstream (s.room 0).compute.cfg x = false := by decide +kernel

theorem witness_XStreamOperations_add :
    let s := unitsAt [0x02, 0x00, 0x00, 0x00, 0x40, 0x40]
    let x := xDecode (s.room 0).xstream.mem 0
    s.atLong 0 x ∧ x.s = some 0x40400000 ∧ sKind 0x40 = some .elem ∧ unitsFree (s.room 0).compute x = true := by decide +kernel

theorem witness_XStreamOperations_copy :
    let s := unitsAt [0x04, 0x00, 0x00, 0x00, 0x00, 0x01]
    let x := xDecode (s.room 0).xstream.mem 0
    s.atLong 0 x ∧ x.m = some 0x01000000 ∧ bitsOf 0x01000000 31 28 = 0 := by decide +kernel

/-! MatrixMultiplyExact -/

theorem witness_MatrixMultiplyExact :
    let c := { Compute.init with accType := .int }
    c.accType = .int ∧ (slotOf 0x10147200).op = 0x10 ∧ (slotOf 0x10147200).fmt = 1 := by decide +kernel

/-! CollectiveGroups -/

/-- A device in a fabric of 4 × 4 × 4 at the origin. -/
def inFabric : State := hostUp.onFabric fun f =>
  { f with torus := 0x333, censusSt := .done,
           census := ((List.range 4).map fun x => (List.range 4).map fun y => BitVec.ofNat 12 (256 * x + 16 * y)).flatten }

theorem witness_CollectiveGroups :
    groupEn 0xA310_0310_00A3_0000 = true ∧ (0xA310_0310_00A3_0000 : W64) &&& groupReserved = 0 ∧
      groupFieldsOk inFabric 0xA310_0310_00A3_0000 = true ∧ inFabric.host.ready = true ∧ domainUp inFabric 3 = true := by
  decide +kernel

theorem witness_CollectiveGroups_rank : blockRank 4 2 2 0 = 2 ∧ blockRank 4 2 1 1 = 6 := by decide +kernel

/-! CollectivesOfTheStairwell -/

/-- A device whose context 0 has been granted nothing, with a GRANT of its successor in the inbox. -/
def grantIn : State :=
  let c : Ctx := { Ctx.free with st := .starting, n := 2, succ := 1, pred := 1, sendLeft := 4, recvLeft := 4 }
  let f : List Byte := grantFlit c
  ((hostUp.onStair fun t => { t with ctxs := vset t.ctxs 0 c }).onWing 0 fun x => { x with st := .run, flags := 2 }).onFabric fun b =>
    { b with inbox := [⟨0, 0, { Packet.mgmt .chunk 1 0 f with span := (hostUp.wing 0).spanId }⟩] }

theorem witness_CollectivesOfTheStairwell_CollectivesAndTheirPackets_grant :
    ((takePacket grantIn (grantIn.grantDue 1)).any fun p => spanTest p.2 p.1.pkt && ctxFor p.2 p.1.pkt true == some 0 &&
      grantAgrees (p.2.stair.ctxs.get 0) p.1.pkt.data) = true ∧ (grantIn.stair.ctxs.get 0).sendLeft = 4 := by decide +kernel

/-- A running context 0 with one chunk ready. -/
def sendingIn : State := hostUp.onStair fun t => { t with ctxs := vset t.ctxs 0 { Ctx.free with
  st := .running, n := 2, window := 32, sendLeft := 4, ready := [⟨⟨0, true, 0, 0⟩, 0, [], 0, 0, 0, none⟩] } }

theorem witness_CollectivesOfTheStairwell_CollectivesAndTheirPackets_send :
    stairHolds sendingIn 0 = false ∧ (firstReady (sendingIn.stair.ctxs.get 0)).isSome = true ∧
      firstLocal (sendingIn.stair.ctxs.get 0) = none := by decide +kernel

theorem witness_CollectivesOfTheStairwell_CollectiveTimeoutsAndAborts :
    ctxStuck grantIn (grantIn.stair.ctxs.get 0) = true ∧ (grantIn.stair.ctxs.get 0).st = .starting ∧
      stairHolds grantIn 0 = false := by decide +kernel

/-- A device with a COLL_ABORT of collective 0 in its inbox. -/
def abortIn : State := grantIn.onFabric fun b =>
  { b with inbox := [⟨0, 0, { Packet.mgmt .collAbort 1 0 (abortFlit (grantIn.stair.ctxs.get 0) 0x0C07 1) with
                                span := (hostUp.wing 0).spanId }⟩] }

theorem witness_CollectivesOfTheStairwell_CollectiveTimeoutsAndAborts_abort :
    ((takePacket abortIn abortIn.abortDue).any fun p =>
      spanTest p.2 { p.1.pkt with wing := (abortOf p.1.pkt).wing }) = true := by decide +kernel

/-! PorchRequestsAndReads -/

/-- A sensor stream without a list: SPI chip select 0 of port 0, buffers in page 4, a ring of 16 records. -/
def sensorSource : List Byte := [3, 0, 0, 0, 8, 0, 0, 4, 0x40, 0, 0, 0] ++ List.replicate 4 0

/-- A stream record with SOURCE, its buffers at page 4, LIST, and a ring of 16 records at offset 0. -/
def streamRecord (source list : List Byte) : List Byte :=
  [1] ++ List.replicate 7 0 ++ source ++ [0, 0, 4, 0, 4, 0, 1, 0] ++ list ++ List.replicate 12 0 ++ [4] ++ List.replicate 15 0

def noList : List Byte := [0xFF, 0xFF, 0xFF, 0xFF]

/-- Wing 0 asks the Porch with a record; it holds page 4 and the sensor stream 2. -/
def porchAsk (r : List Byte) (f : Porch → Porch) : State :=
  { hostUp with porch := f { Porch.init with
      arrivals := [0],
      pages := vset Porch.init.pages 4 ⟨true, 0, false⟩,
      streams := vset Porch.init.streams 2 { PStream.init with
        st := .claimed, kind := 3, record := streamRecord sensorSource noList },
      mailboxes := vmod Porch.init.mailboxes 0 fun m => { m with request := r, busy := true } } }

theorem witness_PorchRequestsAndReads_PorchRequests_claim :
    let s := porchAsk (streamRecord (sensorSource.set 5 1) noList) id
    s.porchAsks 0 1 ∧ (claimCheck s 0 (porchRequest s 0)).toOption = some 0 := by decide +kernel

theorem witness_PorchRequestsAndReads_PorchRequests_claimRefused :
    let s := porchAsk (streamRecord (sensorSource.set 8 0) noList) id
    s.porchAsks 0 1 ∧ (match claimCheck s 0 (porchRequest s 0) with | .ok _ => 0 | .error c => c) = (0x0D01 : Cond) := by decide +kernel

theorem witness_PorchRequestsAndReads_PorchRequests_release :
    let s := porchAsk [2, 2] id
    s.porchAsks 0 2 ∧ ownStream s 0 (porchRequest s 0) = some 2 := by decide +kernel

theorem witness_PorchRequestsAndReads_PorchRequests_start :
    let s := porchAsk [3, 2] id
    s.porchAsks 0 3 ∧ ownStream s 0 (porchRequest s 0) = some 2 ∧ (s.porch.streams.get 2).st = .claimed ∧ (s.wing 0).st ≠ .populate ∧ (s.wing 0).st ≠ .freezing ∧ (s.wing 0).st ≠ .frozen := by
  decide +kernel

theorem witness_PorchRequestsAndReads_PorchRequests_startHeld :
    let s := (porchAsk [3, 2] id).onWings fun v => vmod v 0 fun x => { x with st := .populate }
    s.porchAsks 0 3 ∧ ownStream s 0 (porchRequest s 0) = some 2 ∧ (s.wing 0).st = .populate := by decide +kernel

theorem witness_PorchRequestsAndReads_PorchRequests_stop :
    let s := porchAsk [4, 2] id
    s.porchAsks 0 4 ∧ ownStream s 0 (porchRequest s 0) = some 2 := by decide +kernel

theorem witness_PorchRequestsAndReads_PorchRequests_pages :
    let s := porchAsk [5, 0, 0, 0, 5, 2] id
    s.porchAsks 0 5 ∧ pageRange (porchRequest s 0) = some (5, 2) ∧
      ((porchPages (5, 2)).any fun g => (s.porch.pages.get g).held || (s.porch.pages.get g).zeroing) = false := by decide +kernel

theorem witness_PorchRequestsAndReads_PorchRequests_pagesHeld :
    let s := porchAsk [5, 0, 0, 0, 4, 2] id
    s.porchAsks 0 5 ∧ pageRange (porchRequest s 0) = some (4, 2) ∧
      ((porchPages (4, 2)).any fun g => (s.porch.pages.get g).held || (s.porch.pages.get g).zeroing) = true := by decide +kernel

theorem witness_PorchRequestsAndReads_PorchRequests_pagesOutside :
    let s := porchAsk [5, 0, 0, 0, 3, 2] id
    s.porchAsks 0 5 ∧ pageRange (porchRequest s 0) = none := by decide +kernel

theorem witness_PorchRequestsAndReads_PorchRequests_releasePages :
    let s := porchAsk [6, 0, 0, 0, 4, 1] id
    s.porchAsks 0 6 ∧ pageRange (porchRequest s 0) = some (4, 1) ∧ ((porchPages (4, 1)).all fun g => holdsPage s 0 g.1) = true ∧
      ((porchPages (4, 1)).any fun g => pageInUse s 0 g) = false := by decide +kernel

theorem witness_PorchRequestsAndReads_PorchRequests_zeroed :
    ((porchAsk [] fun p => { p with pages := vset p.pages 4 ⟨false, 0, true⟩ }).porch.pages.get 4).zeroing = true := by decide +kernel

theorem witness_PorchRequestsAndReads_PorchRequests_parlour :
    let s := porchAsk ([7, 0, 0, 0, 0, 0, 4, 0, 0xFF] ++ List.replicate 39 0 ++ [4]) id
    s.porchAsks 0 7 ∧ ringFieldsOk (porchRequest s 0) = true ∧ fieldAt (porchRequest s 0) 8 1 = 0xFF ∧ s.porch.parlour.st = .free ∧
      fieldAt (porchRequest s 0) 4 4 % 65536 = 0 ∧ holdsPage s 0 (fieldAt (porchRequest s 0) 4 4 / 65536) = true ∧
      wingRange s 0 (srRing (porchRequest s 0)) (32 * 2 ^ srRingLog (porchRequest s 0)) = true := by decide +kernel

/-- The Parlour context is wing 0's, its window page 4. -/
def parlourHeld (p : Porch) : Porch := { p with parlour := { Parlour.init with st := .claimed, base := 4 } }

theorem witness_PorchRequestsAndReads_PorchRequests_parlourRun :
    let s := porchAsk [9, 0, 0, 0, 0, 1] parlourHeld
    ownsParlour s 0 = true ∧ s.porchAsks 0 9 ∧ fieldAt (porchRequest s 0) 4 2 % 2 = 0 ∧ (s.wing 0).st ≠ .populate ∧ (s.wing 0).st ≠ .freezing ∧ (s.wing 0).st ≠ .frozen ∧
      s.porch.parlour.st = .claimed := by decide +kernel

theorem witness_PorchRequestsAndReads_PorchRequests_parlourEnds :
    (porchAsk [8] parlourHeld).porchAsks 0 8 ∧ (porchAsk [10] parlourHeld).porchAsks 0 10 ∧
      ownsParlour (porchAsk [8] parlourHeld) 0 = true ∧ ownsParlour (porchAsk [10] parlourHeld) 0 = true := by decide +kernel

theorem witness_PorchRequestsAndReads_PorchReadsOfOwner :
    let s := porchAsk [] fun p => { parlourHeld p with
      streams := vmod p.streams 2 fun x => { x with owner := 1 } }
    s.porch.parlour.st ≠ .free ∧ (s.porch.streams.get 2).st ≠ .free ∧ (s.porch.streams.get 2).owner = 1 ∧
      (s.porch.streams.get 2).owner ≠ 3 ∧ s.porch.parlour.owner = 0 := by decide +kernel

/-! PorchCapture -/

/-- CSI-2, one lane, VC 0, RAW10, 8 pixels by 2 lines. -/
def cameraSource : List Byte := [1, 0, 1, 0, 0x2B, 0, 8, 0, 2, 0, 0] ++ List.replicate 5 0

/-- Stream 2 runs with a record and a frame in progress, and port 0 has a header. -/
def capturing (source : List Byte) (kind : Byte) (c : Option Capture) (h : Option CsiHeader) : State :=
  porchAsk [] fun p => { p with
    csi := vset p.csi 0 ⟨true, 0⟩, headers := vset p.headers 0 h,
    streams := vset p.streams 2 { PStream.init with
      st := .running, kind := kind, record := streamRecord source [0, 0, 4, 0], capture := c } }

theorem witness_PorchCapture_CameraFrames_burst : ((capturing cameraSource 1 none none).porch.csi.get 0).held = true := by decide +kernel

theorem witness_PorchCapture_CameraFrames_start :
    let s := capturing cameraSource 1 none (some ⟨0, 0, 0⟩)
    s.porch.headers.get 0 = some ⟨0, 0, 0⟩ ∧ csiStream s 0 0 = some 2 ∧ (s.porch.streams.get 2).capture = none ∧
      (s.porch.streams.get 2).starts % 2 ^ srDecim (s.porch.streams.get 2).record = 0 := by decide +kernel

theorem witness_PorchCapture_CameraFrames_kept :
    let s := capturing ((cameraSource).set 10 1) 1 none (some ⟨0, 0, 0⟩)
    let t := s.onPStream 2 fun x => { x with starts := 1 }
    csiStream t 0 0 = some 2 ∧ (t.porch.streams.get 2).starts % 2 ^ srDecim (t.porch.streams.get 2).record ≠ 0 := by decide +kernel

theorem witness_PorchCapture_CameraFrames_missing :
    let s := capturing cameraSource 1 (some ⟨5, 1, false⟩) (some ⟨0, 0, 0⟩)
    csiStream s 0 0 = some 2 ∧ (s.porch.streams.get 2).capture ≠ none ∧ (s.porch.streams.get 2).unread = [] := by decide +kernel

theorem witness_PorchCapture_CameraFrames_line :
    let s := capturing cameraSource 1 (some ⟨5, 1, false⟩) (some ⟨0, 0x2B, 10⟩)
    let r := (s.porch.streams.get 2).record
    csiStream s 0 0 = some 2 ∧ 2 ≤ (0x2B : Byte).toNat ∧ (0x2B : Byte).toNat = srDt r ∧ (10 : W16).toNat = lineWire r ∧
      (List.replicate 10 (0 : Byte)).length = lineWire r ∧ 1 < srHeight r := by decide +kernel

theorem witness_PorchCapture_CameraFrames_end :
    let s := capturing cameraSource 1 (some ⟨5, 2, false⟩) (some ⟨0, 1, 0⟩)
    csiStream s 0 0 = some 2 ∧ 2 = srHeight (s.porch.streams.get 2).record ∧ srRaw (s.porch.streams.get 2).record = false := by
  decide +kernel

/-- TDM port 0: 2 slots of 16 bits, 16 bits a sample, both slots, 16 kHz, 4 samples a frame. -/
def tdmSource : List Byte := [2, 0, 0, 2, 16, 16, 3, 0, 0x80, 0x3E, 0, 0, 0, 0, 4, 0]

theorem witness_PorchCapture_SampledFrames_tdm :
    let s := capturing tdmSource 2 (some ⟨5, 1, false⟩) none
    let x := s.porch.streams.get 2
    (∀ j, ((s.porch.streams.get j).st = .running ∧ (s.porch.streams.get j).kind = 2 ∧
      srPort (s.porch.streams.get j).record = (0 : Fin 4).1) ↔ j = 2) ∧ x.capture = some ⟨5, 1, false⟩ ∧
      1 + 1 < srSamples x.record := by decide +kernel

theorem witness_PorchCapture_SampledFrames_sensor :
    let s := capturing sensorSource 3 (some ⟨5, 0, false⟩) none
    (s.porch.streams.get 2).st = .running ∧ (s.porch.streams.get 2).kind = 3 ∧ (s.porch.streams.get 2).capture.isSome = true ∧
      srRaw (s.porch.streams.get 2).record = false := by decide +kernel

theorem witness_PorchCapture_SampledFrames_period :
    let s := capturing sensorSource 3 none none
    let t := s.onPhase fun p => { p with st := .locked }
    (t.porch.streams.get 2).st = .running ∧ (t.porch.streams.get 2).capture = none ∧ phaseRuns t = true ∧
      t.phase.time.toNat % max 1 (srPeriod (t.porch.streams.get 2).record) = 0 ∧ (t.porch.streams.get 2).unread = [] := by
  decide +kernel

/-! NativeOperators -/

/-- Stream 2's list is at a command in page 4; page 5 is held too. -/
def listAt (bs : List Byte) (f : PStream → PStream) : State :=
  porchAsk [] fun p => { p with
    queue := [.stream 2], sram := zwrite [] 0x40000 bs, pages := vset p.pages 5 ⟨true, 0, false⟩,
    streams := vset p.streams 2 (f { PStream.init with
      st := .running, kind := 1, record := streamRecord cameraSource [0, 0, 4, 0], listOn := true, pc := 0x40000 }) }

/-- A native command over one unit: IN 0x40100, WT 0x40200, BIAS 0x40300, OUT 0x40400, 1 × 1, 16 in and out, MULT 1. -/
def nativeBytes (op : Byte) : List Byte :=
  [op, 0, 0, 0, 0, 1, 4, 0, 0, 2, 4, 0, 0, 3, 4, 0, 0, 4, 4, 0, 1, 0, 1, 0, 16, 0, 16, 0, 1, 0, 0, 0]

theorem witness_NativeOperators_map :
    (∀ op ∈ ([1, 2, 3, 4, 5, 8] : List Byte), (listAt (nativeBytes op) id).engineAt 2 (NCmd.of (nativeBytes op)) ∧
      (NCmd.of (nativeBytes op)).ok = true ∧ (NCmd.of (nativeBytes op)).op = op.toNat) ∧
    let s := listAt (nativeBytes 1) id
    let c := NCmd.of (nativeBytes 1)
    rangesHeld s 0 (convRanges c.shape c.addr) = true ∧ rangesHeld s 0 (poolRanges c.shape c.addr) = true ∧
      rangesHeld s 0 [(c.a, 16), (c.wt, 16), (c.out, 16)] = true ∧ 0 < c.cin := by decide +kernel

theorem witness_NativeOperators_outside :
    let s := listAt ((nativeBytes 1).set 6 6) id
    let c := NCmd.of ((nativeBytes 1).set 6 6)
    s.engineAt 2 c ∧ c.ok = true ∧ rangesHeld s 0 (convRanges c.shape c.addr) = false := by decide +kernel

theorem witness_NativeOperators_fault :
    (listAt ((nativeBytes 1).set 31 1) id).engineAt 2 (NCmd.of ((nativeBytes 1).set 31 1)) ∧
      (NCmd.of ((nativeBytes 1).set 31 1)).ok = false := by decide +kernel

theorem witness_NativeOperators_copy :
    let b := (nativeBytes 7).set 9 0 |>.set 10 0 |>.set 8 32
    (listAt b id).engineAt 2 (NCmd.of b) ∧ (NCmd.of b).ok = true ∧ (NCmd.of b).op = 7 ∧ (NCmd.of b).wt = 32 ∧
      rangesHeld (listAt b id) 0 [((NCmd.of b).a, (NCmd.of b).wt), ((NCmd.of b).out, (NCmd.of b).wt)] = true := by decide +kernel

theorem witness_NativeOperators_jmp :
    (listAt (nativeBytes 9) id).engineAt 2 (NCmd.of (nativeBytes 9)) ∧ (NCmd.of (nativeBytes 9)).ok = true := by decide +kernel

/-! NativeWaits -/

theorem witness_NativeWaits_commands : ∀ op ∈ ([6, 10, 15] : List Byte),
    (listAt (nativeBytes op) id).engineAt 2 (NCmd.of (nativeBytes op)) ∧ (NCmd.of (nativeBytes op)).ok = true ∧
      (NCmd.of (nativeBytes op)).op = op.toNat := by decide +kernel

theorem witness_NativeWaits_here :
    let s := listAt [] fun x => { x with wait := .frame 3, frames := 3 }
    (s.porch.streams.get 2).st = .running ∧ srcState (s.porch.streams.get 2) = .here := by decide +kernel

theorem witness_NativeWaits_lost :
    let s := listAt [] fun x => { x with wait := .frame 3, frames := 9 }
    (s.porch.streams.get 2).st = .running ∧ srcState (s.porch.streams.get 2) = .lost 6 := by decide +kernel

theorem witness_NativeWaits_phase :
    let s := listAt [] fun x => { x with wait := .phase 0 }
    (s.porch.streams.get 2).st = .running ∧ reached s.phase.time 0 = true := by decide +kernel

theorem witness_NativeWaits_timeout :
    let s := listAt [] fun x => { x with wait := .frame 3, record := x.record.set 36 100 }
    srcState (s.porch.streams.get 2) = .notYet ∧ (s.porch.streams.get 2).wait = .frame 3 ∧
      srTimeout (s.porch.streams.get 2).record ≠ 0 := by decide +kernel

theorem witness_NativeWaits_done :
    let s := (listAt [] fun x => { x with issued := true }).onPorch fun p => { p with running := some (.stream 2), queue := [] }
    s.porch.running = some (.stream 2) ∧ (s.porch.streams.get 2).issued = true ∧ (s.porch.streams.get 2).st = .running := by
  decide +kernel

/-! ParlourCommands -/

/-- The Parlour runs at window offset 0x100 with these bytes there; its window is page 4, its input stream 2. -/
def parlourRuns (bs : List Byte) (f : Parlour → Parlour) : State :=
  porchAsk [] fun p => { p with
    queue := [.parlour], sram := zwrite [] 0x40100 bs,
    streams := vmod p.streams 2 fun x => { x with unread := [⟨1, 77⟩] },
    parlour := f { Parlour.init with
      st := .running, base := 4, stream := some 2, listOn := true, cur := ⟨0x100, (bs ++ List.replicate 16 0).take 16⟩ } }

theorem witness_ParlourCommands_map :
    let s := parlourRuns [0x14, 0x8C, 0x20, 0, 0x30, 0, 0x40, 0, 0x50, 0, 2, 2, 1, 1, 1, 0] id
    s.parlourAt s.porch.parlour.cur ∧ s.porch.parlour.cur.op = 1 ∧
      (convRanges { u := 8, h := 2, w := 2, cin := 8, cout := 8, kh := 3, kw := 3, sy := 1, sx := 1, pad := true, relu := true,
                    dw := false, avg := false, mult := 1, shift := 0 } ⟨0x2000, 0x3000, 0x4000, 0x5000⟩).all
        (fun r => decide (r.1 + r.2 ≤ 65536)) = true := by decide +kernel

theorem witness_ParlourCommands_outside :
    let s := parlourRuns [0x14, 0x8C, 0x20, 0, 0x30, 0, 0x40, 0, 0xFF, 0xF8, 2, 2, 1, 1, 1, 0] id
    s.parlourAt s.porch.parlour.cur ∧ s.porch.parlour.cur.op = 1 ∧ 65536 < 0xFFF8 + mapBytes 8 2 2 8 := by decide +kernel

theorem witness_ParlourCommands_each : ∀ b ∈ ([[0, 0], [0x20, 4, 0x20, 0, 0x30, 0, 0x40, 0, 0x50, 0, 1, 1, 1, 0],
    [0x30, 0, 0x20, 0, 0x30, 0, 2, 2, 1, 0], [0x40, 0, 0x20, 0, 0, 8], [0x50, 0, 1, 0x48], [0x60, 0, 0x20, 0, 0x12, 0x34],
    [0x70, 0, 1, 0], [0x80, 3, 1, 0], [0x90, 0, 0x20, 0, 2, 0x80], [0xF0, 0]] : List (List Byte)),
    (parlourRuns b id).parlourAt (parlourRuns b id).porch.parlour.cur := by decide +kernel

theorem witness_ParlourCommands_input :
    let s := parlourRuns [0x90, 0, 0x20, 0, 2, 0x80] id
    s.porch.parlour.cur.op = 9 ∧ inputStream s = some 2 ∧ (s.porch.streams.get 2).unread = [⟨1, 77⟩] ∧
      s.porch.parlour.cur.word 1 + s.porch.parlour.cur.word 2 ≤ 65536 ∧
      inputStream (parlourRuns [0x90, 0] fun p => { p with stream := none }) = none := by decide +kernel

theorem witness_ParlourCommands_fault :
    let s := parlourRuns [0xA0, 0] id
    s.engineNext .parlour ∧ s.porch.parlour.st = .running ∧ 2 ≤ s.porch.parlour.cur.bytes.length ∧
      parWords s.porch.parlour.cur.op = 0 := by decide +kernel

/-! ParlourWaitsAndSteps -/

theorem witness_ParlourWaitsAndSteps_ticks : ys2Ticks 328 49987 = 32791 ∧ ys2Ticks 1 0 = 1 := by decide +kernel

theorem witness_ParlourWaitsAndSteps_wait :
    let s := parlourRuns [0x50, 0, 1, 0x48] fun p => { p with st := .waiting, wait := .phase 0, next := ⟨0x104, [0x70, 0, 1, 0]⟩ }
    s.porch.parlour.st = .waiting ∧ reached s.phase.time 0 = true ∧ s.porch.parlour.next.op = 7 := by decide +kernel

theorem witness_ParlourWaitsAndSteps_input :
    let s := parlourRuns [0x90, 0, 0x20, 0, 2, 0x80] fun p => { p with st := .waiting, wait := .input }
    s.porch.parlour.wait = .input ∧ inputStream s = some 2 ∧ (s.porch.streams.get 2).unread = [⟨1, 77⟩] := by decide +kernel

theorem witness_ParlourWaitsAndSteps_noInput :
    let s := parlourRuns [0x90, 5, 0x20, 0, 2, 0x80] fun p => { p with st := .waiting, wait := .input, stream := none }
    inputStream s = none ∧ s.porch.parlour.cur.word 0 % 4096 ≠ 0 := by decide +kernel

theorem witness_ParlourWaitsAndSteps_done :
    let s := (parlourRuns [0, 0] fun p => { p with issued := true }).onPorch fun p => { p with running := some .parlour }
    s.porch.running = some .parlour ∧ s.porch.parlour.issued = true ∧ s.porch.parlour.st = .running := by decide +kernel

/-! FirmwareSlots -/

theorem witness_FirmwareSlots :
    State.reset.sys.inReset = false ∧ State.reset.sys.bootStage = 1 ∧
      (((slotOrder State.reset).filter fun i => !State.reset.sys.tried.contains i) = [0, 1]) ∧
      slotRefused State.reset (State.reset.sys.fwSlots.get 0).image = some (1, 0x0F01) := by decide +kernel

theorem witness_FirmwareSlots_last :
    let s := State.reset.onSys fun y => { y with bootStage := 2, tried := [0] }
    s.sys.bootStage = 2 ∧ ((slotOrder s).filter fun i => !s.sys.tried.contains i) = [1] := by decide +kernel

theorem witness_FirmwareSlots_order :
    slotOrder (State.reset.onSys fun y => { y with fwSlots := (y.fwSlots.set 0 ⟨true, 7, 0, []⟩).set 1 ⟨true, 9, 0, []⟩ }) = [1, 0] := by
  decide +kernel

/-! StartStages -/

/-- A stage of the start, with stacks that recover or do not. -/
def starting (n : Byte) (v : Vector Bool 4) : State :=
  (State.reset.onSys fun y => { y with bootStage := n, clkRunning := 0x1FFFF }).onCellar fun c =>
    { c with stk := Vector.ofFn fun i => { c.stk.get i with recovering := v.get i } }

theorem witness_StartStages_training : (starting 4 (Vector.replicate 4 false)).sys.inReset = false ∧
    (starting 4 (Vector.replicate 4 false)).sys.bootStage = 4 := by decide +kernel

theorem witness_StartStages_zeroing :
    let s := (starting 5 (Vector.replicate 4 false)).onSys fun y => { y with zeroing := true }
    s.sys.bootStage = 5 ∧ s.sys.zeroing = true ∧ (∀ i, (s.stack i).recovering = false) ∧ s.sys.eraseAll = false ∧
      s.sys.larderFailed = false := by decide +kernel

theorem witness_StartStages_lastStack :
    let s := starting 5 (vset (Vector.replicate 4 false) 2 true)
    (s.stack 2).recovering = true ∧ s.sys.clkRunning.getLsbD 6 = true ∧ s.sys.zeroing = false ∧
      (∀ j, j ≠ 2 → (s.stack j).recovering = false) ∧ s.sys.eraseAll = false ∧ s.sys.larderFailed = false := by decide +kernel

theorem witness_StartStages_otherStack :
    let s := (starting 5 (Vector.replicate 4 true)).onStack 2 fun k => { k with maps := vmod k.maps 1 fun m => { m with seq := 7 } }
    (s.stack 2).recovering = true ∧ (s.stack 3).recovering = true ∧ ((s.stack 2).maps.get 0).crcOk = true ∧
      ((s.stack 2).maps.get 1).crcOk = true ∧
      ((s.stack 2).maps.get 0).seq.toNat < ((s.stack 2).maps.get 1).seq.toNat ∧
      1 ≤ s.cellar.scrubDays.toNat ∧ s.cellar.scrubDays.toNat ≤ 255 ∧ (∀ b ∈ (s.stack 2).blocks, poweredUs s (s.stack 2) ≤ b.2.visited + 172800000000) := by decide +kernel

theorem witness_StartStages_host :
    let s := starting 6 (Vector.replicate 4 false)
    s.sys.bootStage = 6 ∧ (s.storey 0).op = 4 ∧ (s.storey 0).opCeil = 4 ∧ (s.storey 0).step = .idle ∧
      (s.storey 0).stuck = false ∧ s.sys.domGate.getLsbD 0 = false := by decide +kernel

theorem witness_StartStages_fabric :
    let s := starting 7 (Vector.replicate 4 false)
    s.sys.bootStage = 7 ∧ (∀ d, (s.door d).st ≠ .up) ∧ s.fabric.assignWait = false ∧ s.phase.st = .unlocked ∧
      s.phase.beaconSeen = false := by decide +kernel

/-! StepRunsTheFrontCommand -/

theorem witness_StepRunsTheFrontCommand : State.reset.pending = [] ∧ State.reset.host.barBlocked = [] := by decide +kernel

/-! NewelWordsAndFields -/

theorem witness_NewelWordsAndFields :
    let i : NInstr := { op := .addi, rd := 14, rs1 := 24, rs2 := 0, imm := 16, token := 0, place := 0, off := 0 }
    i.wf = true ∧ newelDecode 0x05D80010 = some .addi := by decide +kernel

/-! MemoriesStayCanonical -/

theorem witness_MemoriesStayCanonical : State.reset.memWf ∧ step State.reset = .next (idle State.reset) := by
  refine ⟨?_, rfl⟩
  unfold State.memWf
  decide +kernel

end Sys2Proof.Tests
end

section
/-!
Device resets and the steps of a Storey to another operating point (R12, R541-R546, R556-R560, R580, R609): what a reset
source leaves of the state, and O16.
-/
namespace Sys2Proof.Machine
open Sys2Proof

/-! ### What a log record leaves -/

@[simp] theorem signalVector_storeys (s : State) (v : Fin 32) : (signalVector s v).storeys = s.storeys := by
  simp only [signalVector]
  split <;> rfl

@[simp] theorem setAttn_storeys (s : State) (w : WingId) (b : Fin 6) : (setAttn s w b).storeys = s.storeys := by
  simp only [setAttn]
  split <;> simp

@[simp] theorem alert_storeys (s : State) (r : LogRec) : (alert s r).storeys = s.storeys := by
  unfold alert suppressAlert sendAlert
  repeat' split
  all_goals rfl

@[simp] theorem logCond_storeys (s : State) (code : Cond) (wing unit : Byte) (detail : W32) :
    (logCond s code wing unit detail).storeys = s.storeys := by
  simp [logCond]

/-! ### A reset source asserted -/

section
variable (s : State) (src : ResetSrc) (hold : Bool)

@[simp] theorem assertReset_inReset : (assertReset s src hold).sys.inReset = true := by cases hold <;> rfl

/-- The lowest code of the sources that joined is recorded (R12, R556). -/
@[simp] theorem assertReset_resetCause : (assertReset s src hold).sys.resetCause =
    if s.sys.inReset = true ∧ s.sys.resetCause.toNat < src.code.toNat then s.sys.resetCause else src.code := by
  cases hold <;> rfl

@[simp] theorem assertReset_rooms : (assertReset s src hold).rooms = State.reset.rooms := by cases hold <;> rfl

@[simp] theorem assertReset_wings : (assertReset s src hold).wings = State.reset.wings := by cases hold <;> rfl

@[simp] theorem assertReset_host : (assertReset s src hold).host = State.reset.host := by cases hold <;> rfl

@[simp] theorem assertReset_mgmt : (assertReset s src hold).mgmt = Mgmt.init s.mgmt.nor := by cases hold <;> rfl

@[simp] theorem assertReset_images : (assertReset s src hold).cellar.images = s.cellar.images := by cases hold <;> rfl

@[simp] theorem assertReset_pending : (assertReset s src hold).pending = s.pending := by cases hold <;> rfl

/-- Only a power-on reset takes the Threshold back to its first state (R57, R557). -/
theorem assertReset_thr : (assertReset s src hold).thr =
    if src = .por then { Threshold.init with fuses := s.thr.fuses } else threshAfter s.thr := by
  cases hold <;> cases src <;> rfl

@[simp] theorem assertReset_fuses : (assertReset s src hold).thr.fuses = s.thr.fuses := by
  rw [assertReset_thr]
  split <;> rfl

@[simp] theorem assertReset_debugWings : (assertReset s src hold).thr.debugWings = 0 := by
  rw [assertReset_thr]
  split <;> rfl

@[simp] theorem assertReset_slot16 : (assertReset s src hold).thr.slots.get 16 = none := by
  rw [assertReset_thr]
  split
  · rfl
  · exact get_vset_same _ _ _

theorem assertReset_thr_kept (h : src ≠ .por) :
    (assertReset s src hold).thr.st = s.thr.st ∧ (assertReset s src hold).thr.failTimes = s.thr.failTimes := by
  rw [assertReset_thr, if_neg h]
  exact ⟨rfl, rfl⟩

theorem mem_assertReset_asserted : src ∈ (assertReset s src true).sys.asserted := by
  simp [assertReset]

end

/-- Every source but the watchdog is held until it is released (R556). -/
theorem exec_resetSource {s : State} {c : Instr} {src : ResetSrc}
    (hc : (c, src) ∈ [(Instr.powerOnReset, ResetSrc.por), (.sysResetN true, .sys), (.perstN true, .perst),
      (.refClkLoss true, .refClk), (.watchdogExpiry, .watchdog)])
    (hw : src = .watchdog → s.sys.inReset = false) : exec c s = .next (assertReset s src (src != .watchdog)) := by
  simp only [List.mem_cons, Prod.mk.injEq, List.not_mem_nil, or_false] at hc
  rcases hc with ⟨rfl, rfl⟩ | ⟨rfl, rfl⟩ | ⟨rfl, rfl⟩ | ⟨rfl, rfl⟩ | ⟨rfl, rfl⟩
  case inr.inr.inr.inr =>
    rw [exec_watchdogExpiry, execWatchdogExpiry, hw rfl]
    rfl
  all_goals rfl

/-! ### A reset source released, and the end of a reset -/

theorem exec_releaseSource {c : Instr} {src : ResetSrc} (s : State)
    (hc : (c, src) ∈ [(Instr.sysResetN false, ResetSrc.sys), (.perstN false, .perst), (.refClkLoss false, .refClk)]) :
    exec c s = .next (releaseSource s src) := by
  simp only [List.mem_cons, Prod.mk.injEq, List.not_mem_nil, or_false] at hc
  rcases hc with ⟨rfl, rfl⟩ | ⟨rfl, rfl⟩ | ⟨rfl, rfl⟩ <;> rfl

theorem not_mem_releaseSource_asserted (s : State) (src : ResetSrc) : src ∉ (releaseSource s src).sys.asserted := by
  simp [releaseSource]

theorem porEnd_of_asserted {s : State} (h : ResetSrc.por ∈ s.sys.asserted) : ∃ t, exec .porEnd s = .next t ∧
    t.sys.asserted = (releaseSource s .por).sys.asserted ∧ t.sys.straps = s.sys.strapPins ∧
    t.fabric = Fabric.init s.sys.strapPins.pos s.sys.strapPins.posAuto (s.sys.strapPins.master && s.sys.strapPins.posAuto) := by
  exact ⟨_, (exec_porEnd s).trans (if_neg (by simp [h])), rfl, rfl, rfl⟩

theorem holdupMonitor_of_erase {s : State} {e : EraseSteps} (h : s.thr.erase = some e) : exec .holdupMonitor s =
    .next (if e.epochLeft = true then s.onSys fun y => { y with clkRunning := y.clkRunning &&& 1 } else s) := by
  rw [exec_holdupMonitor, execHoldupMonitor, h]
  cases he : e.epochLeft <;> simp [he]

theorem deviceResetRelease_of_released {s : State} (hr : s.sys.inReset = true) (ha : s.sys.asserted = []) :
    exec .deviceResetRelease s = .next (s.onSys fun y =>
      { y with inReset := false, clkRunning := 0x79F, resetHeld := 0x60, bootStage := 1 }) := by
  simp [execDeviceResetRelease, hr, ha]

/-! ### The steps of a Storey (R542-R545) -/

/-- Changes that agree on the Storey agree. -/
theorem onStorey_congr (s : State) (i : StoreyId) {f g : Storey → Storey} (h : f (s.storey i) = g (s.storey i)) :
    s.onStorey i f = s.onStorey i g := by
  unfold State.storey at h
  simp only [State.onStorey, vmod, h]

@[simp] theorem storey_send (s : State) (o : Out) (i : StoreyId) : (s.send o).storey i = s.storey i := rfl

section
variable {s : State} {i : StoreyId}

theorem voutCommandDone_of_volt (h : (s.storey i).step = .volt) : exec (.voutCommandDone i) s = .next (s.onStorey i fun x =>
    { x with step := if (s.storey i).op.toNat < (s.storey i).target.toNat then .settle else .idle }) := by
  simp only [exec_voutCommandDone, execVoutCommandDone, h, ne_eq, not_true_eq_false, if_false]
  exact congrArg _ (onStorey_congr s i rfl)

theorem settleExpiry_of_settle (h : (s.storey i).step = .settle) :
    exec (.settleExpiry i) s = .next (s.onStorey i fun x => { x with step := .waitLock }) := by
  simp [execSettleExpiry, h]

theorem pllLockDetect_of_waitLock (h : (s.storey i).step = .waitLock) :
    exec (.pllLockDetect i) s = .next (s.onStorey i fun x => { x with step := .hold }) := by
  simp [execPllLockDetect, h]

/-- The hold ends: OP is the target, and a step down with a valid board block goes on with its voltage (R542, R544). -/
theorem lockHoldExpiry_of_hold (h : (s.storey i).step = .hold) : ∃ t, exec (.lockHoldExpiry i) s = .next t ∧
    (t.storey i).op = (s.storey i).target ∧ (t.storey i).relocks = satAdd (s.storey i).relocks 1 ∧
    (t.storey i).failsInRow = 0 ∧
    (if (s.storey i).target.toNat ≤ (s.storey i).op.toNat ∧ s.sys.boardValid = true then
      (t.storey i).step = .volt ∧ t.out = s.out ++ [.pmbus i (opPoint (s.storey i).target.toNat).2]
     else (t.storey i).step = .idle ∧ t.out = s.out) := by
  refine ⟨_, if_neg (not_not_intro h), ?_⟩
  by_cases hup : (s.storey i).op.toNat < (s.storey i).target.toNat
  · simp [hup, Nat.not_le.mpr hup]
  · cases hb : s.sys.boardValid
    · simp [hup]
    · simp [hup, Nat.not_lt.mp hup]

/-- No lock comes: OP reads the lower of the two points and the failure is counted (R545). -/
theorem relockTimeout_of_waitLock (h : (s.storey i).step = .waitLock) : ∃ t, exec (.relockTimeout i) s = .next t ∧
    (t.storey i).step = .idle ∧ (t.storey i).op.toNat = min (s.storey i).op.toNat (s.storey i).target.toNat ∧
    (t.storey i).failsInRow = (s.storey i).failsInRow + 1 ∧
    (t.storey i).stuck = decide (3 ≤ (s.storey i).failsInRow + 1) := by
  refine ⟨_, if_neg (not_not_intro h), ?_⟩
  simp only [State.storey, logCond_storeys, State.onStorey_storeys, get_vmod_same, true_and, and_true]
  split <;> omega

end

/-- Settles O16: every reset source is `assertReset` or `releaseSource`, and each row of a Storey's step changes that Storey. -/
theorem resetsAndOperatingPoints : Obligations.ResetsAndOperatingPoints := by
  refine ⟨⟨?_, ?_, ?_, fun _ => rfl, ?_, ?_⟩, fun s i => voutCommandDone_of_volt, fun s i => settleExpiry_of_settle,
    fun s i => pllLockDetect_of_waitLock, fun s i => lockHoldExpiry_of_hold, fun s i => relockTimeout_of_waitLock⟩
  · intro s c src hc hw
    refine ⟨_, exec_resetSource hc hw, ?_⟩
    have held (h : src ≠ .watchdog) : src ∈ (assertReset s src (src != .watchdog)).sys.asserted := by
      rw [bne_iff_ne.mpr h]
      exact mem_assertReset_asserted s src
    simpa using ⟨assertReset_thr_kept s src _, held⟩
  · intro s c src hc
    exact ⟨_, exec_releaseSource s hc, not_mem_releaseSource_asserted s src, rfl⟩
  · intro s h
    obtain ⟨t, ht, ha, hs, hf⟩ := porEnd_of_asserted h
    exact ⟨t, ht, ha ▸ not_mem_releaseSource_asserted s .por, hs, hf⟩
  · intro s e he
    rw [holdupMonitor_of_erase he]
    exact ⟨fun h => by rw [if_pos h], fun h => by simp [h]⟩
  · intro s hr ha
    exact ⟨_, deviceResetRelease_of_released hr ha, rfl, rfl, rfl, rfl, rfl⟩

end Sys2Proof.Machine
end

section
/-!
The status registers and the queue instructions of a Newel (R7, R311-R314, R343, R360): what RDS and WRS do with a register
number, what PUSHA, PMOV and POPN do with a queue, and O39.
-/
namespace Sys2Proof.Machine
open Sys2Proof

/-! ### An instruction that retires, traps or waits -/

/-- A change of a Newel that neither reads nor writes its fetch buffer, and keeps the PC and the count of instructions. -/
def KeepsFlow (f : Newel → Newel) : Prop :=
  ∀ (n : Newel) b, f { n with fetchBuf := b } = { f n with fetchBuf := b } ∧ (f n).pc = n.pc ∧ (f n).retired = n.retired

theorem keepsFlow_id : KeepsFlow id := fun _ _ => ⟨rfl, rfl, rfl⟩

theorem keepsFlow_regSet (k : BitVec 5) (v : W32) : KeepsFlow fun n => regSet n k v := fun n b => regSet_frame n k v b

theorem irqDue_of_atWord {s : State} {c : CoreId} {k : NOp} {w : W32} (h : s.atWord c k w) : irqDue s c = none := by
  obtain ⟨-, -, -, -, hdue⟩ := h
  exact hdue

/-- A fetched instruction that retires leaves the fetch buffer with its first word gone (R352). -/
theorem onCore_fetched_retire (s : State) (c : CoreId) {f : Newel → Newel} (hf : KeepsFlow f) :
    onCore (fetched s c) c (fun n => retire (f n)) = s.retires c f := by
  rw [fetched, onCore_onCore, State.retires]
  apply onCore_congr
  obtain ⟨hb, hpc, hret⟩ := hf (coreNewel s c) (filledBuf s c)
  rw [retire, hb, hpc, hret]

theorem retires_congr (s : State) (c : CoreId) {f g : Newel → Newel} (h : f (coreNewel s c) = g (coreNewel s c)) :
    s.retires c f = s.retires c g := by
  rw [State.retires, State.retires]
  exact onCore_congr s c (by rw [h])

theorem settle_go {s : State} {c : CoreId} (h : irqDue s c = none) (t : State) : settle s c (.go t) = t := by
  simp [settle, h]

/-- A change made before the instruction retires is part of the change with which it retires. -/
theorem settle_retired_onCore {s : State} {c : CoreId} (h : irqDue s c = none) (f g : Newel → Newel)
    (hf : KeepsFlow fun n => g (f n)) :
    settle s c (retired (onCore (fetched s c) c f) c g) = s.retires c fun n => g (f n) := by
  rw [retired, settle_go h, onCore_onCore, onCore_fetched_retire s c hf]

theorem settle_illegal (s : State) (c : CoreId) (w : W32) : settle s c (illegal w) = trapHere s c 1 w 0 := rfl

theorem settle_wait {s : State} {c : CoreId} (h : irqDue s c = none) (why : BlockReason) : settle s c (.wait why) =
    onCore s c fun m => { m with fetchBuf := filledBuf s c, wait := .blocked why } := by
  simp [settle, h, fetched, onCore_onCore]

theorem regGet_fetched (s : State) (c : CoreId) (k : BitVec 5) : regGet (coreNewel (fetched s c) c) k = s.reg c k := by
  rw [coreNewel_fetched, regGet_fetchBuf, State.reg]

theorem fetched_phase (s : State) (c : CoreId) : (fetched s c).phase = s.phase := by
  unfold fetched onCore
  repeat' split
  all_goals rfl

/-! ### RDS (R360) -/

/-- The status registers that a read leaves as they are, and what each reads. -/
def plainReads : List (W16 × (Newel → W32)) :=
  [(0x00, psrWord), (0x01, fun n => n.tpsr), (0x02, fun n => n.tpc), (0x03, fun n => n.cause.setWidth 32),
    (0x04, fun n => n.tval), (0x05, fun n => n.tcond.setWidth 32), (0x06, fun n => n.tbr), (0x07, fun n => n.trapen),
    (0x08, fun n => n.ien.setWidth 32), (0x0A, fun n => n.qhi), (0x0D, fun n => n.cycleHi), (0x0F, fun n => n.phaseHi),
    (0x10, fun n => n.hqSel), (0x12, fun n => n.bkpt.get 0), (0x13, fun n => n.bkpt.get 1), (0x14, fun n => n.wsp),
    (0x18, fun n => n.segs.get 0), (0x1F, fun n => n.segs.get 7)]

theorem statusGet_plain {p : W16 × (Newel → W32)} (hp : p ∈ plainReads) (s : State) (c : CoreId) :
    statusGet s c p.1.toNat = some (p.2 (coreNewel s c)) := by
  revert p
  simp [plainReads, statusGet]

theorem statusRead_plain {p : W16 × (Newel → W32)} (hp : p ∈ plainReads) (s : State) (c : CoreId) :
    statusRead s c p.1.toNat = s := by
  revert p
  simp [plainReads, statusRead]

theorem plainReads_fetchBuf {p : W16 × (Newel → W32)} (hp : p ∈ plainReads) (n : Newel) (b : List W32) :
    p.2 { n with fetchBuf := b } = p.2 n := by
  revert p
  simp [plainReads, psrWord]

theorem statusGet_undefined (s : State) (c : CoreId) {k : Nat} (h : 0x20 ≤ k ∨ (0x15 ≤ k ∧ k < 0x18)) :
    statusGet s c k = none := by
  obtain ⟨j, rfl⟩ : ∃ j, k = j + 0x15 := ⟨k - 0x15, by omega⟩
  exact if_neg (by omega)

section
variable {s : State} {c : CoreId} {w : W32}

theorem rds_atWord (h : s.atWord c .rds w) : exec (.rds c) s = .next (settle s c (rdsOp (fetched s c) c w)) := by
  rw [exec_rds, execRds, newelRow_atWord h]
  rfl

theorem rds_plain {p : W16 × (Newel → W32)} (hp : p ∈ plainReads) (h : s.atWord c .rds w) (hk : nImm w = p.1) :
    exec (.rds c) s = .next (s.retires c fun n => regSet n (nRd w) (p.2 n)) := by
  have hdue := irqDue_of_atWord h
  have hop : rdsOp (fetched s c) c w = retired (fetched s c) c fun n => regSet n (nRd w) (p.2 (coreNewel s c)) := by
    rw [rdsOp, hk, statusGet_plain hp, statusRead_plain hp, coreNewel_fetched, plainReads_fetchBuf hp]
    rfl
  rw [rds_atWord h, hop, settle_retired hdue (fun n => regSet n (nRd w) (p.2 (coreNewel s c))) (keepsFlow_regSet _ _)]
  exact congrArg _ (retires_congr s c rfl)

/-- A read of NWL_PHASE_LO latches the high half (R360). -/
theorem rds_phaseLo (h : s.atWord c .rds w) (hk : nImm w = 0x0E) : exec (.rds c) s = .next (s.retires c fun n =>
    regSet { n with phaseHi := (s.phase.time >>> 32).setWidth 32 } (nRd w) (s.phase.time.setWidth 32)) := by
  have hdue := irqDue_of_atWord h
  have hop : rdsOp (fetched s c) c w =
      retired (onCore (fetched s c) c fun n => { n with phaseHi := (s.phase.time >>> 32).setWidth 32 }) c
        fun n => regSet n (nRd w) (s.phase.time.setWidth 32) := by
    rw [rdsOp, hk, ← fetched_phase s c]
    rfl
  rw [rds_atWord h, hop, settle_retired_onCore hdue]
  exact fun n b => regSet_frame { n with phaseHi := (s.phase.time >>> 32).setWidth 32 } _ _ b

theorem rds_undefined (h : s.atWord c .rds w)
    (hk : 0x20 ≤ (nImm w).toNat ∨ (0x15 ≤ (nImm w).toNat ∧ (nImm w).toNat < 0x18)) :
    exec (.rds c) s = .next (trapHere s c 1 w 0) := by
  rw [rds_atWord h, rdsOp, statusGet_undefined _ _ hk, ← settle_illegal]

end

/-! ### WRS (R7, R360) -/

/-- A word with no bit in a mask is what the rest of the word leaves of it. -/
theorem and_eq_self_of_and_eq_zero {v m k : W32} (h : v &&& m = 0) (hk : m ||| k = BitVec.allOnes 32) : v &&& k = v := by
  calc v &&& k = v &&& m ||| v &&& k := by simp [h]
    _ = v &&& (m ||| k) := BitVec.and_or_distrib_left.symm
    _ = v := by rw [hk, BitVec.and_allOnes]

/-- A write that sets no reserved bit counts none (R7). -/
theorem statusStore_clear (s : State) (c : CoreId) {v m : W32} (h : v &&& m = 0) (f : Newel → Newel) :
    statusStore s c v m.toNat f = some (onCore s c f) := by
  have hn : v.toNat &&& m.toNat = 0 := by rw [← BitVec.toNat_and, h]; rfl
  rw [statusStore, noteReserved, if_pos hn]

/-- Of a value that sets no reserved bit, the defined bits are all. -/
theorem statusStore_defined (s : State) (c : CoreId) {v m k : W32} (h : v &&& m = 0) (hk : m ||| k = BitVec.allOnes 32)
    (f : W32 → Newel → Newel) : statusStore s c v m.toNat (f (v &&& k)) = some (onCore s c (f v)) := by
  rw [statusStore_clear s c h, and_eq_self_of_and_eq_zero h hk]

/-- The status registers that WRS writes whole: the number, whether only a handler may write it, its reserved bits, and the
write. -/
def plainWrites : List (W16 × Bool × W32 × (W32 → Newel → Newel)) :=
  [(0x01, true, 0xFFFF3F00, fun v n => { n with tpsr := v }), (0x02, true, 3, fun v n => { n with tpc := v }),
    (0x06, false, 0x1FF, fun v n => { n with tbr := v }), (0x07, false, 0xFFFFF801, fun v n => { n with trapen := v }),
    (0x08, false, 0xFFFFFFE0, fun v n => { n with ien := v.setWidth 5 }), (0x10, false, 0, fun v n => { n with hqSel := v }),
    (0x11, false, 0xFFFFFFFE, fun v n => { n with dbgHalt := v.getLsbD 0 }),
    (0x12, false, 2, fun v n => { n with bkpt := vset n.bkpt 0 v }), (0x13, false, 2, fun v n => { n with bkpt := vset n.bkpt 1 v }),
    (0x14, false, 0x3F, fun v n => { n with wsp := v }), (0x18, false, 0xFFE, fun v n => { n with segs := vset n.segs 0 v }),
    (0x1F, false, 0xFFE, fun v n => { n with segs := vset n.segs 7 v })]

/-- NWL_DBG.HALT is written where RESUME and the reserved bits are 0. -/
theorem statusSet_dbg (s : State) (c : CoreId) {v : W32} (h : v &&& 0xFFFFFFFE = 0) :
    statusSet s c 0x11 v = some (onCore s c fun n => { n with dbgHalt := v.getLsbD 0 }) := by
  have hresume : v.getLsbD 1 = false := by simpa using congrArg (·.getLsbD 1) h
  have hreserved : v &&& 0xFFFFFFFC = 0 := by
    calc v &&& 0xFFFFFFFC = v &&& 0xFFFFFFFE &&& 0xFFFFFFFC := by rw [BitVec.and_assoc]; rfl
      _ = 0 := by rw [h]; rfl
  exact (if_neg (Bool.eq_false_iff.mp hresume)).trans (statusStore_clear s c hreserved _)

section
variable {p : W16 × Bool × W32 × (W32 → Newel → Newel)}

theorem keepsFlow_plainWrites (hp : p ∈ plainWrites) (v : W32) : KeepsFlow (p.2.2.2 v) := by
  unfold KeepsFlow
  revert p
  simp [plainWrites]

theorem statusSet_handlerOnly (hp : p ∈ plainWrites) (hh : p.2.1 = true) {s : State} {c : CoreId}
    (htm : (coreNewel s c).tm = false) (v : W32) : statusSet s c p.1.toNat v = none := by
  revert p
  simp [plainWrites, statusSet, htm]

theorem statusSet_plain (hp : p ∈ plainWrites) {s : State} {c : CoreId} (hm : p.2.1 = false ∨ (coreNewel s c).tm = true)
    {v : W32} (hv : v &&& p.2.2.1 = 0) : statusSet s c p.1.toNat v = some (onCore s c (p.2.2.2 v)) := by
  revert p
  simp only [plainWrites, List.forall_mem_cons]
  refine ⟨fun hm hv => ?_, fun hm hv => ?_, fun _ hv => ?_, fun _ hv => ?_, fun _ hv => ?_, fun _ hv => ?_,
    fun _ hv => statusSet_dbg s c hv, fun _ hv => ?_, fun _ hv => ?_, fun _ hv => ?_, fun _ hv => ?_, fun _ hv => ?_, nofun⟩
  · exact (if_pos (hm.resolve_left nofun)).trans (statusStore_defined s c hv rfl fun v n => { n with tpsr := v })
  · exact (if_pos (hm.resolve_left nofun)).trans (statusStore_defined s c hv rfl fun v n => { n with tpc := v })
  · exact statusStore_defined s c hv rfl fun v n => { n with tbr := v }
  · exact statusStore_defined s c hv rfl fun v n => { n with trapen := v }
  · exact statusStore_clear s c hv _
  · exact statusStore_clear s c hv _
  · exact statusStore_defined s c hv rfl fun v n => { n with bkpt := vset n.bkpt 0 v }
  · exact statusStore_defined s c hv rfl fun v n => { n with bkpt := vset n.bkpt 1 v }
  · exact statusStore_defined s c hv rfl fun v n => { n with wsp := v }
  · exact statusStore_defined s c hv rfl fun v n => { n with segs := vset n.segs 0 v }
  · exact statusStore_defined s c hv rfl fun v n => { n with segs := vset n.segs 7 v }

end

/-- A number that names no status register, or one that is read only. -/
theorem statusSet_readOnly (s : State) (c : CoreId) {k : W16} (v : W32)
    (h : k ∈ [3, 4, 5, 0x0A, 0x0B, 0x0C, 0x0D, 0x0E, 0x0F, 0x15, 0x16, 0x17] ∨ 0x20 ≤ k.toNat) :
    statusSet s c k.toNat v = none := by
  rcases h with h | h
  · revert k
    simp [statusSet]
  · obtain ⟨j, hj⟩ : ∃ j, k.toNat = j + 0x15 := ⟨k.toNat - 0x15, by omega⟩
    rw [hj]
    exact if_neg (by omega)

section
variable {s : State} {c : CoreId} {w : W32}

theorem wrs_atWord (h : s.atWord c .wrs w) : exec (.wrs c) s = .next (settle s c (wrsOp (fetched s c) c w)) := by
  rw [exec_wrs, execWrs, newelRow_atWord h]
  rfl

theorem wrs_stores (h : s.atWord c .wrs w) {f : Newel → Newel} (hf : KeepsFlow f)
    (hset : statusSet (fetched s c) c (nImm w).toNat (s.reg c (nRs1 w)) = some (onCore (fetched s c) c f)) :
    exec (.wrs c) s = .next (s.retires c f) := by
  have hdue := irqDue_of_atWord h
  rw [wrs_atWord h, wrsOp, regGet_fetched, hset]
  exact congrArg _ (settle_retired_onCore hdue f id hf)

theorem wrs_illegal (h : s.atWord c .wrs w)
    (hset : statusSet (fetched s c) c (nImm w).toNat (s.reg c (nRs1 w)) = none) :
    exec (.wrs c) s = .next (trapHere s c 1 w 0) := by
  rw [wrs_atWord h, wrsOp, regGet_fetched, hset, ← settle_illegal]

/-- NWL_PSR takes IE, and RES and FRM where a handler runs or they stay as they are (R360). -/
theorem wrs_psr (h : s.atWord c .wrs w) (hk : nImm w = 0) :
    let n := coreNewel s c
    let v := s.reg c (nRs1 w)
    let res : BitVec 4 := BitVec.ofNat 4 (v.toNat / 16)
    let frm : BitVec 4 := BitVec.ofNat 4 v.toNat
    (v &&& 0xFFFF3F00 = 0 → res ≠ 15 → (n.tm = true ∨ (res = n.res ∧ frm = n.frm)) →
      exec (.wrs c) s = .next (s.retires c fun n => { n with ie := v.getLsbD 14, res := res, frm := frm })) ∧
    ((res = 15 ∨ (n.tm = false ∧ (res ≠ n.res ∨ frm ≠ n.frm))) → exec (.wrs c) s = .next (trapHere s c 1 w 0)) := by
  have hset (v : W32) : statusSet (fetched s c) c (nImm w).toNat v = psrStore (fetched s c) c v := by rw [hk]; rfl
  constructor
  · intro hv hres hmode
    refine wrs_stores h (fun _ _ => ⟨rfl, rfl, rfl⟩) ?_
    rw [hset, psrStore, coreNewel_fetched]
    refine (if_neg ?_).trans (statusStore_clear _ c hv _)
    rintro (h15 | ⟨htm, hne⟩)
    · exact hres h15
    · rcases hmode with hm | ⟨hr, hf⟩
      · rw [hm] at htm
        cases htm
      · exact hne.elim (absurd hr) (absurd hf)
  · intro hbad
    refine wrs_illegal h ?_
    rw [hset, psrStore, coreNewel_fetched]
    exact if_pos hbad

end

/-! ### Data queues (R311-R314) -/

theorem dqPush_fits {x : Room} {q : Fin 6} (h : (x.queues.get q).entries.length < 16) (v : W64) (tok : Byte) (counted : Bool) :
    dqPush x q v tok counted = .done (x.pushed q v tok) :=
  if_pos (by simpa [DataQ.isFull] using h)

theorem dqPush_full {x : Room} {q : Fin 6} (h : ¬ (x.queues.get q).entries.length < 16) (v : W64) (tok : Byte) :
    dqPush x q v tok false = .wait .dataQueue :=
  (if_neg (by simpa [DataQ.isFull] using h)).trans rfl

theorem dqPop_empty {x : Room} {q : Fin 6} (h : (x.queues.get q).entries = []) (tok : Option Byte) :
    dqPop x q tok false = .wait .dataQueue := by
  simp [dqPop, h]

section
variable {x : Room} {q : Fin 6} {e : W64 × Byte} {rest : List (W64 × Byte)} (h : (x.queues.get q).entries = e :: rest)
include h

theorem dqPop_takes {tok : Option Byte} (ht : tok.all (· == e.2) = true) (counted : Bool) :
    dqPop x q tok counted = .done (e.1, x.popped q) := by
  simp [dqPop, Room.popped, vmod, h, ht]

theorem dqPop_otherToken {tok : Option Byte} (ht : tok.all (· == e.2) = false) (counted : Bool) :
    dqPop x q tok counted = .wait .token := by
  simp [dqPop, h, ht]

end

/-- In token mode a pop compares its token with the entry's; in order mode it takes any (R314). -/
theorem tokenTaken_iff (mode : Bool) (mine tok : Byte) :
    (if mode then some mine else none : Option Byte).all (· == tok) = !decide (mode = true ∧ mine ≠ tok) := by
  cases mode with
  | false => rfl
  | true => by_cases h : mine = tok <;> simp [h]

/-! ### PUSHA, PMOV and POPN (R343) -/

/-- Changes that agree on the Room agree. -/
theorem onRoom_congr (s : State) (r : RoomId) {f g : Room → Room} (h : f (s.room r) = g (s.room r)) :
    s.onRoom r f = s.onRoom r g := by
  unfold State.room at h
  simp only [State.onRoom, vmod, h]

theorem onRoom_onRoom (s : State) (r : RoomId) (f g : Room → Room) :
    (s.onRoom r f).onRoom r g = s.onRoom r fun x => g (f x) := by
  simp only [State.onRoom, vmod_vmod]

/-- A change of a Room that neither reads nor writes its Newel. -/
def KeepsNewel (g : Room → Room) : Prop := ∀ x n, g { x with newel := n } = { g x with newel := n }

theorem keepsNewel_pushed (q : Fin 6) (v : W64) (tok : Byte) : KeepsNewel fun x => x.pushed q v tok := fun _ _ => rfl

theorem keepsNewel_popped (q : Fin 6) : KeepsNewel fun x => x.popped q := fun _ _ => rfl

theorem KeepsNewel.newel_eq {g : Room → Room} (hg : KeepsNewel g) (x : Room) : (g x).newel = x.newel :=
  (congrArg Room.newel (hg x x.newel) :)

theorem filledBuf_congr {s t : State} {c : CoreId} (h : coreNewel s c = coreNewel t c) : filledBuf s c = filledBuf t c := by
  simp only [filledBuf, instrWord, h]

section
variable {s : State} {c : CoreId} {r : RoomId}

theorem fetched_eq_onRoom (hr : coreRoom c = some r) : fetched s c = s.onRoom r fun x =>
    { x with newel := { x.newel with fetchBuf := filledBuf s c } } := by
  simp only [fetched, onCore, hr]

theorem fetched_room (hr : coreRoom c = some r) : (fetched s c).room r =
    { s.room r with newel := { (s.room r).newel with fetchBuf := filledBuf s c } } := by
  rw [fetched_eq_onRoom hr, State.room_onRoom_same]

/-- The fetch of an instruction and a change of its Room beside the Newel come in either order. -/
theorem onRoom_fetched (hr : coreRoom c = some r) {g : Room → Room} (hg : KeepsNewel g) :
    (fetched s c).onRoom r g = fetched (s.onRoom r g) c := by
  have hn : coreNewel (s.onRoom r g) c = coreNewel s c := by
    simp only [coreNewel, hr, State.room_onRoom_same, hg.newel_eq]
  rw [fetched_eq_onRoom hr, fetched_eq_onRoom hr, onRoom_onRoom, onRoom_onRoom, filledBuf_congr hn]
  exact onRoom_congr s r ((hg _ _).trans (by rw [hg.newel_eq]))

/-- An instruction that changes its Room beside the Newel retires. -/
theorem settle_retired_onRoom (hr : coreRoom c = some r) (hdue : irqDue s c = none) {g : Room → Room} (hg : KeepsNewel g)
    {f : Newel → Newel} (hf : KeepsFlow f) :
    settle s c (retired ((fetched s c).onRoom r fun _ => g ((fetched s c).room r)) c f) = (s.onRoom r g).retires c f := by
  have hroom : (fetched s c).onRoom r (fun _ => g ((fetched s c).room r)) = (fetched s c).onRoom r g :=
    onRoom_congr _ r rfl
  rw [retired, settle_go hdue, hroom, onRoom_fetched hr hg, onCore_fetched_retire _ c hf]

/-- A push retires on a queue with room, and waits with BLOCK_REASON 2 on a full one (R312, R313). -/
theorem settle_pushOp (hr : coreRoom c = some r) (hdue : irqDue s c = none) (q : Fin 6) (v : Newel → W64) (w : W32) :
    settle s c (pushOp q v (fetched s c) c w) =
      if ((s.room r).queues.get q).entries.length < 16 then
        (s.onRoom r fun x => x.pushed q (v (coreNewel (fetched s c) c)) (nToken w)).retires c id
      else onCore s c fun m => { m with fetchBuf := filledBuf s c, wait := .blocked .dataQueue } := by
  have hq : ((fetched s c).room r).queues = (s.room r).queues := by rw [fetched_room hr]
  rw [← hq]
  by_cases h : (((fetched s c).room r).queues.get q).entries.length < 16
  · simp only [pushOp, hr, dqPush_fits h, if_pos h]
    exact settle_retired_onRoom hr hdue (keepsNewel_pushed _ _ _) keepsFlow_id
  · simp only [pushOp, hr, dqPush_full h, if_neg h]
    exact settle_wait hdue _

theorem settle_popnOp_empty (hr : coreRoom c = some r) (hdue : irqDue s c = none)
    (he : ((s.room r).queues.get 5).entries = []) (w : W32) : settle s c (popnOp (fetched s c) c w) =
      onCore s c fun m => { m with fetchBuf := filledBuf s c, wait := .blocked .dataQueue } := by
  have hq : (((fetched s c).room r).queues.get 5).entries = [] := by rw [fetched_room hr]; exact he
  simp only [popnOp, hr, dqPop_empty hq]
  exact settle_wait hdue _

/-- POPN takes the oldest entry of NQ, unless token mode is on and the entry is another token's (R314, R343). -/
theorem settle_popnOp_cons (hr : coreRoom c = some r) (hdue : irqDue s c = none) {v : W64} {tok : Byte}
    {rest : List (W64 × Byte)} (he : ((s.room r).queues.get 5).entries = (v, tok) :: rest) (w : W32) :
    settle s c (popnOp (fetched s c) c w) =
      if (s.room r).modeToken = true ∧ nToken w ≠ tok then
        onCore s c fun m => { m with fetchBuf := filledBuf s c, wait := .blocked .token }
      else (s.onRoom r fun x => x.popped 5).retires c fun m =>
        { regSet m (nRd w) (v.setWidth 32) with qhi := (v >>> 32).setWidth 32 } := by
  have hq : (((fetched s c).room r).queues.get 5).entries = (v, tok) :: rest := by rw [fetched_room hr]; exact he
  have hmode : ((fetched s c).room r).modeToken = (s.room r).modeToken := by rw [fetched_room hr]
  have hall := tokenTaken_iff (s.room r).modeToken (nToken w) tok
  rw [← hmode] at hall ⊢
  by_cases ht : ((fetched s c).room r).modeToken = true ∧ nToken w ≠ tok
  · simp only [popnOp, hr, if_pos ht, dqPop_otherToken hq (hall.trans (by simp [ht]))]
    exact settle_wait hdue _
  · simp only [popnOp, hr, if_neg ht, dqPop_takes hq (hall.trans (by simp [ht]))]
    exact settle_retired_onRoom hr hdue (keepsNewel_popped 5) fun n b => by simp [regSet_frame n (nRd w) (v.setWidth 32) b]

theorem pusha_atWord {w : W32} (h : s.atWord c .pusha w) : exec (.pusha c) s = .next (settle s c
    (pushOp 0 (fun n => regGet n (nRs2 w) ++ regGet n (nRs1 w)) (fetched s c) c w)) := by
  rw [exec_pusha, execPusha, newelRow_atWord h]
  rfl

theorem pmov_atWord {w : W32} (h : s.atWord c .pmov w) : exec (.pmov c) s = .next (settle s c
    (pushOp 1 (fun n => (regGet n (nRs1 w) &&& 0xFF).setWidth 64) (fetched s c) c w)) := by
  rw [exec_pmov, execPmov, newelRow_atWord h]
  rfl

theorem popn_atWord {w : W32} (h : s.atWord c .popn w) :
    exec (.popn c) s = .next (settle s c (popnOp (fetched s c) c w)) := by
  rw [exec_popn, execPopn, newelRow_atWord h]
  rfl

end

/-- Settles O39: RDS and WRS by what `statusGet` and `statusSet` answer for the number, the queue instructions by what the
push or the pop comes to. -/
theorem newelStatusAndQueueInstructions : Obligations.NewelStatusAndQueueInstructions := by
  refine ⟨⟨fun p hp s c w => rds_plain (p := p) hp, fun s c w h => ⟨rds_phaseLo h, rds_undefined h⟩, ?_, ?_⟩, ?_⟩
  · intro p hp s c w h hk
    constructor
    · intro hh htm
      refine wrs_illegal h ?_
      rw [hk]
      exact statusSet_handlerOnly hp hh (by rw [coreNewel_fetched]; exact htm) _
    · intro hm hv
      refine wrs_stores h (keepsFlow_plainWrites hp _) ?_
      rw [hk]
      exact statusSet_plain hp (by rw [coreNewel_fetched]; exact hm) hv
  · exact fun s c w h => ⟨fun hk => (wrs_psr h hk).1, fun hk => (wrs_psr h hk).2,
      fun hk => wrs_illegal h (statusSet_readOnly _ c _ hk)⟩
  · intro s c r w hr
    refine ⟨fun h => ?_, fun h => ?_, fun h he => ?_, fun v tok rest h he => ?_⟩
    · rw [pusha_atWord h, settle_pushOp hr (irqDue_of_atWord h), regGet_fetched, regGet_fetched]
      rfl
    · rw [pmov_atWord h, settle_pushOp hr (irqDue_of_atWord h), regGet_fetched]
      rfl
    · rw [popn_atWord h, settle_popnOp_empty hr (irqDue_of_atWord h) he]
    · have hpop : (s.onRoom r fun x => x.popped 5) = s.onRoom r fun x =>
          { x with queues := vset x.queues 5 { entries := rest, lastPopped := v }, watchCount := 0 } :=
        onRoom_congr s r (by simp [Room.popped, vmod, he])
      rw [popn_atWord h, settle_popnOp_cons hr (irqDue_of_atWord h) he, hpop]

end Sys2Proof.Machine
end

section
/-!
Packets of other devices at their target (R26, R51, R115, R231, R265, R283, R286, R318, R320, R472): a packet taken out of
the inbox changes only the fabric, so that every test at the target reads the state as it was, and O27.
-/
namespace Sys2Proof.Machine
open Sys2Proof

/-! ### A packet taken from the inbox -/

/-- A packet leaves the inbox for the credits of its Doorway: only the fabric has changed (R448). -/
theorem takePacket_onFabric {s s1 : State} {p : RxPacket → Bool} {x : RxPacket} (h : takePacket s p = some (x, s1)) :
    ∃ f, s1 = s.onFabric f := by
  refine ⟨fun _ => s1.fabric, ?_⟩
  unfold takePacket at h
  split at h <;> cases h
  rfl

section
variable (s : State) (f : Fabric → Fabric)

@[simp] theorem State.room_onFabric (r : RoomId) : (s.onFabric f).room r = s.room r := rfl

@[simp] theorem State.image_onFabric (w : WingId) (g : Fin 32) : (s.onFabric f).image w g = s.image w g := rfl

@[simp] theorem serverUp_onFabric : serverUp (s.onFabric f) = serverUp s := rfl

@[simp] theorem spanTest_onFabric (p : Packet) : spanTest (s.onFabric f) p = spanTest s p := rfl

@[simp] theorem reqAddr_onFabric (p : Packet) : reqAddr (s.onFabric f) p = reqAddr s p := rfl

@[simp] theorem larderOpen_onFabric (w : WingId) : larderOpen (s.onFabric f) w = larderOpen s w := rfl

@[simp] theorem roomOwner_onFabric (r : RoomId) : roomOwner (s.onFabric f) r = roomOwner s r := rfl

end

/-! ### Management segments (R115) -/

theorem mladyx_first {s s1 : State} {x : RxPacket} (ht : takePacket s (fun x => x.pkt.typ == .mladyx) = some (x, s1))
    (hup : serverUp s = true) (hw : x.pkt.wing = 0) (hst : startsStream s1 (.fabric x.pkt.src) x.pkt.seq 0 = true) :
    exec .mladyx s = .next (takeFirst s1 (.fabric x.pkt.src) x.pkt.seq 0 false x.pkt.data
      (lastByLength 256 x.pkt.data x.pkt.data)) := by
  obtain ⟨f, rfl⟩ := takePacket_onFabric ht
  simp [execMladyx, ht, hup, hw, hst]

/-! ### Larder requests (R26, R51, R265, R283, R286) -/

section
variable {s : State} {p : Packet} {k : Nat → Option HomeKind}

theorem acceptRemote_waits {a : Nat} {h : HomeKind} (hspan : spanTest s p = true) (ha : reqAddr s p = some a)
    (hopen : larderOpen s p.wing = true) (hk : k a = some h) :
    acceptRemote s p k = postReq s ⟨h, a / 64, .remote p.src p.tag p.wing⟩ := by
  simp [acceptRemote, hspan, ha, hopen, hk]

theorem acceptRemote_otherSpan (hspan : spanTest s p = false) :
    acceptRemote s p k = sendRefuse s p.wing p.src p.tag 0x0102 := by
  simp [acceptRemote, hspan]

end

/-- The Larder requests of other devices: the command, the type of its packet, and what waits at the home pair (R283,
R286, R472). -/
def larderRequests (p : Packet) (a : Nat) : List (Instr × PktType × Option HomeKind) :=
  [(.rdReq, .rdReq, some .ncRd),
    (.wrReq, .wrReq, some (.ncWr (bytesAt (p.data ++ List.replicate 96 0) 32 64) (BitVec.ofNat 64 (fieldAt p.data 16 8)))),
    (.atomReq, .atomReq, (atomOpOf (fieldAt p.data 2 1 % 16)).map fun op => .atom op (BitVec.ofNat 32 (fieldAt p.data 24 4))
      (BitVec.ofNat 32 (fieldAt p.data 28 4)) ⟨a / 4 % 16, Nat.mod_lt _ (by decide)⟩)]

/-- Each of them is accepted or refused by `acceptRemote`, with its own kind of request. -/
theorem exec_larderRequest {s s1 : State} {x : RxPacket} {a : Nat} {i : Instr} {p : PktType} {k : HomeKind}
    (hi : (i, p, some k) ∈ larderRequests x.pkt a) (ht : takePacket s (fun x => x.pkt.typ == p) = some (x, s1)) :
    ∃ g, exec i s = .next (acceptRemote s1 x.pkt g) ∧ g a = some k := by
  simp only [larderRequests, List.mem_cons, Prod.mk.injEq, List.not_mem_nil, or_false] at hi
  rcases hi with ⟨rfl, rfl, hk⟩ | ⟨rfl, rfl, hk⟩ | ⟨rfl, rfl, hk⟩
  · exact ⟨_, by rw [exec_rdReq, execRdReq, ht], hk.symm⟩
  · exact ⟨_, by rw [exec_wrReq, execWrReq, ht], hk.symm⟩
  · exact ⟨_, by rw [exec_atomReq, execAtomReq, ht], hk.symm⟩

/-! ### Page requests (R231) -/

/-- Stream and image that a PAGE_REQ names (R471). -/
def pageStream (p : Packet) : Fin 64 := ⟨fieldAt p.data 8 4 % 64, Nat.mod_lt _ (by decide)⟩
def pageImage (p : Packet) : Fin 32 := ⟨fieldAt p.data 0 4 % 32, Nat.mod_lt _ (by decide)⟩

/-- The entry that a PAGE_REQ makes in the queue of page requests. -/
def pageEntry (p : Packet) : PageReqQ :=
  ⟨p.wing, p.src, pageStream p, pageImage p, fieldAt p.data 4 4, fieldAt p.data 12 4, p.tag⟩

/-- The page that a PAGE_REQ names lies outside its image (R231). -/
def pageOutside (s : State) (p : Packet) : Prop :=
  4 * (s.image p.wing (pageImage p)).quarterPages.toNat ≤ fieldAt p.data 4 4

theorem exists_lowest {α : Type} {n : Nat} {v : Vector α n} {p : Fin n → α → Bool} (h : ∃ k, p k (v.get k) = true) :
    ∃ k, lowest v p = some k := by
  obtain ⟨k, hk⟩ := h
  exact Option.isSome_iff_exists.mp (List.find?_isSome.mpr ⟨k, List.mem_finRange k, hk⟩)

section
variable {s s1 : State} {x : RxPacket} (ht : takePacket s (fun x => x.pkt.typ == .pageReq) = some (x, s1))
  (hp : x.pkt.param ≠ pageReqUnbind) (hspan : spanTest s x.pkt = true)
include ht hp hspan

theorem pageReq_bound_outside (hb : (remoteCtx s1 x.pkt (pageStream x.pkt)).isSome = true)
    (hout : pageOutside s x.pkt) : exec .pageReq s = .next (sendRefuse s1 x.pkt.wing x.pkt.src x.pkt.tag 0x0609) := by
  obtain ⟨f, rfl⟩ := takePacket_onFabric ht
  obtain ⟨k, hk⟩ := Option.isSome_iff_exists.mp hb
  rw [pageStream] at hk
  rw [pageOutside, pageImage] at hout
  simp [execPageReq, ht, hk, hp, hspan, hout]

theorem pageReq_bound_queued (hb : (remoteCtx s1 x.pkt (pageStream x.pkt)).isSome = true)
    (hin : ¬ pageOutside s x.pkt) : exec .pageReq s = .next (s1.onCellar fun c =>
      { c with pageReqs := c.pageReqs ++ [pageEntry x.pkt] }) := by
  obtain ⟨f, rfl⟩ := takePacket_onFabric ht
  obtain ⟨k, hk⟩ := Option.isSome_iff_exists.mp hb
  rw [pageStream] at hk
  rw [pageOutside, pageImage] at hin
  simp [execPageReq, ht, hk, hp, hspan, hin, pageEntry, pageStream, pageImage]

/-- The first request of a stream takes a context that is free and is queued (R231). -/
theorem pageReq_first_queued (hb : remoteCtx s1 x.pkt (pageStream x.pkt) = none)
    (hc : (s.image x.pkt.wing (pageImage x.pkt)).st = .committed) (hin : ¬ pageOutside s x.pkt)
    (hfree : ∃ k, (s.cellar.remote.get k).used = false) : ∃ k, exec .pageReq s = .next (s1.onCellar fun c =>
      { c with remote := vset c.remote k ⟨true, x.pkt.wing, x.pkt.src, pageStream x.pkt, pageImage x.pkt⟩
               pageReqs := c.pageReqs ++ [pageEntry x.pkt] }) := by
  obtain ⟨f, rfl⟩ := takePacket_onFabric ht
  obtain ⟨k, hk⟩ := exists_lowest (v := s.cellar.remote) (p := fun _ c => !c.used) (by simpa using hfree)
  rw [pageStream] at hb
  rw [pageImage] at hc
  rw [pageOutside, pageImage] at hin
  exact ⟨k, by simp [execPageReq, ht, hb, hp, hspan, hc, hin, hk, State.onCellar, pageEntry, pageStream, pageImage]⟩

end

/-! ### Credit draws (R318, R320) -/

theorem postPacket_rooms (s : State) (p : Packet) : (postPacket s p).rooms = s.rooms := by
  unfold postPacket
  split <;> rfl

@[simp] theorem room_postPacket (s : State) (p : Packet) (r : RoomId) : (postPacket s p).room r = s.room r := by
  rw [State.room, postPacket_rooms, State.room]

@[simp] theorem hqDrop_hqs (x : Room) (q : Fin 32) :
    ((hqDrop x q).hqs.get q) = { x.hqs.get q with handles := (x.hqs.get q).handles.drop 1 } := get_vmod_same _ _ _

theorem creditDraw_grants {s s1 : State} {x : RxPacket} {y : Room} {d : HandleQ} {hc : W32} {rest : List W32}
    (ht : takePacket s (fun x => x.pkt.typ == .creditDraw && drawReady s x.pkt) = some (x, s1))
    (hspan : spanTest s x.pkt = true) (hown : roomOwner s (drawRoom x.pkt) = x.pkt.wing)
    (hy : s.room (drawRoom x.pkt) = y) (hd : y.hqs.get (drawQueue x.pkt) = d) (hkind : d.kind = .receive)
    (hlocal : (y.hqs.get d.auxQ).kind = .local) (hhs : (y.hqs.get d.auxQ).handles = hc :: rest)
    (hokC : handleOk y (drawRoom x.pkt) d.auxQ hc = true)
    (hokD : handleOk y (drawRoom x.pkt) (drawQueue x.pkt) hc = true) :
    let s2 := s1.onRoom (drawRoom x.pkt) fun y => hqDrop y d.auxQ
    exec .creditDraw s = .next (postPacket s2
      { wingPacket s2 .creditGrant 1 x.pkt.wing x.pkt.src x.pkt.tag (leBytes 4 hc.toNat) with param := hc.toNat }) := by
  obtain ⟨f, rfl⟩ := takePacket_onFabric ht
  simp [execCreditDraw, ht, hspan, hown, hy, hd, hkind, hlocal, hhs, hokC, hokD]

/-! ### Moves (R318, R320) -/

theorem setTags_hqs (x : Room) (start n : Nat) (full : Bool) : (setTags x start n full).hqs = x.hqs := by
  unfold setTags
  induction n with
  | zero => rfl
  | succ n ih => rw [List.range_succ, List.foldl_append, List.foldl_cons, List.foldl_nil, setTag, ih]

@[simp] theorem handleWrite_hqs (x : Room) (h : W32) (first : Nat) (bs : List Byte) :
    (handleWrite x h first bs).hqs = x.hqs := setTags_hqs _ _ _ _

theorem idx_of_eq {n : Nat} {i : Nat} {k : Fin n} (h : i = k.1) : idx n i = some k := by
  subst h
  exact dif_pos k.2

@[simp] theorem putHandle_pantry (s : State) (r : RoomId) (q : Fin 32) (h : W32) :
    ((putHandle s r q h).room r).pantry = (s.room r).pantry := by
  simp [putHandle]

theorem putHandle_pushes {s : State} {r : RoomId} {q : Fin 32} (h : W32) (hk : ((s.room r).hqs.get q).kind ≠ .off)
    (hn : ((s.room r).hqs.get q).handles.length < 32) :
    (((putHandle s r q h).room r).hqs.get q).handles = ((s.room r).hqs.get q).handles ++ [h] := by
  simp [putHandle, hk, hn]

theorem move_writes {s s1 : State} {x : RxPacket} {r : RoomId}
    (ht : takePacket s (fun x => x.pkt.typ == .move && moveReady s x.pkt) = some (x, s1))
    (hr : handleRoom (moveHandle x.pkt) = r.1) (hspan : spanTest s x.pkt = true) (hown : roomOwner s r = x.pkt.wing)
    (hok : handleOk (s.room r) r (moveQueue x.pkt) (moveHandle x.pkt) = true) :
    let s2 := s1.onRoom r fun y => handleWrite y (moveHandle x.pkt) (64 * x.pkt.tag.toNat) x.pkt.data
    exec .move s = .next (if x.pkt.param % 2 = 1 then putHandle s2 r (moveQueue x.pkt) (moveHandle x.pkt) else s2) := by
  obtain ⟨f, rfl⟩ := takePacket_onFabric ht
  simp [execMove, ht, idx_of_eq hr, hspan, hown, hok]

/-- Settles O27: each packet by the lemma of its type, with the state after it is taken out of the inbox. -/
theorem requestsFromOtherDevices : Obligations.RequestsFromOtherDevices := by
  refine ⟨fun s s1 x => mladyx_first, ?_, ?_, ?_, ?_, ?_⟩
  · intro s s1 x a i p k hi ht
    obtain ⟨g, hexec, hg⟩ := exec_larderRequest hi ht
    obtain ⟨f, rfl⟩ := takePacket_onFabric ht
    rw [hexec]
    refine ⟨fun hspan ha hopen => ?_, fun hspan => ?_⟩
    · rw [acceptRemote_waits (by simpa using hspan) (by simpa using ha) (by simpa using hopen) hg]
    · rw [acceptRemote_otherSpan (by simpa using hspan)]
  · intro s s1 x ht hp hspan _ _ hin n img hor
    have hq : s1.cellar = s.cellar := by
      obtain ⟨f, rfl⟩ := takePacket_onFabric ht
      rfl
    have hin : ¬ pageOutside s x.pkt := Nat.not_le.mpr hin
    cases hb : remoteCtx s1 x.pkt n with
    | some k => exact ⟨_, pageReq_bound_queued ht hp hspan (Option.isSome_iff_exists.mpr ⟨k, hb⟩) hin, by rw [← hq]; rfl⟩
    | none =>
      obtain ⟨hc, hfree⟩ := hor.resolve_left (by simp [hb])
      obtain ⟨k, hexec⟩ := pageReq_first_queued ht hp hspan hb hc hin hfree
      exact ⟨_, hexec, by rw [← hq]; rfl⟩
  · intro s s1 x ht hp hspan n img hb hout
    exact pageReq_bound_outside ht hp hspan hb hout
  · intro s s1 x hc rest ht hspan hown y d hkind hlocal hhs hokC hokD
    refine ⟨_, _, creditDraw_grants ht hspan hown rfl rfl hkind hlocal hhs hokC hokD, rfl, rfl, rfl, rfl, rfl, ?_⟩
    obtain ⟨f, rfl⟩ := takePacket_onFabric ht
    simp [d, y, hhs]
  · intro s s1 x r ht hr hspan hown hok
    refine ⟨_, move_writes ht hr hspan hown hok, fun heven => if_neg (by omega), fun hodd => ?_⟩
    obtain ⟨f, rfl⟩ := takePacket_onFabric ht
    rw [if_pos hodd]
    refine ⟨by simp, fun hkind hlen => ?_⟩
    rw [putHandle_pushes _ (by simpa using hkind) (by simpa using hlen)]
    simp

end Sys2Proof.Machine
end

section
/-!
What keeps the wings, the Rooms and the images as they are: reports, records, messages and accesses of the Larder (R113,
R122, R167, R168, R177, R282, R464).
-/
namespace Sys2Proof.Machine
open Sys2Proof

/-- What every step of a fold keeps, the fold keeps. -/
theorem foldl_keeps {α β σ : Type} {p : σ → β} {f : σ → α → σ} (h : ∀ s a, p (f s a) = p s) (l : List α) (s : σ) :
    p (l.foldl f s) = p s := by
  induction l generalizing s with
  | nil => rfl
  | cons a l ih => rw [List.foldl_cons, ih, h]

/-- The wings, the Rooms and the Cellar are as they were. -/
abbrev KeepsTenancy (s t : State) : Prop := t.wings = s.wings ∧ t.rooms = s.rooms ∧ t.cellar = s.cellar

theorem keepsTenancy_foldl {α : Type} {f : State → α → State} (h : ∀ s a, KeepsTenancy s (f s a)) (l : List α) (s : State) :
    KeepsTenancy s (l.foldl f s) :=
  ⟨foldl_keeps (fun s a => (h s a).1) l s, foldl_keeps (fun s a => (h s a).2.1) l s, foldl_keeps (fun s a => (h s a).2.2) l s⟩

/-! ### Reports and records -/

section
variable (s : State) (w : WingId)

@[simp] theorem signalVector_tenancy (v : Fin 32) : KeepsTenancy s (signalVector s v) := by
  unfold signalVector
  dsimp only
  split <;> exact ⟨rfl, rfl, rfl⟩

@[simp] theorem setAttn_tenancy (b : Fin 6) : KeepsTenancy s (setAttn s w b) := by
  unfold setAttn
  dsimp only
  split <;> simp [KeepsTenancy]

@[simp] theorem alert_tenancy (r : LogRec) : KeepsTenancy s (alert s r) := by
  unfold alert suppressAlert sendAlert
  repeat' split
  all_goals exact ⟨rfl, rfl, rfl⟩

@[simp] theorem logCond_tenancy (code : Cond) (wing unit : Byte) (detail : W32) :
    KeepsTenancy s (logCond s code wing unit detail) := by
  simp [KeepsTenancy, logCond]

@[simp] theorem ringCond_tenancy (c : Cond) : KeepsTenancy s (ringCond s w c) := by
  simp [KeepsTenancy, ringCond]

@[simp] theorem mirrorRecord_tenancy (a : Nat) (bs : List Byte) : KeepsTenancy s (mirrorRecord s w a bs) := by
  unfold mirrorRecord
  repeat' split
  all_goals simp [KeepsTenancy]

/-! ### The Larder (R282) -/

@[simp] theorem homePut_tenancy (line : Nat) (d : List Byte) (p : Bool) : KeepsTenancy s (homePut s line d p) := by
  unfold homePut
  dsimp only
  split <;> exact ⟨rfl, rfl, rfl⟩

@[simp] theorem homeMerge_tenancy (line : Nat) (d : List Byte) (be : BitVec 64) : KeepsTenancy s (homeMerge s line d be) := by
  unfold homeMerge
  split <;> simp [KeepsTenancy]

@[simp] theorem pullDirty_tenancy (c : CoreId) (line : Nat) : KeepsTenancy s (pullDirty s c line) := by
  unfold pullDirty
  repeat' split
  all_goals simp [KeepsTenancy]

@[simp] theorem recallAll_tenancy (line : Nat) : KeepsTenancy s (recallAll s line) := by
  unfold recallAll
  split
  · have hpull := keepsTenancy_foldl (fun s c => pullDirty_tenancy s c line)
    have hdrop := keepsTenancy_foldl (f := fun s c => s.onCache c fun k => cacheRemove k line) fun s c => ⟨rfl, rfl, rfl⟩
    simp [KeepsTenancy, hpull, hdrop]
  · exact ⟨rfl, rfl, rfl⟩

@[simp] theorem ncWriteLine_tenancy (a : Nat) (bs : List Byte) (line : Nat) : KeepsTenancy s (ncWriteLine s a bs line) := by
  simp [KeepsTenancy, ncWriteLine]

@[simp] theorem ncWrite_tenancy (a : Nat) (bs : List Byte) : KeepsTenancy s (ncWrite s a bs) :=
  keepsTenancy_foldl (fun s l => ncWriteLine_tenancy s a bs l) _ s

@[simp] theorem wingWrite_tenancy (o : Nat) (bs : List Byte) : KeepsTenancy s (wingWrite s w o bs) :=
  keepsTenancy_foldl (fun s _ => ncWrite_tenancy s _ _) _ s

@[simp] theorem postWrite_tenancy (o : Nat) (bs : List Byte) : KeepsTenancy s (postWrite s w o bs) := by
  unfold postWrite
  repeat' split
  all_goals simp [KeepsTenancy]

/-! ### Completion records (R166, R167) -/

@[simp] theorem postRecord_tenancy (t : JobTag) (e : JobEnd) : KeepsTenancy s (postRecord s w t e) := by
  unfold postRecord
  dsimp only
  repeat' split
  all_goals simp [KeepsTenancy]

@[simp] theorem completeJob_tenancy (j : Job) (e : JobEnd) : KeepsTenancy s (completeJob s j e) := by
  simp [KeepsTenancy, completeJob]

@[simp] theorem failJob_tenancy (j : Job) (c : Cond) (unit : Byte) (d : W32) : KeepsTenancy s (failJob s j c unit d) := by
  simp [KeepsTenancy, failJob]

/-! ### Packets (R464, R493) -/

@[simp] theorem postPacket_tenancy (p : Packet) : KeepsTenancy s (postPacket s p) := by
  unfold postPacket
  split <;> exact ⟨rfl, rfl, rfl⟩

@[simp] theorem sendAborts_tenancy (c : Ctx) (cause : Cond) : KeepsTenancy s (sendAborts s c cause) :=
  keepsTenancy_foldl (fun s _ => postPacket_tenancy s _) _ s

@[simp] theorem abortCtx_tenancy (i : Fin 8) (cause : Cond) : KeepsTenancy s (abortCtx s i cause) := by
  unfold abortCtx takeAbort
  dsimp only
  repeat' split
  all_goals simp [KeepsTenancy]

@[simp] theorem abortOwed_tenancy : KeepsTenancy s (abortOwed s w) := by
  refine keepsTenancy_foldl (fun s i => ?_) _ s
  dsimp only
  split
  · have := keepsTenancy_foldl (fun s e => abortCtx_tenancy s i e)
    simp [KeepsTenancy, this]
  · exact ⟨rfl, rfl, rfl⟩

/-! ### Porch streams that start (R513) -/

@[simp] theorem runStream_tenancy (k : Fin 16) : KeepsTenancy s (runStream s k) := by
  unfold runStream
  dsimp only
  split <;> exact ⟨rfl, rfl, rfl⟩

@[simp] theorem runParlour_tenancy (a : Nat) : KeepsTenancy s (runParlour s a) := ⟨rfl, rfl, rfl⟩

@[simp] theorem runHeld_tenancy : KeepsTenancy s (runHeld s w) := by
  have hfold := keepsTenancy_foldl (f := fun s k =>
    if (s.porch.streams.get k).owner = w ∧ (s.porch.streams.get k).st = .held then runStream s k else s) fun s k => by
      split <;> simp [KeepsTenancy]
  unfold runHeld
  dsimp only
  split <;> simp [KeepsTenancy, hfold]

end
end Sys2Proof.Machine
end

section
/-!
A write of the dictionary in turn (R64-R66, R69, R98, R101, R102): the entry that each kind of write names, and what a write
comes to when it is refused, when it waits for its counter, and when it is accepted.
-/
namespace Sys2Proof.Machine
open Sys2Proof

/-! ### The entry that a write names -/

/-- Object and member of each kind of write; `w` is the wing of an entry that every wing has. -/
def WriteRow.place (w : WingId) : WriteRow → Option (ObjId × Nat)
  | .create => some (.wings, 3)
  | .destroy => some (.wings, 4)
  | .houseFloor => some (.wings, 8)
  | .run | .freeze | .thaw => some (.wing0 w, 7)
  | .deviceCap => some (.fuse, 1)
  | .socketBudget => some (.fuse, 3)
  | .disturbLimit => some (.cellar, 4)
  | .imageCommit => some (.images w, 5)
  | .imageErase => some (.images w, 6)
  | .provision => some (.threshold, 2)
  | .keyInstall => some (.keys, 1)
  | .keyRemove => some (.keys, 3)
  | .alarmReset => some (.alarm, 1)
  | .levelMap => some (.alarm, 2)
  | .debugUnlock => some (.debug, 1)
  | .debugLock => some (.debug, 3)
  | .fwImage => some (.firmware, 1)
  | .other => none

theorem place_rowOf (r : Request) :
    rowOf r = .other ∨ ∃ w o, (rowOf r).place w = some (o, r.mem.toNat) ∧ objectOf r.obj = some o := by
  unfold rowOf
  split
  case h_4 => split <;> simp [WriteRow.place, *]
  all_goals simp [WriteRow.place, *]

theorem rangeCheck_class (o : ObjId) (m : Nat) (v : List Byte) : (rangeCheck o m v).toNat / 256 ≠ 6 := by
  unfold rangeCheck within levelMapCheck
  dsimp only
  repeat' split
  all_goals decide

theorem requestEntry_of_rowOf {r : Request} {row : WriteRow} (h : rowOf r = row) (hne : row ≠ .other) :
    ∃ w o, row.place w = some (o, r.mem.toNat) ∧ requestEntry r = (o.entry r.mem.toNat).map fun e => (o, e) := by
  subst h
  obtain h | ⟨w, o, hp, ho⟩ := place_rowOf r
  · exact absurd h hne
  · exact ⟨w, o, hp, by simp [requestEntry, ho]⟩

/-! ### A write in turn (R98, R101, R102) -/

theorem frontRequest_inTurn {s : State} {r : Request} (h : s.inTurn r) : frontRequest s = some (r, s.taken) := by
  obtain ⟨hup, hnor, hhead⟩ := h
  cases hq : s.mgmt.ready with
  | nil => simp [hq] at hhead
  | cons q rest =>
    obtain rfl : q = (r, 0) := by simpa [hq] using hhead
    simp [frontRequest, hup, hnor, hq, State.taken, State.onMgmt]

theorem writeCommand_inTurn {s : State} {r : Request} {row : WriteRow} (h : s.inTurn r) (hw : r.write = true)
    (hrow : rowOf r = row) : writeCommand row s = .next (actOnWrite s.taken r) := by
  simp [writeCommand, frontRequest_inTurn h, hw, hrow]

/-- What a write that passes checks 11 and 12 comes to: its NOR write starts, or it takes effect and is answered (R98). -/
def acceptedWrite (s : State) (r : Request) (o : ObjId) (e : Entry) : State :=
  match norEffect s r e with
  | some k => startNor s r k (e.acc == .rwa || rowOf r == .provision)
  | none => answerDone (writeEffect s r o) r 0

section
variable {s : State} {r : Request} {o : ObjId} {e : Entry}

theorem handleChecked_outOfRange (h : rangeCheck o r.mem.toNat r.value ≠ 0) :
    handleChecked s r o e = answerDone s r (rangeCheck o r.mem.toNat r.value) := by
  have hnote : noteRefusal s r o (rangeCheck o r.mem.toNat r.value) = s := by
    unfold noteRefusal noteImageCond
    split <;> simp [rangeCheck_class]
  unfold handleChecked
  dsimp only
  rw [if_pos h, if_pos h, hnote]

theorem handleChecked_refused (hr : rangeCheck o r.mem.toNat r.value = 0) (h : ownCheck s r o ≠ 0) :
    handleChecked s r o e = answerDone (noteRefusal s r o (ownCheck s r o)) r (ownCheck s r o) := by
  unfold handleChecked
  dsimp only
  rw [if_neg (not_not_intro hr), if_pos h]

theorem handleChecked_accepted (hr : rangeCheck o r.mem.toNat r.value = 0) (h : ownCheck s r o = 0) :
    handleChecked s r o e = acceptedWrite s r o e := by
  unfold handleChecked
  dsimp only
  rw [if_neg (not_not_intro hr), if_neg (not_not_intro h)]
  rfl

theorem actOnWrite_plain (he : requestEntry r = some (o, e)) (hacc : e.acc ≠ .rwa) :
    actOnWrite s r = handleChecked s r o e := by
  simp [actOnWrite, he, hacc]

theorem actOnWrite_refused {s1 : State} {c : Cond} (he : requestEntry r = some (o, e)) (hacc : e.acc = .rwa)
    (h : thrCheck s r.who r.act r.sealed r.obj r.mem r.value = .refused s1 c) : actOnWrite s r = answerDone s1 r c := by
  simp [actOnWrite, he, hacc, h]

theorem actOnWrite_passed {s1 : State} {k : Fin 16} {persist : Bool} (he : requestEntry r = some (o, e))
    (hacc : e.acc = .rwa) (h : thrCheck s r.who r.act r.sealed r.obj r.mem r.value = .passed s1 k persist) :
    actOnWrite s r = if persist then startNor s1 r (.counter k (s1.thr.ca.get k).last) true else handleChecked s1 r o e := by
  simp [actOnWrite, he, hacc, h]

/-- A write to an RWA entry is refused, waits for its counter, or is accepted (R64-R66, R69, R101). -/
theorem sealedWrite_actOnWrite (he : requestEntry r = some (o, e)) (hacc : e.acc = .rwa) :
    SealedWrite s r (actOnWrite s.taken r) fun s2 o' => o' = o ∧ actOnWrite s.taken r = acceptedWrite s2 r o e := by
  refine ⟨o, e, he, ?_⟩
  cases hthr : thrCheck s.taken r.who r.act r.sealed r.obj r.mem r.value with
  | refused s1 c => exact actOnWrite_refused he hacc hthr
  | passed s1 k persist =>
    have hact := actOnWrite_passed he hacc hthr
    cases persist with
    | true => exact congrArg (·.mgmt.norPending) hact
    | false =>
      replace hact : actOnWrite s.taken r = handleChecked s1 r o e := hact
      dsimp only
      rw [if_neg Bool.false_ne_true, hact]
      split
      · next hr => exact handleChecked_outOfRange hr
      · next hr =>
        have hr := Decidable.not_not.mp hr
        split
        · next ho => exact handleChecked_refused hr ho
        · next ho => exact ⟨rfl, handleChecked_accepted hr (Decidable.not_not.mp ho)⟩

end

theorem SealedWrite.imp {s t : State} {r : Request} {P Q : State → ObjId → Prop} (h : SealedWrite s r t P)
    (hpq : ∀ s2 o, P s2 o → Q s2 o) : SealedWrite s r t Q := by
  obtain ⟨o, e, he, h⟩ := h
  refine ⟨o, e, he, ?_⟩
  split at h
  · exact h
  · split at h
    · next hp => rwa [if_pos hp]
    · next hp =>
      rw [if_neg hp]
      split at h
      · next hr => rwa [if_pos hr]
      · next hr =>
        rw [if_neg hr]
        split at h
        · next ho => rwa [if_pos ho]
        · next ho =>
          rw [if_neg ho]
          exact hpq _ _ h

/-- The sealed writes whose entries are not kept in NOR. -/
def atOnceRows : List WriteRow := [.create, .destroy, .houseFloor, .debugUnlock, .alarmReset, .imageCommit, .imageErase]

/-- Their entries are RWA and not persistent, so that an accepted one takes effect at once. -/
theorem acceptedWrite_atOnce {r : Request} {row : WriteRow} (hrow : rowOf r = row) (hmem : row ∈ atOnceRows) :
    ∃ w o e, row.place w = some (o, r.mem.toNat) ∧ requestEntry r = some (o, e) ∧ e.acc = .rwa ∧
      ∀ s2, acceptedWrite s2 r o e = answerDone (writeEffect s2 r o) r 0 := by
  have hne : row ≠ .other := by
    rintro rfl
    simp [atOnceRows] at hmem
  obtain ⟨w, o, hp, he⟩ := requestEntry_of_rowOf hrow hne
  simp only [atOnceRows, List.mem_cons, List.not_mem_nil, or_false] at hmem
  rcases hmem with rfl | rfl | rfl | rfl | rfl | rfl | rfl
  all_goals
    obtain ⟨rfl, hm⟩ := Prod.mk.inj (Option.some.inj hp)
    rw [← hm] at he
    exact ⟨w, _, _, hp, he, rfl, fun s2 => by simp [acceptedWrite, norEffect, hrow]⟩

theorem sealed_atOnce {s : State} {r : Request} {row : WriteRow} (h : s.inTurn r) (hw : r.write = true)
    (hrow : rowOf r = row) (hmem : row ∈ atOnceRows) : ∃ t, writeCommand row s = .next t ∧ SealedWrite s r t fun s2 o =>
      (∃ w, row.place w = some (o, r.mem.toNat)) ∧ t = answerDone (writeEffect s2 r o) r 0 := by
  obtain ⟨w, o, e, hp, he, hacc, hnow⟩ := acceptedWrite_atOnce hrow hmem
  refine ⟨_, writeCommand_inTurn h hw hrow, (sealedWrite_actOnWrite he hacc).imp ?_⟩
  rintro s2 _ ⟨rfl, hact⟩
  exact ⟨⟨w, hp⟩, hact.trans (hnow s2)⟩

end Sys2Proof.Machine
end

section
/-!
Sealed writes that act at once (R40, R43, R44, R46, R78, R85, R220, R223, R224): what creation, CLEARING and the other effects
leave of wings, keys and images, and O1.
-/
namespace Sys2Proof.Machine
open Sys2Proof

theorem State.wing_onWing (s : State) (w v : WingId) (f : Wing → Wing) :
    (s.onWing w f).wing v = if w = v then f (s.wing v) else s.wing v := get_vmod _ _ _ _

theorem State.wing_onWing_st (s : State) (w v : WingId) {f : Wing → Wing} (h : ∀ x, (f x).st = x.st) :
    ((s.onWing w f).wing v).st = (s.wing v).st := by
  rw [State.wing_onWing]
  split
  · exact h _
  · rfl

theorem State.wing_congr {s t : State} (h : t.wings = s.wings) (w : WingId) : t.wing w = s.wing w :=
  congrArg (·.get w) h

section
variable (s : State) (w : WingId)

@[simp] theorem setWingSt_wings (st : WingSt) :
    (setWingSt s w st).wings = vmod s.wings w fun x => { x with st := st } := by
  simp [setWingSt]

@[simp] theorem setWingSt_rooms (st : WingSt) : (setWingSt s w st).rooms = s.rooms := by
  simp [setWingSt]

@[simp] theorem wing_setWingSt (st : WingSt) : (setWingSt s w st).wing w = { s.wing w with st := st } := by
  simp [State.wing]

@[simp] theorem onMask_wings (m : W32) (f : Room → Room) : (onMask s m f).wings = s.wings :=
  foldl_keeps (p := State.wings) (fun s r => State.onRoom_wings s r f) _ s

@[simp] theorem rebuildTables_wings : (rebuildTables s).wings = s.wings := rfl

/-! ### CLEARING (R43) -/

@[simp] theorem freeStream_wings (n : Fin 64) : (freeStream s n).wings = s.wings := by
  unfold freeStream
  dsimp only
  split <;> rfl

@[simp] theorem discardCache_wings (c : CoreId) : (discardCache s c).wings = s.wings := rfl

@[simp] theorem dropRoomReqs_wings (r : RoomId) : (dropRoomReqs s r).wings = s.wings := rfl

@[simp] theorem releasePorch_wings : (releasePorch s w).wings = s.wings := rfl

@[simp] theorem resetRoom_wings (r : RoomId) : (resetRoom s r).wings = s.wings := by
  rw [resetRoom, State.onRoom_wings, dropRoomReqs_wings, discardCache_wings]
  refine foldl_keeps (p := State.wings) (fun s n => ?_) _ s
  split <;> simp

@[simp] theorem releaseClaims_wings : (releaseClaims s w).wings = s.wings := by
  rw [releaseClaims, State.onCellar_wings, State.onFabric_wings, State.onPhase_wings, State.onStair_wings,
    ← releasePorch_wings s w]
  refine foldl_keeps (p := State.wings) (fun s i => ?_) _ _
  dsimp only
  split <;> simp

theorem abandonJobs_wing_st (v : WingId) : ((abandonJobs s w).wing v).st = (s.wing v).st :=
  State.wing_onWing_st _ w v fun _ => rfl

theorem clearingKeys_wing_st (v : WingId) : ((clearingKeys s w).wing v).st = (s.wing v).st := by
  unfold clearingKeys
  dsimp only
  split
  · exact State.wing_onWing_st _ w v fun _ => rfl
  · rfl

/-- A wing whose clearing starts is CLEARING, whatever its jobs, claims and Rooms were (R40, R43). -/
theorem startClearing_wing_st : ((startClearing s w).wing w).st = .clearing := by
  unfold startClearing
  dsimp only
  rw [clearingKeys_wing_st, State.wing_congr (foldl_keeps (p := State.wings) resetRoom_wings _ _),
    State.wing_congr (releaseClaims_wings _ w), abandonJobs_wing_st,
    State.wing_congr (State.onThr_wings _ _), wing_setWingSt]

end

theorem destroyWing_freezing {s : State} {w : WingId} (h : (s.wing w).st = .freezing) :
    (destroyWing s w).wing w = { s.wing w with destroyPending := true } := by
  simp [destroyWing, h]

theorem destroyWing_wing_st {s : State} {w : WingId} (h : (s.wing w).st ≠ .freezing) :
    ((destroyWing s w).wing w).st = .clearing := by
  rw [destroyWing, if_neg h, startClearing_wing_st]

theorem createWing_wing {s : State} {v : List Byte} {w : WingId} (h : idx 16 (parseCreate v).wing = some w) :
    (createWing s v).wing w = { createdWing (parseCreate v) with st := .populate } := by
  simp [createWing, h, State.wing]


/-! ### The other effects of a sealed write -/

section
variable (s : State) (r : Request)

@[simp] theorem answerDone_tenancy (c : Cond) : KeepsTenancy s (answerDone s r c) := by
  unfold answerDone
  split <;> exact ⟨rfl, rfl, rfl⟩

@[simp] theorem answerDone_wingTop (c : Cond) : (answerDone s r c).wingTop = s.wingTop := by
  unfold answerDone
  split <;> rfl

@[simp] theorem answerDone_thr (c : Cond) : (answerDone s r c).thr = s.thr := by
  unfold answerDone
  split <;> rfl

@[simp] theorem countReservedPart_tenancy (o : ObjId) : KeepsTenancy s (countReservedPart s r o) := by
  unfold countReservedPart
  split <;> exact ⟨rfl, rfl, rfl⟩

@[simp] theorem countReservedPart_thr (o : ObjId) : (countReservedPart s r o).thr = s.thr := by
  unfold countReservedPart
  split <;> rfl

@[simp] theorem answerDone_wing (c : Cond) (w : WingId) : (answerDone s r c).wing w = s.wing w := by
  simp [State.wing]

@[simp] theorem answerDone_image (c : Cond) (w : WingId) (g : Fin 32) : (answerDone s r c).image w g = s.image w g := by
  simp [State.image]

@[simp] theorem countReservedPart_wing (o : ObjId) (w : WingId) : (countReservedPart s r o).wing w = s.wing w := by
  simp [State.wing]

end

theorem alarmReset_thr (s : State) : (alarmReset s).thr.st = (if s.thr.st = .locked then .normal else s.thr.st) ∧
    (alarmReset s).thr.failTimes = [] := by
  unfold alarmReset programSvn
  dsimp only
  split <;> exact ⟨rfl, rfl⟩

/-! ### Images (R220, R223, R224) -/

section
variable (s : State) (w : WingId) (g : Fin 32)

theorem image_onImage (f : Image → Image) : (s.onImage w g f).image w g = f (s.image w g) := by
  simp [State.onImage, State.image]

theorem image_onCellar {f : Cellar → Cellar} (h : ∀ c, (f c).images = c.images) :
    (s.onCellar f).image w g = s.image w g := by
  rw [State.image, State.onCellar, h, State.image]

theorem image_startVerify_st (job : Option Nat) : ((startVerify s w g job).image w g).st = .verifying := by
  rw [startVerify, image_onImage]

theorem hasBlocks_congr {s t : State} (h : t.cellar.stk = s.cellar.stk) : hasBlocks t w g = hasBlocks s w g := by
  rw [hasBlocks, h, hasBlocks]

theorem image_checkEmpty_st (h : (s.image w g).st = .erasing) :
    ((checkEmpty s w g).image w g).st = if hasBlocks s w g = true then .erasing else .empty := by
  unfold checkEmpty
  cases hb : hasBlocks s w g
  · simp only [h]
    exact congrArg Image.st (image_onImage s w g _)
  · simp [h]

/-- An accepted erase: ERASING while a block is the image's own, and EMPTY where none is (R220, R224). -/
theorem image_startImageErase_st :
    ((startImageErase s w g).image w g).st = if hasBlocks s w g = true then .erasing else .empty := by
  unfold startImageErase
  dsimp only
  have hloads (l : List Job) : (l.foldl (fun s j => failJob s j 0x0602 0xFF 0) s).cellar = s.cellar :=
    foldl_keeps (p := State.cellar) (fun s j => (failJob_tenancy s j _ _ _).2.2) l s
  rw [image_checkEmpty_st]
  · refine congrArg (fun b : Bool => if b = true then ImgSt.erasing else ImgSt.empty) ?_
    simp only [hasBlocks, State.onCellar, hloads, Vector.toList_map, List.any_map]
    refine congrArg (List.any _) (funext fun k => ?_)
    simp only [Function.comp_apply, List.any_map]
    refine congrArg (List.any _) (funext fun b => ?_)
    simp only [Function.comp_apply, apply_ite Prod.snd, apply_ite Block.owner, ite_self]
  · simp [State.image]
end

/-! ### The effect of each write, and O1 -/

section
variable {s : State} {r : Request} {o : ObjId}

theorem writeEffect_create (h : rowOf r = .create) {w : WingId} (hw : idx 16 (parseCreate r.value).wing = some w) :
    (writeEffect s r o).wing w = { createdWing (parseCreate r.value) with st := .populate } := by
  rw [writeEffect, h]
  exact createWing_wing hw

theorem writeEffect_destroy (h : rowOf r = .destroy) {w : WingId} (hw : idx 16 (leNat r.value) = some w) :
    if (s.wing w).st = .freezing then
      ((writeEffect s r o).wing w).destroyPending = true ∧ ((writeEffect s r o).wing w).st = .freezing
    else ((writeEffect s r o).wing w).st = .clearing := by
  have heff : writeEffect s r o =
      destroyWing ((countReservedPart s r o).onTop fun t => { t with destroyLast := BitVec.ofNat 8 (leNat r.value) }) w := by
    rw [writeEffect, h]
    dsimp only
    rw [hw]
  have hwing (f : WingTop → WingTop) : ((countReservedPart s r o).onTop f).wing w = s.wing w :=
    countReservedPart_wing s r o w
  rw [heff]
  split
  · next hst =>
    rw [destroyWing_freezing (by rwa [hwing]), hwing]
    exact ⟨rfl, hst⟩
  · next hst => exact destroyWing_wing_st (by rwa [hwing])

theorem writeEffect_houseFloor (h : rowOf r = .houseFloor) (hm : r.mem.toNat = 8) :
    (writeEffect s r .wings).wingTop.houseFloor = BitVec.ofNat 16 (leNat r.value) := by
  rw [writeEffect, h]
  simp [setEntry, hm]

theorem writeEffect_debugUnlock (h : rowOf r = .debugUnlock) :
    (writeEffect s r o).thr = debugUnlock s.thr (leNat r.value) := by
  rw [writeEffect, h]
  simp

theorem writeEffect_alarmReset (h : rowOf r = .alarmReset) :
    (writeEffect s r o).thr.st = (if s.thr.st = .locked then .normal else s.thr.st) ∧
      (writeEffect s r o).thr.failTimes = [] := by
  rw [writeEffect, h, ← countReservedPart_thr s r o]
  exact alarmReset_thr _

theorem writeEffect_imageCommit (h : rowOf r = .imageCommit) :
    ((writeEffect s r o).image (wingOf o) (imageOf (leNat r.value))).st = .verifying := by
  rw [writeEffect, h]
  dsimp only
  rw [image_onCellar, image_startVerify_st]
  exact fun _ => rfl

theorem writeEffect_imageErase (h : rowOf r = .imageErase) :
    ((writeEffect s r o).image (wingOf o) (imageOf (leNat r.value))).st =
      if hasBlocks s (wingOf o) (imageOf (leNat r.value)) = true then .erasing else .empty := by
  have hblocks := hasBlocks_congr (wingOf o) (imageOf (leNat r.value)) (s := s) (t := countReservedPart s r o) (by simp)
  rw [writeEffect, h, ← hblocks]
  dsimp only
  rw [image_onCellar, image_startImageErase_st]
  exact fun _ => rfl

end

/-- Settles O1: a sealed write at once is `sealed_atOnce`, and each effect is the one of its own operation. -/
theorem sealedWritesThatActAtOnce : Obligations.SealedWritesThatActAtOnce := by
  refine ⟨?_, ?_, ?_, ?_, ?_, ?_, ?_⟩ <;> intro s r hturn hw hrow
  all_goals
    obtain ⟨t, ht, hs⟩ := sealed_atOnce hturn hw hrow (by decide)
    refine ⟨t, ht, hs.imp ?_⟩
    rintro s2 o ⟨⟨v, hp⟩, rfl⟩
  · intro w hw
    rw [answerDone_wing, writeEffect_create hrow hw]
  · intro w hw
    rw [answerDone_wing]
    exact writeEffect_destroy hrow hw
  · obtain ⟨rfl, hm⟩ := Prod.mk.inj (Option.some.inj hp)
    rw [answerDone_wingTop, writeEffect_houseFloor hrow hm.symm]
  · rw [answerDone_thr, writeEffect_debugUnlock hrow]
    exact ⟨rfl, rfl⟩
  · rw [answerDone_thr]
    exact writeEffect_alarmReset hrow
  · rw [answerDone_image]
    exact writeEffect_imageCommit hrow
  · rw [answerDone_image]
    exact writeEffect_imageErase hrow

end Sys2Proof.Machine
end

section
/-!
The state after reset (R40, R144, R223, R511, R513, R523, R564, R571): what each table holds, and O58.
-/
namespace Sys2Proof.Machine
open Sys2Proof

theorem get_replicate {α : Type} {n : Nat} (x : α) (i : Fin n) : (Vector.replicate n x).get i = x :=
  Vector.getElem_replicate i.2

theorem get_ofFn {α : Type} {n : Nat} (f : Fin n → α) (i : Fin n) : (Vector.ofFn f).get i = f i :=
  Vector.getElem_ofFn i.2

@[simp] theorem reset_storey (i : StoreyId) : State.reset.storey i = Storey.init := get_replicate _ i

theorem reset_wing (w : WingId) : State.reset.wing w = if w = 0 then Wing.houseInit else Wing.free := get_ofFn _ w

@[simp] theorem reset_image (w : WingId) (g : Fin 32) : State.reset.image w g = Image.none := by
  have hwing : State.reset.cellar.images.get w = Vector.replicate 32 Image.none := get_replicate _ w
  rw [State.image, hwing, get_replicate]

@[simp] theorem reset_pstream (k : Fin 16) : State.reset.porch.streams.get k = PStream.init := get_replicate _ k

@[simp] theorem reset_page (g : Fin 64) : State.reset.porch.pages.get g = ⟨false, 0, false⟩ := get_replicate _ g

/-- Settles O58: every table holds one value in all its places, but for the house wing. -/
theorem stateAfterReset : Obligations.StateAfterReset := by
  refine ⟨rfl, rfl, fun i => ?_, fun w hw => ?_, fun w i => ?_, fun k => ?_, fun g => ?_, rfl, rfl, reset_memWf⟩
  · rw [reset_storey]
    exact ⟨rfl, rfl⟩
  · rw [reset_wing, if_neg hw, Wing.free]
  · rw [reset_image, Image.none]
  · rw [reset_pstream, PStream.init]
  · rw [reset_page]

end Sys2Proof.Machine
end

section
/-!
The life of a wing (R39, R40, R42, R43, R198): freezing and thawing its Rooms, and O4.
-/
namespace Sys2Proof.Machine
open Sys2Proof

/-! ### The Rooms of a mask -/

theorem mem_onesOf {n : Nat} {m : BitVec n} {i : Fin n} : i ∈ onesOf m ↔ m.getLsbD i.1 = true := by
  simp [onesOf]

theorem nodup_onesOf {n : Nat} (m : BitVec n) : (onesOf m).Nodup := (List.nodup_finRange n).filter _

theorem room_foldl_onRoom {l : List RoomId} (hl : l.Nodup) (s : State) (f : Room → Room) (q : RoomId) :
    (l.foldl (fun s r => s.onRoom r f) s).room q = if q ∈ l then f (s.room q) else s.room q := by
  induction l generalizing s with
  | nil => simp
  | cons r l ih =>
    obtain ⟨hr, hl⟩ := List.nodup_cons.mp hl
    rw [List.foldl_cons, ih hl]
    by_cases hq : q = r
    · subst hq
      simp [hr]
    · simp [hq, State.room_onRoom_ne s f (Ne.symm hq)]

theorem room_onMask {m : W32} {q : RoomId} (h : m.getLsbD q.1 = true) (s : State) (f : Room → Room) :
    (onMask s m f).room q = f (s.room q) := by
  rw [onMask, room_foldl_onRoom (nodup_onesOf m), if_pos (mem_onesOf.mpr h)]

theorem State.room_congr {s t : State} (h : t.rooms = s.rooms) (q : RoomId) : t.room q = s.room q :=
  congrArg (·.get q) h

/-! ### Freezing and thawing (R42) -/

section
variable (s : State) (w : WingId)

@[simp] theorem pausePorch_tenancy : KeepsTenancy s (pausePorch s w) := ⟨rfl, rfl, rfl⟩

@[simp] theorem resumePorch_tenancy : KeepsTenancy s (resumePorch s w) := ⟨rfl, rfl, rfl⟩

@[simp] theorem resumeStreams_wings : (resumeStreams s w).wings = s.wings := rfl

@[simp] theorem resumeStreams_rooms : (resumeStreams s w).rooms = s.rooms := rfl

@[simp] theorem pauseStreams_wings : (pauseStreams s w).wings = s.wings := rfl

theorem startFreeze_wing (by_ : FrozenBy) : (startFreeze s w by_).wing w =
    { s.wing w with frozenBy := by_, recorded := (s.wing w).st, st := .freezing } := by
  simp [startFreeze, State.wing]

theorem startFreeze_room (by_ : FrozenBy) {q : RoomId} (h : (s.wing w).roomMask.getLsbD q.1 = true) :
    (startFreeze s w by_).room q = freezeRoom (s.room q) := by
  rw [startFreeze, State.room_congr (pausePorch_tenancy _ w).2.1, room_onMask h, State.room_congr (setWingSt_rooms _ _ _)]
  rfl

/-- Only an alarm's freeze leaves the state to thaw to in `recorded` (R42). -/
theorem thawWing_wing (h : (s.wing w).frozenBy ≠ .alarm) :
    (thawWing s w).wing w = { s.wing w with frozenBy := .none, st := .run } := by
  simp [thawWing, State.wing] at h ⊢
  simp [h]

theorem thawWing_room {q : RoomId} (h : (s.wing w).roomMask.getLsbD q.1 = true) :
    (thawWing s w).room q = thawRoom (s.room q) := by
  rw [thawWing, State.room_congr (resumePorch_tenancy _ w).2.1, State.room_congr (resumeStreams_rooms _ w), room_onMask h,
    State.room_congr (setWingSt_rooms _ _ _)]
  rfl

/-! ### Matches delivered at the thaw (R198) -/

@[simp] theorem deliverMatch_wings (n : Fin 64) (t : W48) (late freeze : Bool) :
    (deliverMatch s n t late freeze).wings = s.wings := by
  unfold deliverMatch raisePhase
  dsimp only
  repeat' split
  all_goals simp

@[simp] theorem deliverLatched_wings : (deliverLatched s w).wings = s.wings := by
  refine foldl_keeps (p := State.wings) (fun s n => ?_) _ s
  dsimp only
  repeat' split
  all_goals simp

/-- The state of a Room, with the one it had before it froze. -/
def State.roomSts (s : State) (q : RoomId) : RoomSt × RoomSt := ((s.room q).st, (s.room q).stBefore)

theorem roomSts_congr {s t : State} (h : t.rooms = s.rooms) (q : RoomId) : t.roomSts q = s.roomSts q := by
  simp only [State.roomSts, State.room_congr h]

theorem raisePhase_roomSts (r : RoomId) (n : Fin 64) (q : RoomId) : (raisePhase s r n).roomSts q = s.roomSts q := by
  have hroom (f : Room → Room) : (s.onRoom r f).room q = if r = q then f (s.room q) else s.room q := get_vmod _ _ _ _
  rw [raisePhase, State.roomSts, hroom]
  split <;> rfl

/-- A match raises an interrupt of its Room at most. -/
theorem deliverMatch_roomSts (n : Fin 64) (t : W48) (late freeze : Bool) (q : RoomId) :
    (deliverMatch s n t late freeze).roomSts q = s.roomSts q := by
  unfold deliverMatch
  dsimp only
  rw [apply_ite (fun s : State => s.roomSts q), raisePhase_roomSts, ite_self]
  exact roomSts_congr (by split <;> simp) q

theorem deliverLatched_roomSts (q : RoomId) : (deliverLatched s w).roomSts q = s.roomSts q := by
  refine foldl_keeps (p := fun s => s.roomSts q) (fun s n => ?_) _ s
  dsimp only
  split
  · split
    · rw [deliverMatch_roomSts]
      rfl
    · rfl
  · rfl

end

/-! ### RUN, FREEZE and THAW of a wing (R40) -/

section
variable {s : State} {r : Request} {w : WingId}

theorem control_value {row : WriteRow} (hrow : rowOf r = row) (hmem : row ∈ [WriteRow.run, .freeze, .thaw]) :
    r.mem.toNat = 7 ∧ 1 ≤ leNat r.value ∧ leNat r.value ≤ 3 := by
  subst hrow
  unfold rowOf at hmem
  split at hmem
  case h_4 hm =>
    refine ⟨hm, ?_⟩
    split at hmem
    case h_4 => simp at hmem
    all_goals omega
  all_goals simp at hmem

/-- A CONTROL write that its check accepts takes effect at once. -/
theorem control_accepted {row : WriteRow} (h : s.inTurn r) (hw : r.write = true) (hrow : rowOf r = row)
    (hmem : row ∈ [WriteRow.run, .freeze, .thaw]) (ho : objectOf r.obj = some (.wing0 w))
    (hc : controlCheck s.taken w row = 0) :
    writeCommand row s = .next (answerDone (writeEffect s.taken r (.wing0 w)) r 0) := by
  obtain ⟨hm, hval⟩ := control_value hrow hmem
  have he : requestEntry r = some (.wing0 w, ⟨.u8, .wo, false⟩) := by
    rw [requestEntry, ho, hm]
    rfl
  have hr : rangeCheck (.wing0 w) r.mem.toNat r.value = 0 := by
    rw [hm]
    exact if_pos hval
  simp only [List.mem_cons, List.not_mem_nil, or_false] at hmem
  rw [writeCommand_inTurn h hw hrow, actOnWrite_plain he (by decide)]
  rcases hmem with rfl | rfl | rfl
  all_goals
    rw [handleChecked_accepted hr (by rw [ownCheck, hrow]; exact hc)]
    simp [acceptedWrite, norEffect, hrow]

theorem writeEffect_run {o : ObjId} (h : rowOf r = .run) :
    (writeEffect s r o).wing (wingOf o) = { s.wing (wingOf o) with st := .run } := by
  rw [writeEffect, h]
  dsimp only
  rw [State.wing_congr (runHeld_tenancy _ _).1, wing_setWingSt, countReservedPart_wing]

theorem writeEffect_freeze {o : ObjId} (h : rowOf r = .freeze) :
    writeEffect s r o = startFreeze (countReservedPart s r o) (wingOf o) .host := by
  rw [writeEffect, h]

/-- What a thaw does beside `thawWing` touches neither the wings nor the state of a Room. -/
theorem writeEffect_thaw {o : ObjId} (h : rowOf r = .thaw) :
    (writeEffect s r o).wings = (thawWing (countReservedPart s r o) (wingOf o)).wings ∧
      ∀ q, (writeEffect s r o).roomSts q = (thawWing (countReservedPart s r o) (wingOf o)).roomSts q := by
  rw [writeEffect, h]
  dsimp only
  constructor
  · split <;> simp
  · intro q
    rw [apply_ite (fun s : State => s.roomSts q), roomSts_congr (runHeld_tenancy _ _).2.1, ite_self,
      roomSts_congr (abortOwed_tenancy _ _).2.1, deliverLatched_roomSts]

theorem execControlRun_populate (h : s.inTurn r) (hw : r.write = true) (hrow : rowOf r = .run)
    (ho : objectOf r.obj = some (.wing0 w)) (h0 : w ≠ 0) (hst : (s.wing w).st = .populate)
    (hl : keyFilled s (larderSlot w) = true) (hc : keyFilled s (cellarSlot w) = true) :
    ∃ t, exec .controlRun s = .next t ∧ (t.wing w).st = .run := by
  have hcheck : controlCheck s.taken w .run = 0 := if_pos ⟨h0, by
    show ((s.wing w).st == .populate && keyFilled s (larderSlot w) && keyFilled s (cellarSlot w)) = true
    simp [hst, hl, hc]⟩
  refine ⟨_, control_accepted h hw hrow (by decide) ho hcheck, ?_⟩
  rw [answerDone_wing]
  exact congrArg Wing.st (writeEffect_run hrow)

theorem execControlFreeze_run (h : s.inTurn r) (hw : r.write = true) (hrow : rowOf r = .freeze)
    (ho : objectOf r.obj = some (.wing0 w)) (h0 : w ≠ 0) (hst : (s.wing w).st = .run) :
    ∃ t, exec .controlFreeze s = .next t ∧ (t.wing w).st = .freezing ∧ (t.wing w).frozenBy = .host ∧
      ∀ q : RoomId, (s.wing w).roomMask.getLsbD q.1 = true → t.room q = freezeRoom (s.room q) := by
  have hcheck : controlCheck s.taken w .freeze = 0 := if_pos ⟨h0, beq_iff_eq.mpr hst⟩
  refine ⟨_, control_accepted h hw hrow (by decide) ho hcheck, ?_⟩
  rw [writeEffect_freeze hrow, wingOf, answerDone_wing, startFreeze_wing]
  refine ⟨rfl, rfl, fun q hq => ?_⟩
  rw [State.room_congr (answerDone_tenancy _ r 0).2.1, startFreeze_room _ _ _ (by rwa [countReservedPart_wing]),
    State.room_congr (countReservedPart_tenancy _ r _).2.1]
  rfl

theorem execControlThaw_frozen (h : s.inTurn r) (hw : r.write = true) (hrow : rowOf r = .thaw)
    (ho : objectOf r.obj = some (.wing0 w)) (h0 : w ≠ 0) (hst : (s.wing w).st = .frozen)
    (hby : (s.wing w).frozenBy = .host) :
    ∃ t, exec .controlThaw s = .next t ∧ (t.wing w).st = .run ∧ (t.wing w).frozenBy = .none ∧
      ∀ q : RoomId, (s.wing w).roomMask.getLsbD q.1 = true → (t.room q).st = (thawRoom (s.room q)).st := by
  have hcheck : controlCheck s.taken w .thaw = 0 := if_pos ⟨h0, by
    show ((s.wing w).st == .frozen && ((s.wing w).frozenBy == .host || s.thr.st != .locked)) = true
    simp [hst, hby]⟩
  obtain ⟨hwings, hrooms⟩ := writeEffect_thaw (s := s.taken) (o := .wing0 w) hrow
  rw [wingOf] at hwings
  simp only [wingOf] at hrooms
  have hthaw : (writeEffect s.taken r (.wing0 w)).wing w = { s.wing w with frozenBy := .none, st := .run } := by
    rw [State.wing_congr hwings, thawWing_wing _ _ (by rw [countReservedPart_wing]; exact hby ▸ by decide),
      countReservedPart_wing]
    rfl
  refine ⟨_, control_accepted h hw hrow (by decide) ho hcheck, ?_⟩
  rw [answerDone_wing, hthaw]
  refine ⟨rfl, rfl, fun q hq => ?_⟩
  have hroom := congrArg Prod.fst (hrooms q)
  rw [State.roomSts, State.roomSts, thawWing_room _ _ (by rwa [countReservedPart_wing]),
    State.room_congr (countReservedPart_tenancy _ r _).2.1] at hroom
  rw [State.room_congr (answerDone_tenancy _ r 0).2.1]
  exact hroom

end

/-! ### The ends of stopping and of clearing (R40, R42, R43) -/

section
variable {s : State} {w : WingId}

theorem execWingFrozen_stopped (hst : (s.wing w).st = .freezing) (hstop : wingStopped s w = true) :
    ∃ t, exec (.wingFrozen w) s = .next t ∧
      (t.wing w).st = if (s.wing w).destroyPending = true then .clearing else .frozen := by
  rw [exec_wingFrozen, execWingFrozen, if_pos ⟨hst, hstop⟩]
  cases hd : (s.wing w).destroyPending
  · refine ⟨_, rfl, ?_⟩
    rw [State.wing_congr (pauseStreams_wings _ w), wing_setWingSt]
    rfl
  · exact ⟨_, rfl, startClearing_wing_st s w⟩

theorem finishClearing_wing (s : State) (w : WingId) :
    (finishClearing s w).wing w = { Wing.free with abortedJobs := (s.wing w).abortedJobs } := by
  simp [finishClearing, State.wing, Wing.free]

theorem finishClearing_ring (s : State) (w : WingId) : (finishClearing s w).ring w = Ring.init := by
  rw [finishClearing, State.ring_onRing_same]

end

/-- Settles O4: each command of CONTROL by its own lemma, the end of stopping by `execWingFrozen_stopped` and the end of
clearing by `finishClearing`. -/
theorem lifecycleOfWings : Obligations.LifecycleOfWings := by
  refine ⟨fun s r w => execControlRun_populate, ?_, ?_, fun s w => execWingFrozen_stopped, ?_⟩
  · intro s r w hturn hw hrow ho h0 hst
    obtain ⟨t, ht, hst', hby, hrooms⟩ := execControlFreeze_run hturn hw hrow ho h0 hst
    refine ⟨t, ht, hst', hby, fun q hq hrun => ?_⟩
    rw [hrooms q hq, freezeRoom, if_pos hrun]
    exact ⟨rfl, rfl⟩
  · intro s r w hturn hw hrow ho h0 hst hby
    obtain ⟨t, ht, hst', hby', hrooms⟩ := execControlThaw_frozen hturn hw hrow ho h0 hst hby
    refine ⟨t, ht, hst', hby', fun q hq hfrozen => ?_⟩
    rw [hrooms q hq, thawRoom, if_pos hfrozen]
  · intro s w hst hkeys hlines
    exact ⟨_, if_pos ⟨hst, hkeys, hlines⟩, finishClearing_wing s w, finishClearing_ring s w⟩

end Sys2Proof.Machine
end

section
/-!
Transactions of the dictionary server on CAN and the host mailbox (R99-R104, R108, R109, R114, R117, R118): what the first
segment of a request, a refusal, a shown answer segment and the queued alerts make of the server's tables, and O7.
-/
namespace Sys2Proof.Machine
open Sys2Proof

/-! ### The first segment of a request (R99-R101) -/

section
variable {s : State} {who : Requester} {seq : BitVec 6} {pri : BitVec 3} {irq last : Bool} {bytes : List Byte}

/-- Checks 1 to 8 of R101 as segment 0 meets them. -/
abbrev firstChecks (s : State) (who : Requester) (seq : BitVec 6) (pri : BitVec 3) (h : Header) : Cond :=
  headChecks s who seq pri (h.clean && (h.op == 1 || h.op == 2)) (h.op == 2) h.act h.obj h.mem h.length

theorem takeFirst_refused (hlen : 12 ≤ bytes.length) (hc : firstChecks s who seq pri (parseHeader bytes) ≠ 0) :
    takeFirst s who seq pri irq bytes last = refuseFirst (countRefused s) ((parseHeader bytes).request who seq pri irq)
      (firstChecks s who seq pri (parseHeader bytes)) := by
  rw [takeFirst, if_neg (by omega)]
  exact if_pos hc

@[simp] theorem countRefused_mgmt (s : State) :
    (countRefused s).mgmt = { s.mgmt with refusedCount := satAdd s.mgmt.refusedCount 1 } := rfl

@[simp] theorem answerEarly_mgmt (s : State) (r : Request) (c : Cond) :
    (answerEarly s r c).mgmt = { s.mgmt with answers := s.mgmt.answers ++ [⟨r, c, [], false, false⟩] } := rfl

@[simp] theorem answerCond_mgmt (s : State) (r : Request) (c : Cond) :
    (answerCond s r c).mgmt = { s.mgmt with answers := s.mgmt.answers ++ [⟨r, c, [], false, true⟩] } := rfl

/-- A refused request of a mailbox slot leaves the slot OPEN until the refusal is shown (R101, R117). -/
theorem refuseFirst_mailbox {r : Request} {c : Cond} {w : WingId} {k : Fin 4} (h : r.who = .mailbox w k) :
    refuseFirst s r c =
      (answerCond s r c).onMgmt fun m => { m with txns := m.txns ++ [⟨r.who, r.seq, r.pri, r.irq, 1, [], false, true⟩] } := by
  rw [refuseFirst, h]

theorem refuseFirst_can {r : Request} {c : Cond} {n : BitVec 12} (h : r.who = .can n) :
    refuseFirst s r c = answerEarly s r c := by
  rw [refuseFirst, h]

/-- The transactions with the one of `who` and `seq` complete. -/
def completed (l : List Txn) (who : Requester) (seq : BitVec 6) : List Txn :=
  l.map fun t => if t.who == who && t.seq == seq then { t with complete := true } else t

theorem completed_mem {l : List Txn} {x : Txn} (h : x ∈ l) :
    { x with complete := true } ∈ completed l x.who x.seq :=
  List.mem_map.2 ⟨x, h, by simp⟩

/-- The transaction that a first segment opens (R99). -/
def opened (s : State) (who : Requester) (seq : BitVec 6) (pri : BitVec 3) (irq : Bool) (bytes : List Byte) : State :=
  let h := parseHeader bytes
  openTxn s who seq pri irq (h.op == 2) h.obj h.mem bytes false

theorem opened_txns : (opened s who seq pri irq bytes).mgmt.txns =
    s.mgmt.txns ++ [⟨who, seq, pri, irq, 1, bytes, false, false⟩] := rfl

/-- A request that its first segment completes opens its transaction, and is ready behind the answers queued already. -/
theorem takeFirst_whole (hlen : 12 ≤ bytes.length) (hc : firstChecks s who seq pri (parseHeader bytes) = 0)
    (hneed : streamNeed (parseHeader bytes) ≤ bytes.length) (hcrc : streamCrcOk bytes = true) :
    takeFirst s who seq pri irq bytes true = (opened s who seq pri irq bytes).onMgmt fun m =>
      { m with txns := completed m.txns who seq,
               ready := m.ready ++ [(parseRequest who seq pri irq bytes, m.answers.length)] } := by
  have hgood : ¬ (bytes.length < streamNeed (parseHeader bytes) ∨ (!streamCrcOk bytes) = true) := by simp [hneed, hcrc]
  calc takeFirst s who seq pri irq bytes true
      = endStream (opened s who seq pri irq bytes) who seq pri irq bytes true := by
        rw [takeFirst, if_neg (by omega)]
        exact if_neg fun h => h hc
    _ = _ := if_neg hgood

theorem takeFirst_whole_txn (hlen : 12 ≤ bytes.length) (hc : firstChecks s who seq pri (parseHeader bytes) = 0)
    (hneed : streamNeed (parseHeader bytes) ≤ bytes.length) (hcrc : streamCrcOk bytes = true) :
    ⟨who, seq, pri, irq, 1, bytes, true, false⟩ ∈ (takeFirst s who seq pri irq bytes true).mgmt.txns := by
  rw [takeFirst_whole hlen hc hneed hcrc]
  exact completed_mem (x := ⟨who, seq, pri, irq, 1, bytes, false, false⟩) (by simp [opened_txns])

end

/-! ### CAN frames (R108, R109, R111) -/

section
variable {s : State} {f : CanFrame}

theorem canFrame_first (hup : serverUp s = true) (hen : s.mgmt.canEnable = true) (hbus : s.mgmt.canSt ≠ .busOff)
    (hfd : f.fdExtended = true) (hlen : f.payload.length ∈ canLengths) (hcls : f.id.toNat / 2 ^ 22 % 16 = 1)
    (hseg : f.id.toNat % 16 = 0) (h12 : 12 ≤ f.payload.length)
    (hto : (parseHeader f.payload).target = s.fabric.devAddr.toNat) :
    exec (.canFrame f) s = .next (takeFirst s (.can (BitVec.ofNat 12 (f.id.toNat / 1024))) (BitVec.ofNat 6 (f.id.toNat / 16))
      (BitVec.ofNat 3 (f.id.toNat / 2 ^ 26)) false f.payload (lastByLength 64 f.payload f.payload)) := by
  have hseg0 : BitVec.ofNat 4 f.id.toNat = 0 := BitVec.eq_of_toNat_eq (by simpa using hseg)
  have hmine : ¬ ((parseHeader f.payload).target ≠ s.fabric.devAddr.toNat ∨ f.payload.length < 4) := by omega
  rw [exec_canFrame, execCanFrame, if_neg (by simp [hup, hen, hbus]), if_neg (by simp [hfd, hlen])]
  simp only [hcls]
  rw [if_neg (by decide), if_pos trivial, if_neg hmine, if_neg fun h => h hseg0]

theorem canFrame_otherFormat (hup : serverUp s = true) (hen : s.mgmt.canEnable = true) (hbus : s.mgmt.canSt ≠ .busOff)
    (h : f.fdExtended = false ∨ f.payload.length ∉ canLengths) : exec (.canFrame f) s = .next (ignoreFrame s) := by
  rw [exec_canFrame, execCanFrame, if_neg (by simp [hup, hen, hbus]), if_pos (by simpa using h)]

theorem lastByLength_whole {size : Nat} {part bytes : List Byte} (h : streamNeed (parseHeader bytes) ≤ bytes.length) :
    lastByLength size part bytes = true := by
  simp [lastByLength, h]

end

/-! ### A mailbox slot (R117, R118, R123) -/

section
variable {s : State} {w : WingId} {k : Fin 4}

@[simp] theorem mbxSlot_onMbx_same (f : MbxSlot → MbxSlot) : (s.onMbx w k f).mbxSlot w k = f (s.mbxSlot w k) := by
  simp [State.onMbx, State.mbxSlot]

theorem mbxOpen_of_mem {x : Txn} (h : x ∈ s.mgmt.txns) (hw : x.who = .mailbox w k) : mbxOpen s w k = true :=
  List.any_eq_true.2 ⟨x, h, beq_iff_eq.2 hw⟩

theorem mbxWanted_of_not_open (h : mbxOpen s w k = false) : mbxWanted s w k = true := by simp [mbxWanted, h]

/-- The slot as a GO of segment 0 finds it: the answer shown before is gone. -/
def State.mbxBegun (s : State) (w : WingId) (k : Fin 4) (irq : Bool) : State :=
  s.onMbx w k fun y => { y with ready := false, ansRest := [], irq := irq }

/-- A GO changes no table of the server but the slots. -/
@[simp] theorem mbxBegun_tables (s : State) (w : WingId) (k : Fin 4) (irq : Bool) :
    (s.mbxBegun w k irq).mgmt.txns = s.mgmt.txns ∧ (s.mbxBegun w k irq).mgmt.ready = s.mgmt.ready ∧
      (s.mbxBegun w k irq).mgmt.answers = s.mgmt.answers := ⟨rfl, rfl, rfl⟩

/-- No check of R101 reads the mailbox slots. -/
theorem firstChecks_mbxBegun (s : State) (w : WingId) (k : Fin 4) (irq : Bool) {who : Requester}
    {seq : BitVec 6} {pri : BitVec 3} {h : Header} :
    firstChecks (s.mbxBegun w k irq) who seq pri h = firstChecks s who seq pri h := rfl

/-- A refused GO leaves the slot OPEN: its transaction is there, refused. -/
theorem takeFirst_mbx_refused {irq last : Bool} {part : List Byte} (h12 : 12 ≤ part.length)
    (hc : firstChecks s (.mailbox w k) 0 0 (parseHeader part) ≠ 0) :
    let t := takeFirst (s.mbxBegun w k irq) (.mailbox w k) 0 0 irq part last
    t.mgmt.txns = s.mgmt.txns ++ [⟨.mailbox w k, 0, 0, irq, 1, [], false, true⟩] ∧ t.mgmt.ready = s.mgmt.ready ∧
      t.mgmt.answers = s.mgmt.answers ++ [⟨(parseHeader part).request (.mailbox w k) 0 0 irq,
        firstChecks s (.mailbox w k) 0 0 (parseHeader part), [], false, true⟩] := by
  rw [takeFirst_refused h12 (fun h => hc ((firstChecks_mbxBegun s w k irq).symm.trans h)), firstChecks_mbxBegun,
    refuseFirst_mailbox rfl]
  simp [Header.request]

/-- A GO that holds a whole request leaves the slot OPEN with no answer shown. -/
theorem takeFirst_mbx_whole {irq : Bool} {part : List Byte} (h12 : 12 ≤ part.length)
    (hc : firstChecks s (.mailbox w k) 0 0 (parseHeader part) = 0)
    (hneed : streamNeed (parseHeader part) ≤ part.length) (hcrc : streamCrcOk part = true) :
    let t := takeFirst (s.mbxBegun w k irq) (.mailbox w k) 0 0 irq part true
    t.mgmt.ready = s.mgmt.ready ++ [(parseRequest (.mailbox w k) 0 0 irq part, s.mgmt.answers.length)] ∧
      mbxOpen t w k = true ∧ (t.mbxSlot w k).ready = false := by
  have hc := (firstChecks_mbxBegun s w k irq).trans hc
  refine ⟨?_, mbxOpen_of_mem (takeFirst_whole_txn h12 hc hneed hcrc) rfl, ?_⟩ <;> rw [takeFirst_whole h12 hc hneed hcrc]
  · rfl
  · exact congrArg MbxSlot.ready (mbxSlot_onMbx_same _)

/-- The segment of `len` bytes in the request buffer of a slot. -/
abbrev State.mbxPart (s : State) (w : WingId) (k : Fin 4) (len : Nat) : List Byte :=
  bytesAt ((s.mbxSlot w k).reqBuf ++ List.replicate 1024 0) 0 len

theorem mbxPart_length {len : Nat} (h : len ≤ 1024) : (s.mbxPart w k len).length = len := by
  simp only [State.mbxPart, bytesAt, List.drop_zero, List.length_take, List.length_append, List.length_replicate]
  omega

theorem mbxGo_first {len : Nat} {last irq : Bool} (h : s.mbxReady) (hopen : mbxOpen s w k = false) (h12 : 12 ≤ len)
    (h1024 : len ≤ 1024) : exec (.mbxGo w k 0 len last irq) s =
      .next (takeFirst (s.mbxBegun w k irq) (.mailbox w k) 0 0 irq (s.mbxPart w k len) last) := by
  have htaken : ¬ ((!mbxWanted s w k) = true ∨ len = 0 ∨ 1024 < len) := by
    rw [mbxWanted_of_not_open hopen]
    simp; omega
  rw [exec_mbxGo, execMbxGo, mbxRow_ready h, mbxGoOp, if_neg htaken, if_neg (by simp [hopen]), Nat.min_eq_left h1024]
  exact if_neg fun h => h rfl

theorem mbxGo_ignored {seg : BitVec 4} {len : Nat} {last irq : Bool} (h : s.mbxReady)
    (hno : mbxWanted s w k = false ∨ len = 0 ∨ 1024 < len) : exec (.mbxGo w k seg len last irq) s = .next (ignoreMbx s) := by
  rw [exec_mbxGo, execMbxGo, mbxRow_ready h, mbxGoOp, if_pos (by simpa using hno)]

@[simp] theorem signalVector_mgmt (s : State) (v : Fin 32) : (signalVector s v).mgmt = s.mgmt := by
  rw [signalVector]
  split <;> rfl

@[simp] theorem mbxSlot_mbxSignal (s : State) (w v : WingId) (k j : Fin 4) :
    (mbxSignal s w k).mbxSlot v j = s.mbxSlot v j := by
  rw [mbxSignal]
  split
  · rw [State.mbxSlot, signalVector_mgmt]; rfl
  · rfl

@[simp] theorem mbxSlot_closeTxn (s : State) (who : Requester) (seq : BitVec 6) (w : WingId) (k : Fin 4) :
    (closeTxn s who seq).mbxSlot w k = s.mbxSlot w k := rfl

/-- NEXT of a slot with more to show shows the next segment of its answer. -/
theorem mbxNext_shows (h : s.mbxReady) (hready : (s.mbxSlot w k).ready = true) (hmore : (s.mbxSlot w k).more = true) :
    ∃ t, exec (.mbxNext w k) s = .next t ∧
      t.mbxSlot w k = showSegment (s.mbxSlot w k) ((s.mbxSlot w k).ansSeg + 1) (s.mbxSlot w k).ansRest := by
  rw [exec_mbxNext, execMbxNext, mbxRow_ready h, mbxNextOp, if_neg (by simp [hready, hmore])]
  refine ⟨_, rfl, ?_⟩
  rw [mbxSlot_mbxSignal]
  split
  · exact mbxSlot_onMbx_same _
  · rw [mbxSlot_closeTxn, mbxSlot_onMbx_same]

end

/-! ### Transactions closed by a refusal (R104, R117) -/

section
variable {s : State} {r : Request} {c : Cond}

theorem refuseTxn_answers : (refuseTxn s r c).mgmt.answers = s.mgmt.answers ++ [⟨r, c, [], false, true⟩] := rfl

theorem refuseTxn_ready : (refuseTxn s r c).mgmt.ready = s.mgmt.ready := rfl

theorem refuseTxn_refused {y : Txn} (h : y ∈ (refuseTxn s r c).mgmt.txns) (hwho : y.who = r.who) (hseq : y.seq = r.seq) :
    y.refused = true := by
  obtain ⟨x, -, rfl⟩ := List.mem_map.1 h
  by_cases hx : (x.who == r.who && x.seq == r.seq) = true
  · rw [if_pos hx]
  · rw [if_neg hx] at hwho hseq
    exact absurd (by simp [hwho, hseq]) hx

theorem segTimeout_incomplete {who : Requester} {seq : BitVec 6} {x : Txn}
    (h : (s.mgmt.txns.find? fun t => t.who == who && t.seq == seq && !t.complete && !t.refused) = some x) :
    exec (.segTimeout who seq) s = .next ((refuseTxn s (parseRequest who seq x.pri x.irq x.bytes) 0x0309).onMgmt fun m =>
      { m with timeouts := satAdd m.timeouts 1 }) := by
  rw [exec_segTimeout, execSegTimeout, h]

/-- The state with the requests of a sender taken out of the queue. -/
def State.withdrawn (s : State) (who : Requester) : State :=
  s.onMgmt fun m => { m with ready := m.ready.filter fun r => r.1.who != who }

theorem mbxCancel_waiting {w : WingId} {k : Fin 4} {x : Txn} (h : s.mbxReady) (hnor : s.mgmt.norPending = none)
    (hans : s.mgmt.answers = []) (hx : (s.mgmt.txns.find? fun t => t.who == .mailbox w k && !t.refused) = some x)
    (hwait : x.complete = false ∨ s.mgmt.ready.any (fun r => r.1.who == .mailbox w k) = true) :
    exec (.mbxCancel w k) s = .next (refuseTxn (s.withdrawn (.mailbox w k))
      (parseRequest (.mailbox w k) 0 0 x.irq x.bytes) 0x030D) := by
  have hbegun : ¬ (x.complete = true ∧ (!(s.mgmt.ready.any fun r => r.1.who == .mailbox w k)) = true) := by
    rintro ⟨hc, hr⟩
    rcases hwait with hwait | hwait
    · simp [hc] at hwait
    · simp [hwait] at hr
  rw [exec_mbxCancel, execMbxCancel, mbxRow_ready h, mbxCancelOp]
  simp only [hnor, hans, hx]
  exact if_neg (by simpa using hbegun)

end

/-! ### Queued alerts and bus-off (R108, R114) -/

/-- One alert is one message, and the queue of those that wait stays as it is. -/
theorem foldl_sendAlert (l : List LogRec) (s : State) :
    (l.foldl sendAlert s).mgmt.alertQueue = s.mgmt.alertQueue ∧ (l.foldl sendAlert s).out.length = s.out.length + l.length := by
  induction l generalizing s with
  | nil => exact ⟨rfl, rfl⟩
  | cons r l ih =>
    obtain ⟨hq, hout⟩ := ih (sendAlert s r)
    refine ⟨hq, ?_⟩
    rw [List.foldl_cons, hout, List.length_cons]
    simp [sendAlert]
    omega

theorem alertQueueSend_canUp {s : State} (h : canUp s = true) : exec .alertQueueSend s =
    .next (s.mgmt.alertQueue.foldl sendAlert (s.onMgmt fun m => { m with alertQueue := [] })) := by
  rw [exec_alertQueueSend, execAlertQueueSend, if_pos h]

/-- Settles O7: a request's first segment by `takeFirst_refused` and `takeFirst_whole` on either transport, a stream or a
request given up by `refuseTxn`, NEXT by the segment it shows and the queued alerts by `foldl_sendAlert`. -/
theorem managementTransactions : Obligations.ManagementTransactions := by
  refine ⟨⟨?_, ?_, ?_, ?_⟩, ?_, ?_, ?_, ?_, ?_⟩
  · intro s f hup hen hbus hfd hlen hcls hseg h12 hto
    refine ⟨_, canFrame_first hup hen hbus hfd hlen hcls hseg h12 hto, fun hc => ?_, fun hc hneed hcrc => ?_⟩
    · rw [takeFirst_refused h12 hc, refuseFirst_can rfl]
      simp
    · rw [lastByLength_whole hneed]
      have htxn := takeFirst_whole_txn (irq := false) h12 hc hneed hcrc
      refine ⟨?_, ⟨_, htxn, rfl, rfl, rfl⟩, ?_⟩ <;> rw [takeFirst_whole h12 hc hneed hcrc] <;> rfl
  · intro s f hup hen hbus h
    exact canFrame_otherFormat hup hen hbus h
  · intro s w k len irq h hopen h12 h1024
    have hlen : (s.mbxPart w k len).length = len := mbxPart_length h1024
    exact ⟨_, mbxGo_first h hopen h12 h1024, takeFirst_mbx_refused (hlen.symm ▸ h12),
      fun hc hneed hcrc => takeFirst_mbx_whole (hlen.symm ▸ h12) hc (hlen.symm ▸ hneed) hcrc⟩
  · intro s w k seg len last irq h hno
    exact mbxGo_ignored h hno
  · intro s who seq x hx
    exact ⟨_, segTimeout_incomplete hx, rfl, refuseTxn_answers, fun y hy => refuseTxn_refused hy⟩
  · intro s w k x h hnor hans hx hwait
    refine ⟨_, mbxCancel_waiting h hnor hans hx hwait, ?_, fun r hr => ?_⟩
    · rw [refuseTxn_answers]
      exact congrArg (· ++ _) hans
    · rw [refuseTxn_ready] at hr
      simpa using (List.mem_filter.1 hr).2
  · intro s w k h hready hmore
    obtain ⟨t, ht, hslot⟩ := mbxNext_shows h hready hmore
    refine ⟨t, ht, ?_⟩
    rw [hslot]
    exact ⟨rfl, rfl, rfl, rfl, rfl⟩
  · intro s h
    exact ⟨_, alertQueueSend_canUp h, foldl_sendAlert _ _⟩
  · intro s h
    rw [exec_canBusOffRecovery, execCanBusOffRecovery, if_pos h]
    exact ⟨_, rfl, rfl, rfl, rfl⟩

end Sys2Proof.Machine
end

section
/-!
What reports and packets leave (R113, R177, R190, R448, R464): a record of the dictionary log changes the host interface, the
dictionary server and what was sent; a packet that starts here changes the Doorways; one taken changes the inbox with them.
-/
namespace Sys2Proof.Machine
open Sys2Proof

/-! ### Tables -/

theorem get_tableOf {α : Type} {n : Nat} (f : Fin n → α) (i : Fin n) : (Vector.ofFn f).get i = f i := by
  change (Vector.ofFn f)[i.1] = f i
  exact Vector.getElem_ofFn i.2

theorem vmod_id {α : Type} {n : Nat} (v : Vector α n) (i : Fin n) : vmod v i id = v := by
  change v.set i.1 v[i.1] i.2 = v
  exact Vector.set_getElem_self i.2

/-! ### Reports -/

/-- Only the host interface, the dictionary server and what was sent differ. -/
def ReportsOnly (s t : State) : Prop := ∃ h m o, t = { s with host := h, mgmt := m, out := o }

theorem ReportsOnly.trans {s t u : State} : ReportsOnly s t → ReportsOnly t u → ReportsOnly s u := by
  rintro ⟨h, m, o, rfl⟩ ⟨h', m', o', rfl⟩
  exact ⟨h', m', o', rfl⟩

section
variable (s : State)

theorem signalVector_reports (v : Fin 32) : ReportsOnly s (signalVector s v) := by
  unfold signalVector
  dsimp only
  split <;> exact ⟨_, _, _, rfl⟩

theorem setAttn_reports (w : WingId) (b : Fin 6) : ReportsOnly s (setAttn s w b) := by
  unfold setAttn
  dsimp only
  split
  · exact ReportsOnly.trans ⟨_, _, _, rfl⟩ (signalVector_reports _ _)
  · exact ⟨_, _, _, rfl⟩

theorem alert_reports (r : LogRec) : ReportsOnly s (alert s r) := by
  unfold alert suppressAlert sendAlert
  repeat' split
  all_goals exact ⟨_, _, _, rfl⟩

theorem logCond_reports (code : Cond) (wing unit : Byte) (detail : W32) :
    ReportsOnly s (logCond s code wing unit detail) :=
  ReportsOnly.trans (ReportsOnly.trans ⟨_, _, _, rfl⟩ (alert_reports _ _)) (setAttn_reports _ _ _)

theorem logDev_reports (c : Cond) : ReportsOnly s (logDev s c) := logCond_reports s c 0xFF 0xFF 0

end

section
variable {s t : State} (h : ReportsOnly s t)
include h

theorem ReportsOnly.phase_eq : t.phase = s.phase := by obtain ⟨_, _, _, rfl⟩ := h; rfl
theorem ReportsOnly.fuse_eq : t.fuse = s.fuse := by obtain ⟨_, _, _, rfl⟩ := h; rfl
theorem ReportsOnly.fabric_eq : t.fabric = s.fabric := by obtain ⟨_, _, _, rfl⟩ := h; rfl

end

section
variable (s : State) (c : Cond)

@[simp] theorem logDev_phase : (logDev s c).phase = s.phase := (logDev_reports s c).phase_eq
@[simp] theorem logDev_fuse : (logDev s c).fuse = s.fuse := (logDev_reports s c).fuse_eq
@[simp] theorem logDev_fabric : (logDev s c).fabric = s.fabric := (logDev_reports s c).fabric_eq

/-- A condition reported where a test asks for it. -/
theorem ite_logDev_reports (p : Prop) [Decidable p] : ReportsOnly s (if p then logDev s c else s) := by
  split
  · exact logDev_reports s c
  · exact ⟨_, _, _, rfl⟩

@[simp] theorem ite_logDev_phase (p : Prop) [Decidable p] : (if p then logDev s c else s).phase = s.phase :=
  (ite_logDev_reports s c p).phase_eq

@[simp] theorem ite_logDev_fuse (p : Prop) [Decidable p] : (if p then logDev s c else s).fuse = s.fuse :=
  (ite_logDev_reports s c p).fuse_eq

end

/-! ### Packets sent and taken -/

/-- Only the Doorways differ. -/
def DoorsOnly (s t : State) : Prop := ∃ v, t = s.onFabric fun f => { f with doors := v }

theorem DoorsOnly.refl (s : State) : DoorsOnly s s := ⟨s.fabric.doors, rfl⟩

theorem DoorsOnly.trans {s t u : State} : DoorsOnly s t → DoorsOnly t u → DoorsOnly s u := by
  rintro ⟨v, rfl⟩ ⟨v', rfl⟩
  exact ⟨v', rfl⟩

theorem doorsOnly_foldl {α : Type} {f : State → α → State} (h : ∀ s a, DoorsOnly s (f s a)) (l : List α) (s : State) :
    DoorsOnly s (l.foldl f s) := by
  induction l generalizing s with
  | nil => exact .refl s
  | cons a l ih => exact (h s a).trans (ih _)

theorem doorsOnly_onDoor (s : State) (d : DoorId) (f : Doorway → Doorway) : DoorsOnly s (s.onDoor d f) := ⟨_, rfl⟩

section
variable (s : State)

theorem postPacket_doors (p : Packet) : DoorsOnly s (postPacket s p) := by
  unfold postPacket
  split
  · exact doorsOnly_onDoor _ _ _
  · exact .refl s

theorem postTo_doors (dst : DevAddr) (t : PktType) (data : List Byte) : DoorsOnly s (postTo s dst t data) :=
  postPacket_doors s _

theorem postOn_doors (d : DoorId) (t : PktType) (data : List Byte) : DoorsOnly s (postOn s d t data) := by
  unfold postOn
  split
  · exact doorsOnly_onDoor _ _ _
  · exact .refl s

theorem flood_doors (but : Option DoorId) (kind : Nat) (epoch : W16) (data : List Byte) :
    DoorsOnly s (flood s but kind epoch data) := by
  refine doorsOnly_foldl (fun s d => ?_) _ s
  unfold censusOn
  repeat' split
  · exact .refl s
  · exact doorsOnly_onDoor _ _ _
  · exact .refl s

end

/-- A packet leaves the inbox for the credits of its Doorway, whose link keeps its delay (R448). -/
theorem takePacket_frame {s s1 : State} {p : RxPacket → Bool} {x : RxPacket} (h : takePacket s p = some (x, s1)) :
    (∃ i v, s1 = s.onFabric fun f => { f with inbox := i, doors := v }) ∧ ∀ d, (s1.door d).delay = (s.door d).delay := by
  unfold takePacket at h
  split at h
  · obtain ⟨rfl, rfl⟩ := h
    refine ⟨⟨_, _, rfl⟩, fun d => ?_⟩
    simp only [oweCredits, State.door, State.onDoor, State.onFabric_fabric, get_vmod]
    split <;> rfl
  · contradiction

end Sys2Proof.Machine
end

section
/-!
The mains lock and the beacons (R187-R192, R210, R459): what an edge, a missing edge and a decision make of the phase base,
what a beacon makes of it, and O18. The model's choices that it rests on: the quotients are rounded down (log 34, 92), any
candidate takes over at 8 missing beacons (log 90), and VIRTUAL comes when the count of decisions is 11 (log 123).
-/
namespace Sys2Proof.Machine
open Sys2Proof

/-! ### The states of the mains lock (R188) -/

@[simp] theorem phaseStageEnd_phase (s : State) : (phaseStageEnd s).phase = s.phase := by
  unfold phaseStageEnd
  split <;> rfl

theorem enterHoldover_phase (s : State) (c : Cond) : (enterHoldover s c).phase =
    { s.phase with st := .holdover, hadValid := false, lastPeriod := none, run := [], goodEdges := 0, missingEdges := 0,
                   holdoverUsed := 0, startPending := false } := by
  simp [enterHoldover]

theorem enterVirtual_phase (s : State) : (enterVirtual s).phase =
    { s.phase with st := .virtual, mainsMhz := 50000, goodEdges := 0, missingEdges := 0 } := by
  simp [enterVirtual]

theorem enterAcquiring_phase (s : State) : (enterAcquiring s).phase =
    { s.phase with st := .acquiring, periods := s.phase.run.take 8, mainsMhz := mhzOf (s.phase.run.take 8), goodEdges := 0,
                   missingEdges := 0, startPending := s.phase.st == .unlocked } := by
  simp [enterAcquiring]

/-! ### Edges (R187-R189) -/

/-- Edges in a row with a phase error of at most 1 tick, once an edge has come now. -/
def goodAfter (p : PhaseBase) : Nat :=
  if -1 ≤ phaseError p.time ∧ phaseError p.time ≤ 1 then p.goodEdges + 1 else 0

section
variable {s : State} {dt : Nat}

theorem mainsEdge_tracks (hr : readsMains s = true) (hst : s.phase.st = .acquiring ∨ s.phase.st = .locked) :
    exec (.mainsEdge dt) s = .next (edgeTracking s dt) := by
  rcases hst with h | h <;> simp [execMainsEdge, hr, h]

section
variable (hp : s.phase.startPending = false)
  (h20 : 20 * absGap (dt * s.phase.periods.length) (sumOf s.phase.periods) ≤ sumOf s.phase.periods)
include hp h20

/-- A period within 2% of the mean and in range joins the last 8. -/
theorem edgeTracking_joins (hz : hzOk dt = true)
    (h50 : 50 * absGap (dt * s.phase.periods.length) (sumOf s.phase.periods) ≤ sumOf s.phase.periods) :
    (edgeTracking s dt).phase = { s.phase with
      periods := (dt :: s.phase.periods).take 8, mainsMhz := mhzOf ((dt :: s.phase.periods).take 8), missingEdges := 0,
      goodEdges := goodAfter s.phase,
      st := if s.phase.st = .acquiring ∧ 16 ≤ goodAfter s.phase then .locked else s.phase.st } := by
  rw [edgeTracking, if_neg (by omega), if_neg (by simp [hp]), if_neg (by simp [hz, h50])]
  change (if s.phase.st = .acquiring ∧ 16 ≤ goodAfter s.phase then logDev _ _ else _).phase = _
  by_cases hlock : s.phase.st = .acquiring ∧ 16 ≤ goodAfter s.phase
  · simp only [if_pos hlock, logDev_phase]
    rfl
  · simp only [if_neg hlock]
    rfl

/-- A period out of range that is no outlier ends the lock. -/
theorem edgeTracking_outOfRange (hz : hzOk dt = false) : edgeTracking s dt = enterHoldover s 0x0501 := by
  rw [edgeTracking, if_neg (by omega), if_neg (by simp [hp]), if_pos (by simp [hz])]

end

theorem mainsEdgeMissing_tracks (hr : readsMains s = true) (hst : s.phase.st = .acquiring ∨ s.phase.st = .locked) :
    exec .mainsEdgeMissing s = .next (if 1 ≤ s.phase.missingEdges then enterHoldover s 0x0501
      else s.onPhase fun p => { p with missingEdges := p.missingEdges + 1, goodEdges := 0 }) := by
  rw [exec_mainsEdgeMissing, execMainsEdgeMissing, if_pos ⟨hr, hst.symm⟩]
  split <;> rfl

end

/-! ### Decisions of UNLOCKED and the end of HOLDOVER (R188, R210) -/

section
variable {s : State}

theorem unlockedDecision_acquires (ho : ownMains s = true) (hst : s.phase.st = .unlocked) (h4 : 4 ≤ s.phase.run.length) :
    exec .unlockedDecision s = .next (enterAcquiring s) := by
  rw [exec_unlockedDecision, execUnlockedDecision, if_neg (by simp [ho, hst]), if_pos h4]

theorem unlockedDecision_waits (ho : ownMains s = true) (hst : s.phase.st = .unlocked) (h4 : s.phase.run.length < 4) :
    ∃ t, exec .unlockedDecision s = .next t ∧ t.phase.quietDecisions = s.phase.quietDecisions + 1 ∧
      t.phase.st = if s.phase.virtualOk = true ∧ 11 ≤ s.phase.quietDecisions + 1 then .virtual else .unlocked := by
  rw [exec_unlockedDecision, execUnlockedDecision, if_neg (by simp [ho, hst]), if_neg (by omega)]
  dsimp only
  split
  · exact ⟨_, rfl, by simp [enterVirtual_phase], by simp [enterVirtual_phase]⟩
  · exact ⟨_, rfl, rfl, hst⟩

theorem holdoverExpiry_ends (hst : s.phase.st = .holdover) (hmax : s.phase.holdoverMax.toNat ≤ s.phase.holdoverUsed) :
    ∃ t, exec .holdoverExpiry s = .next t ∧ t.phase.st = (if s.phase.virtualOk = true then .virtual else .unlocked) ∧
      t.phase.mainsMhz = if s.phase.virtualOk = true then 50000 else 0 := by
  rw [exec_holdoverExpiry, execHoldoverExpiry, if_pos ⟨hst, hmax⟩]
  split
  · exact ⟨_, rfl, by simp [enterVirtual_phase], by simp [enterVirtual_phase]⟩
  · exact ⟨_, rfl, by simp, by simp⟩

end

/-! ### Beacons (R191, R192, R459) -/

section
variable {s : State} (b : Beacon) (proj : W48)

theorem followBeacon_first (h : s.phase.beaconSeen = false) : (followBeacon s b proj).phase =
    { s.phase with time := proj, st := b.state, mainsMhz := b.mhz, beaconSeen := true, missedBeacons := 0, bigErrors := 0,
                   alignErr := 0, startPending := false } := by
  simp [followBeacon, h]

/-- A later beacon leaves phase time: it gives the error and the state. -/
theorem followBeacon_later (h : s.phase.beaconSeen = true) :
    let e := (s.phase.time - proj).toInt
    let big : Bool := decide (e < -2 ∨ 2 < e)
    (followBeacon s b proj).phase =
      { s.phase with st := if big = true then .acquiring else b.state, mainsMhz := b.mhz, missedBeacons := 0,
                     bigErrors := if big = true then s.phase.bigErrors + 1 else 0, alignErr := BitVec.ofInt 32 e,
                     startPending := false } := by
  rw [followBeacon, if_neg (by simp [h])]
  exact ite_logDev_phase _ _ _

/-- ACQUIRING where the error is more than 2 ticks, the beacon's state where it is not. -/
theorem alignedState_eq (e : Int) (st : PhSt) :
    (if decide (e < -2 ∨ 2 < e) = true then PhSt.acquiring else st) = if -2 ≤ e ∧ e ≤ 2 then st else .acquiring := by
  simp only [decide_eq_true_eq]
  by_cases he : -2 ≤ e ∧ e ≤ 2
  · rw [if_pos he, if_neg (by omega)]
  · rw [if_neg he, if_pos (by omega)]

end

theorem beacon_followed {s s1 : State} {x : RxPacket} (residence : Nat)
    (h : takePacket s (fun x => x.pkt.typ == .beacon) = some (x, s1)) (hm : s.fabric.isMaster = false) :
    let b := parseBeacon x.pkt.data
    ∃ t, exec (.beacon residence) s = .next (followBeacon t b
        (b.phase + BitVec.ofNat 48 (ticksOf (b.delayNs.toNat + (s.door x.door).delay.toNat / 4) b.mhz.toNat))) ∧
      t.phase = s.phase := by
  obtain ⟨⟨i, v, hs1⟩, hdelay⟩ := takePacket_frame h
  have hm1 : s1.fabric.isMaster = false := by rw [hs1]; exact hm
  rw [exec_beacon, execBeacon, h]
  simp only [hm1, hdelay]
  refine ⟨_, rfl, ?_⟩
  obtain ⟨v', hv'⟩ := doorsOnly_foldl (fun s e => postOn_doors s e .beacon _) (awayDoors s1 x.door) s1
  rw [hv', hs1]
  rfl

section
variable {s : State} (hm : s.fabric.isMaster = false) (hseen : s.phase.beaconSeen = true)
include hm hseen

theorem beaconMissing_fourth (h : s.phase.missedBeacons + 1 = 4) :
    ∃ t, exec .beaconMissing s = .next t ∧ t.phase.st = .holdover := by
  rw [exec_beaconMissing, execBeaconMissing, if_neg (by simp [hm, hseen])]
  simp only [h, if_true]
  exact ⟨_, rfl, by simp [enterHoldover_phase]⟩

/-- At the eighth a candidate takes over. -/
theorem beaconMissing_eighth (h : s.phase.missedBeacons + 1 = 8) (hc : s.fabric.candidate = true)
    (hx : s.fabric.excluded = false) :
    ∃ t, exec .beaconMissing s = .next t ∧ t.fabric.isMaster = true ∧ t.fabric.masterAddr = s.fabric.devAddr := by
  rw [exec_beaconMissing, execBeaconMissing, if_neg (by simp [hm, hseen])]
  simp only [h, hc, hx]
  refine ⟨_, rfl, ?_⟩
  unfold startCensus
  obtain ⟨v, hv⟩ := flood_doors _ none censusQuery _ _
  rw [hv]
  simp

end

theorem beaconMissing_next (s : State) : ∃ t, exec .beaconMissing s = .next t := by
  rw [exec_beaconMissing, execBeaconMissing]
  dsimp only
  repeat' split
  all_goals exact ⟨_, rfl⟩

/-- Settles O18: an edge by `edgeTracking_joins` and `edgeTracking_outOfRange`, a beacon by `followBeacon_first` and
`followBeacon_later`. It rests on the model's choices of rows 34, 90, 92 and 123 of the assumption log. -/
theorem mainsAndBeacons : Obligations.MainsAndBeacons := by
  refine ⟨⟨?_, ?_, ?_, fun s => holdoverExpiry_ends⟩, ?_, ?_⟩
  · intro s dt hr hst hp _ h20
    rw [mainsEdge_tracks hr hst]
    refine ⟨fun hz h50 => ⟨_, rfl, ?_⟩, fun hz => ⟨_, rfl, ?_⟩⟩
    · rw [edgeTracking_joins hp h20 hz h50]
      exact ⟨rfl, rfl, rfl, rfl, rfl, rfl⟩
    · rw [edgeTracking_outOfRange hp h20 hz, enterHoldover_phase]
      exact ⟨rfl, rfl⟩
  · intro s hr hst
    refine ⟨_, mainsEdgeMissing_tracks hr hst, fun h0 => ?_, fun h1 => ?_⟩
    · rw [if_neg (by omega)]
      exact ⟨congrArg (· + 1) h0, rfl⟩
    · rw [if_pos h1, enterHoldover_phase]
  · intro s ho hst
    by_cases h4 : 4 ≤ s.phase.run.length
    · refine ⟨_, unlockedDecision_acquires ho hst h4, fun _ => ?_, fun h => absurd h (by omega)⟩
      rw [enterAcquiring_phase]
      exact ⟨rfl, by simp [hst]⟩
    · obtain ⟨t, ht, hquiet⟩ := unlockedDecision_waits ho hst (by omega)
      exact ⟨t, ht, fun h => absurd h h4, fun _ => hquiet⟩
  · intro s residence x s1 h hm b proj
    obtain ⟨t, ht, hphase⟩ := beacon_followed residence h hm
    refine ⟨_, ht, ?_⟩
    cases hseen : s.phase.beaconSeen with
    | false =>
      rw [followBeacon_first b proj (hphase ▸ hseen)]
      simp
    | true =>
      rw [followBeacon_later b proj (hphase ▸ hseen), hphase]
      exact ⟨rfl, rfl, hseen, by simp, fun _ => ⟨rfl, rfl, alignedState_eq _ _⟩⟩
  · intro s hm hseen
    by_cases h4 : s.phase.missedBeacons + 1 = 4
    · obtain ⟨t, ht, hst⟩ := beaconMissing_fourth hm hseen h4
      exact ⟨t, ht, fun _ => hst, by omega⟩
    · by_cases h8 : s.phase.missedBeacons + 1 = 8 ∧ s.fabric.candidate = true ∧ s.fabric.excluded = false
      · obtain ⟨heighth, hcand, hin⟩ := h8
        obtain ⟨t, ht, hmaster⟩ := beaconMissing_eighth hm hseen heighth hcand hin
        exact ⟨t, ht, by omega, fun _ _ _ => hmaster⟩
      · obtain ⟨t, ht⟩ := beaconMissing_next s
        exact ⟨t, ht, by omega, fun h hc hx => absurd ⟨h, hc, hx⟩ h8⟩

end Sys2Proof.Machine
end

section
/-!
The loans of a half-cycle (R201, R203, R204, R214): what the division gives in all and to each, what the master and the other
devices take, and O20. That a remaining mJ goes only to devices that borrow, none past its BORROW, is the model's choice (log
115).
-/
namespace Sys2Proof.Machine
open Sys2Proof

/-! ### Shares in proportion to weights (R204, R206) -/

theorem sumOf_eq_sum (l : List Nat) : sumOf l = l.sum := List.sum_eq_foldl.symm

/-- The floors of the shares: each weight's part of `rest`. -/
def shareFloors (rest : Nat) (weights : List Nat) : List Nat := weights.map fun x => rest * x / sumOf weights

theorem sum_floors_mul_le (rest q : Nat) (ws : List Nat) : (ws.map fun x => rest * x / q).sum * q ≤ rest * ws.sum := by
  induction ws with
  | nil => simp
  | cons x ws ih =>
    simp only [List.map_cons, List.sum_cons, Nat.add_mul, Nat.mul_add]
    exact Nat.add_le_add (Nat.div_mul_le_self _ _) ih

theorem sum_shareFloors_le {rest : Nat} {ws : List Nat} (h : rest < sumOf ws) : (shareFloors rest ws).sum ≤ rest := by
  have hmul := sum_floors_mul_le rest (sumOf ws) ws
  rw [← sumOf_eq_sum ws] at hmul
  exact Nat.le_of_mul_le_mul_right hmul (by omega)

/-- Pairs of a floor and its weight that are short of the weight. -/
def shortOf (l : List (Nat × Nat)) : Nat := (l.filter fun y => decide (y.1 < y.2)).length

/-- The share at a place of a list of floors and weights: one more than its floor for the first `left` that are short. -/
def shareAt (l : List (Nat × Nat)) (left : Nat) (x : (Nat × Nat) × Nat) : Nat :=
  if x.1.1 < x.1.2 ∧ shortOf (l.take x.2) < left then x.1.1 + 1 else x.1.1

theorem proportion_of_le {rest : Nat} {ws : List Nat} (h : sumOf ws ≤ rest) : proportion rest ws = ws := if_pos h

theorem proportion_of_lt {rest : Nat} {ws : List Nat} (h : rest < sumOf ws) : proportion rest ws =
    ((shareFloors rest ws).zip ws).zipIdx.map
      (shareAt ((shareFloors rest ws).zip ws) (rest - sumOf (shareFloors rest ws))) := by
  rw [proportion, if_neg (by omega)]
  rfl

/-- From a place on, the shares exceed their floors by at most the units that are left there. -/
theorem sum_shareAt_le (left : Nat) (pre l : List (Nat × Nat)) :
    ((l.zipIdx pre.length).map (shareAt (pre ++ l) left)).sum ≤ (l.map (·.1)).sum + (left - shortOf pre) := by
  induction l generalizing pre with
  | nil => simp
  | cons x l ih =>
    have htail := ih (pre ++ [x])
    rw [List.append_assoc, List.singleton_append, List.length_append, List.length_singleton] at htail
    have hshort : shortOf (pre ++ [x]) = shortOf pre + if x.1 < x.2 then 1 else 0 := by
      by_cases hx : x.1 < x.2 <;> simp [shortOf, hx]
    have hhead : shareAt (pre ++ x :: l) left (x, pre.length) =
        if x.1 < x.2 ∧ shortOf pre < left then x.1 + 1 else x.1 := by
      simp [shareAt]
    simp only [List.zipIdx_cons, List.map_cons, List.sum_cons, hhead]
    rw [hshort] at htail
    split at htail <;> split <;> omega

theorem length_shareFloors (rest : Nat) (ws : List Nat) : (shareFloors rest ws).length = ws.length := List.length_map _

@[simp] theorem length_proportion (rest : Nat) (ws : List Nat) : (proportion rest ws).length = ws.length := by
  by_cases h : sumOf ws ≤ rest
  · rw [proportion_of_le h]
  · simp [proportion_of_lt (Nat.lt_of_not_le h), length_shareFloors]

theorem sum_proportion_le (rest : Nat) (ws : List Nat) : (proportion rest ws).sum ≤ rest := by
  by_cases h : sumOf ws ≤ rest
  · rw [proportion_of_le h, ← sumOf_eq_sum]
    exact h
  · have hlt := Nat.lt_of_not_le h
    have hfloors := sum_shareFloors_le hlt
    have hsum := sum_shareAt_le (rest - sumOf (shareFloors rest ws)) [] ((shareFloors rest ws).zip ws)
    rw [List.map_fst_zip (Nat.le_of_eq (length_shareFloors rest ws))] at hsum
    rw [proportion_of_lt hlt]
    rw [sumOf_eq_sum] at hsum ⊢
    refine Nat.le_trans hsum ?_
    rw [show shortOf [] = 0 from rfl]
    omega

theorem proportion_getElem_le {rest : Nat} {ws : List Nat} {i : Nat} (h : i < ws.length) :
    (proportion rest ws)[i]'(by rwa [length_proportion]) ≤ ws[i] := by
  by_cases hle : sumOf ws ≤ rest
  · simp [proportion_of_le hle]
  · have hlt := Nat.lt_of_not_le hle
    have hfloor : rest * ws[i] / sumOf ws ≤ ws[i] :=
      Nat.div_le_of_le_mul (Nat.mul_le_mul_right _ (Nat.le_of_lt hlt))
    have hat : (proportion rest ws)[i]'(by rwa [length_proportion]) =
        shareAt ((shareFloors rest ws).zip ws) (rest - sumOf (shareFloors rest ws)) ((rest * ws[i] / sumOf ws, ws[i]), i) := by
      simp [proportion_of_lt hlt, shareFloors]
    simp only [hat, shareAt]
    split <;> omega

/-! ### Loans (R204) -/

/-- The reports in address order. -/
def inOrder (rs : List ReportAt) : List ReportAt := rs.mergeSort fun a b => decide (a.device.toNat ≤ b.device.toNat)

theorem inOrder_perm (rs : List ReportAt) : (inOrder rs).Perm rs := List.mergeSort_perm _ _

theorem sumOf_inOrder (rs : List ReportAt) (f : ReportAt → Nat) : sumOf ((inOrder rs).map f) = sumOf (rs.map f) := by
  rw [sumOf_eq_sum, sumOf_eq_sum, ((inOrder_perm rs).map f).sum_nat]

theorem loans_eq (rs : List ReportAt) : loans rs =
    ((inOrder rs).map (·.device)).zip (proportion (sumOf (rs.map (·.report.lend))) ((inOrder rs).map (·.report.borrow))) := by
  rw [← sumOf_inOrder]
  rfl

theorem sum_loans_le (rs : List ReportAt) : sumOf ((loans rs).map (·.2)) ≤ sumOf (rs.map (·.report.lend)) := by
  rw [loans_eq, List.map_snd_zip (by simp), sumOf_eq_sum]
  exact sum_proportion_le _ _

theorem loan_le_borrow {rs : List ReportAt} {p : DevAddr × Nat} (h : p ∈ loans rs) :
    ∃ r ∈ rs, r.device = p.1 ∧ p.2 ≤ r.report.borrow := by
  rw [loans_eq] at h
  obtain ⟨i, hi, rfl⟩ := List.mem_iff_getElem.1 h
  have hlen : i < (inOrder rs).length := by simpa using hi
  refine ⟨(inOrder rs)[i], (inOrder_perm rs).mem_iff.1 (List.getElem_mem hlen), by simp, ?_⟩
  have hle := proportion_getElem_le (rest := sumOf (rs.map (·.report.lend)))
    (ws := (inOrder rs).map (·.report.borrow)) (i := i) (by simpa using hlen)
  simpa using hle

theorem mem_loans_of_enough {rs : List ReportAt} (h : sumOf (rs.map (·.report.borrow)) ≤ sumOf (rs.map (·.report.lend)))
    {r : ReportAt} (hr : r ∈ rs) : (r.device, r.report.borrow) ∈ loans rs := by
  rw [loans_eq, proportion_of_le (by rwa [sumOf_inOrder]), List.zip_map']
  exact List.mem_map.2 ⟨r, (inOrder_perm rs).mem_iff.2 hr, rfl⟩

/-! ### Reports and grants at their device (R201, R203, R204, R214) -/

theorem takeFuse_frame {s s1 : State} {k : Byte} {p : Packet} (h : takeFuse s k = some (p, s1)) :
    ∃ i v, s1 = s.onFabric fun f => { f with inbox := i, doors := v } := by
  unfold takeFuse at h
  split at h
  · rename_i ht
    obtain ⟨-, rfl⟩ := h
    exact (takePacket_frame ht).1
  · contradiction

/-- New allotments change neither the reports nor the loan. -/
theorem recomputeAllot_keeps (s : State) : (recomputeAllot s).fuse.reports = s.fuse.reports ∧
    (recomputeAllot s).fuse.borrowGranted = s.fuse.borrowGranted := by
  unfold recomputeAllot
  split
  · exact ⟨rfl, rfl⟩
  · dsimp only
    rw [ite_logDev_fuse]
    exact ⟨rfl, rfl⟩

theorem fuseReport_kept {s s1 : State} {p : Packet} (h : takeFuse s 2 = some (p, s1)) (hm : s.fabric.isMaster = true)
    (ha : s.fuse.armed = true) (hhalf : (parseReport p.data).half = BitVec.ofNat 16 (halfIndex s.phase.time))
    (ht : s.phase.time.toNat % 32768 < 8192) :
    ∃ t, exec .fuseReport s = .next t ∧ (⟨p.src, parseReport p.data⟩ : ReportAt) ∈ t.fuse.reports ∧
      t.fuse.borrowGranted = s.fuse.borrowGranted := by
  obtain ⟨i, v, rfl⟩ := takeFuse_frame h
  rw [exec_fuseReport, execFuseReport, h]
  dsimp only
  rw [if_pos ⟨hm, ha, hhalf, ht⟩]
  split
  · exact ⟨_, rfl, by simp, rfl⟩
  · refine ⟨_, rfl, ?_⟩
    simp [recomputeAllot_keeps]

theorem fuseGrant_taken {s s1 : State} {p : Packet} (h : takeFuse s 3 = some (p, s1)) (hm : s.fabric.isMaster = false)
    (ha : s.fuse.armed = true) (hhalf : (parseGrant p.data).half = BitVec.ofNat 16 (halfIndex s.phase.time + 1))
    (ht : s.phase.time.toNat % 32768 < 16384) :
    ∃ t, exec .fuseGrant s = .next t ∧ t.fuse.borrowGranted = (parseGrant p.data).borrow ∧ t.fuse.grantSeen = true ∧
      t.fuse.allot = (parseGrant p.data).allot := by
  obtain ⟨i, v, rfl⟩ := takeFuse_frame h
  rw [exec_fuseGrant, execFuseGrant, h]
  dsimp only
  rw [if_pos ⟨by simp [hm], ha, hhalf, ht⟩]
  exact ⟨_, rfl, rfl, rfl, rfl⟩

/-- What the master makes of one loan: its own is taken, another's is sent (R204). -/
def giveLoan (half : W16) (fan : Nat) (s : State) (p : DevAddr × Nat) : State :=
  if p.1 = s.fabric.devAddr then
    s.onFuse fun f => { f with borrowGranted := p.2, grantSeen := true, fanAppliance := BitVec.ofNat 8 fan }
  else postTo s p.1 .fuse (grantBytes ⟨half, p.2,
    BitVec.ofNat 32 (allotOf s ((s.fuse.caps.find? fun c => c.1 == p.1).elim 0 (·.2))), BitVec.ofNat 8 fan⟩)

theorem reportDeadline_gives {s : State} (hm : s.fabric.isMaster = true) (ha : s.fuse.armed = true)
    (ht : s.phase.time.toNat % 32768 = 8192) : exec .reportDeadline s = .next ((loans (allReports s)).foldl
      (giveLoan (BitVec.ofNat 16 (halfIndex s.phase.time + 1))
        ((s.fuse.reports.map fun r => r.report.fanNeed.toNat).foldl max (fanNeed s.fuse.junction))) s) := by
  rw [exec_reportDeadline, execReportDeadline, if_neg (by simp [hm, ha, ht])]
  rfl

section
variable (half : W16) (fan : Nat)

theorem giveLoan_own {s : State} {p : DevAddr × Nat} (h : p.1 = s.fabric.devAddr) :
    (giveLoan half fan s p).fabric.devAddr = s.fabric.devAddr ∧ (giveLoan half fan s p).fuse.borrowGranted = p.2 ∧
      (giveLoan half fan s p).fuse.grantSeen = true := by
  rw [giveLoan, if_pos h]
  exact ⟨rfl, rfl, rfl⟩

theorem giveLoan_other {s : State} {p : DevAddr × Nat} (h : p.1 ≠ s.fabric.devAddr) :
    (giveLoan half fan s p).fabric.devAddr = s.fabric.devAddr ∧ (giveLoan half fan s p).fuse = s.fuse := by
  rw [giveLoan, if_neg h]
  obtain ⟨v, hv⟩ := postTo_doors s p.1 .fuse _
  rw [hv]
  exact ⟨rfl, rfl⟩

/-- Loans that agree on the device's own give it that one, or leave it one that it has. -/
theorem foldl_giveLoan {b : Nat} {l : List (DevAddr × Nat)} {s : State} (hb : ∀ p ∈ l, p.1 = s.fabric.devAddr → p.2 = b)
    (h : (∃ p ∈ l, p.1 = s.fabric.devAddr) ∨ (s.fuse.borrowGranted = b ∧ s.fuse.grantSeen = true)) :
    (l.foldl (giveLoan half fan) s).fuse.borrowGranted = b ∧ (l.foldl (giveLoan half fan) s).fuse.grantSeen = true := by
  induction l generalizing s with
  | nil => simpa using h
  | cons p l ih =>
    rw [List.foldl_cons]
    by_cases hp : p.1 = s.fabric.devAddr
    · obtain ⟨hdev, hborrow, hseen⟩ := giveLoan_own half fan hp
      refine ih (fun q hq => hdev ▸ hb q (List.mem_cons_of_mem _ hq)) (.inr ⟨?_, hseen⟩)
      rw [hborrow, hb p List.mem_cons_self hp]
    · obtain ⟨hdev, hfuse⟩ := giveLoan_other half fan hp
      refine ih (fun q hq => hdev ▸ hb q (List.mem_cons_of_mem _ hq)) ?_
      rw [hdev, hfuse]
      simpa [hp] using h

end

theorem grantDeadline_none {s : State} (ha : s.fuse.armed = true) (hg : s.fuse.grantSeen = false)
    (ht : s.phase.time.toNat % 32768 = 16384) :
    ∃ t, exec .grantDeadline s = .next t ∧ t.fuse.borrowGranted = 0 ∧ t.fuse.grantSeen = false := by
  rw [exec_grantDeadline, execGrantDeadline, if_pos ⟨ha, by simp [hg], ht⟩]
  exact ⟨_, rfl, by simp, by simp [hg]⟩

/-- Settles O20: the division by `sum_proportion_le` and `proportion_getElem_le`, the master's own loan by
`foldl_giveLoan`. It rests on the model's choice of row 115 of the assumption log. -/
theorem loansAtTheMaster : Obligations.LoansAtTheMaster := by
  refine ⟨fun rs => ⟨sum_loans_le rs, fun p => loan_le_borrow, fun h r => mem_loans_of_enough h⟩,
    fun s p s1 => fuseReport_kept, ?_, fun s p s1 => fuseGrant_taken, fun s => grantDeadline_none⟩
  intro s b hm ha ht hb hown
  exact ⟨_, reportDeadline_gives hm ha ht, foldl_giveLoan _ _ hb (.inl hown)⟩

end Sys2Proof.Machine
end

section
/-!
The energy accounts of the Fusebox (R184, R199, R200, R203, R205-R207, R210): what a half-cycle boundary closes and grants,
what a 2 µs step charges and how it moves the stretch levels, what a telemetry read counts, and O19.
-/
namespace Sys2Proof.Machine
open Sys2Proof

/-! ### Closing a half-cycle (R200, R203, R205) -/

theorem energyOf_congr {s t : State} (h : t.phase = s.phase) (p : Nat) : energyOf t p = energyOf s p := by
  rw [energyOf, energyOf, h]

theorem floorEnergy_congr {s t : State} (hp : t.phase = s.phase) (hw : t.wings = s.wings) (ht : t.wingTop = s.wingTop) :
    floorEnergy t = floorEnergy s := by
  rw [floorEnergy, floorEnergy, energyOf_congr hp]
  simp only [powerTotal, sumWings, State.wing, hw, ht]
  rfl

/-- What the half-cycle that ends has spent, in whole mJ. -/
def spentMj (s : State) : Nat :=
  (sumOf ((List.finRange 16).map fun w => (s.fuse.wings.get w).spendUj) + s.fuse.houseUj) / 1000

/-- The accounts of `s` are closed in `t`, and what the next grant is formed from is there. -/
structure ClosedAs (s t : State) : Prop where
  phase : t.phase = s.phase
  wings : t.wings = s.wings
  wingTop : t.wingTop = s.wingTop
  half : t.fuse.half = s.fuse.half
  spentLast : t.fuse.spentLast = BitVec.ofNat 32 (spentMj s)
  excess : t.fuse.excess = spentMj s - s.fuse.grant.toNat
  houseUj : t.fuse.houseUj = 0
  armed : s.fuse.armed = true → t.fuse.armed = true
  allot : t.fuse.allot = s.fuse.allot
  borrowGranted : t.fuse.borrowGranted = s.fuse.borrowGranted
  lend : t.fuse.lend = s.fuse.lend
  rampLimit : t.fuse.rampLimit = s.fuse.rampLimit
  derateW : t.fuse.derateW = s.fuse.derateW
  account : ∀ w : WingId, (t.fuse.wings.get w).spendUj = 0 ∧ (t.fuse.wings.get w).reached = false

theorem closeAccounts_closed (s : State) : ClosedAs s (closeAccounts s) := by
  obtain ⟨h, m, o, ht⟩ : ReportsOnly _ (closeAccounts s) := ite_logDev_reports _ 0x0507 _
  rw [ht]
  exact ⟨rfl, rfl, rfl, rfl, rfl, rfl, rfl, id, rfl, rfl, rfl, rfl, rfl, fun w => by
    simp only [State.onFuse_fuse, get_tableOf, and_self]⟩

/-- The first boundary of stage READY finds the Fusebox armed (R578). -/
def closedState (s : State) : State :=
  if s.sys.bootStage = 9 then (closeAccounts s).onFuse fun f => { f with armed := true } else closeAccounts s

theorem closedState_closed (s : State) : ClosedAs s (closedState s) := by
  have h := closeAccounts_closed s
  unfold closedState
  split
  · exact { h with armed := fun _ => rfl }
  · exact h

/-! ### The grant of the half-cycle that starts (R205, R210) -/

theorem openAccounts_grant_armed {s : State} (ha : s.fuse.armed = true) (hst : s.phase.st ≠ .unlocked) :
    (openAccounts s).fuse.grant = BitVec.ofNat 32 (max
      (min (energyOf s s.fuse.allot.toNat + s.fuse.borrowGranted - s.fuse.lend - s.fuse.excess)
        (s.fuse.spentLast.toNat + energyOf s s.fuse.rampLimit.toNat) - energyOf s (s.fuse.derateW * 100))
      (floorEnergy s)) := by
  refine congrArg (BitVec.ofNat 32) ?_
  rw [usableGrant, if_neg (by simp [ha, hst])]
  rfl

theorem openAccounts_grant_unlocked {s : State} (hst : s.phase.st = .unlocked) :
    (openAccounts s).fuse.grant = BitVec.ofNat 32 (floorEnergy s) := by
  refine congrArg (BitVec.ofNat 32) ?_
  rw [usableGrant, if_pos (.inl hst)]
  rfl

theorem openAccounts_account (s : State) (w : WingId) :
    ((openAccounts s).fuse.wings.get w).spendUj = (s.fuse.wings.get w).spendUj ∧
      ((openAccounts s).fuse.wings.get w).reached = (s.fuse.wings.get w).reached := by
  simp only [openAccounts, State.onFuse_fuse, get_tableOf, and_self]

/-! ### What the rest of a boundary leaves (R203, R209, R211) -/

/-- The closed accounts and the grant. -/
def Fusebox.accounts (f : Fusebox) : (Option Nat × W32 × Nat × Nat × Nat × W32) × (WingId → Nat × Bool) :=
  ((f.half, f.spentLast, f.excess, f.houseUj, f.steps, f.grant), fun w => ((f.wings.get w).spendUj, (f.wings.get w).reached))

theorem startRelock_fuse (s : State) (i : StoreyId) (target : Nat) : (startRelock s i target).fuse = s.fuse := by
  unfold startRelock
  dsimp only
  repeat' split
  all_goals rfl

theorem fanUpdate_accounts (s : State) : (fanUpdate s).fuse.accounts = s.fuse.accounts := by
  unfold fanUpdate
  dsimp only
  rw [ite_logDev_fuse, ite_logDev_fuse]
  rfl

theorem sendReport_accounts (s : State) (r : FuseReport) : (sendReport s r).fuse.accounts = s.fuse.accounts := by
  unfold sendReport
  dsimp only
  split
  · rfl
  · split
    · rfl
    · obtain ⟨v, hv⟩ := postTo_doors (s.onFuse fun f => { f with lend := r.lend }) s.fabric.masterAddr .fuse (reportBytes r)
      rw [hv]
      rfl

theorem keepDemands_accounts (s : State) (d : WingId → Nat) : (keepDemands s d).fuse.accounts = s.fuse.accounts := by
  simp only [Fusebox.accounts, keepDemands, State.onFuse_fuse, get_tableOf]

theorem relockAll_fuse (s : State) (target : StoreyId → Nat) :
    ((List.finRange 4).foldl (fun s i => startRelock s i (target i)) s).fuse = s.fuse :=
  foldl_keeps (p := fun t => t.fuse) (fun t i => startRelock_fuse t i (target i)) _ s

theorem stretchSum_accounts (s : State) (v : Vector Nat 4) :
    (s.onFuse fun f => { f with stretchSum := v }).fuse.accounts = s.fuse.accounts := rfl

theorem boundary_accounts (s : State) : (boundary s).fuse.accounts = (openAccounts (closedState s)).fuse.accounts := by
  unfold boundary
  dsimp only
  rw [keepDemands_accounts, sendReport_accounts, fanUpdate_accounts, stretchSum_accounts, relockAll_fuse]
  unfold closedState
  repeat' split
  all_goals rfl

section
variable (s : State)

theorem boundary_closed : (boundary s).fuse.half = s.fuse.half ∧
    (boundary s).fuse.spentLast = BitVec.ofNat 32 (spentMj s) ∧
    (boundary s).fuse.excess = spentMj s - s.fuse.grant.toNat ∧ (boundary s).fuse.houseUj = 0 ∧
    (boundary s).fuse.steps = 0 := by
  have h := congrArg Prod.fst (boundary_accounts s)
  simp only [Fusebox.accounts, Prod.mk.injEq] at h
  obtain ⟨hhalf, hspent, hexcess, hhouse, hsteps, -⟩ := h
  have hc := closedState_closed s
  exact ⟨hhalf.trans hc.half, hspent.trans hc.spentLast, hexcess.trans hc.excess, hhouse.trans hc.houseUj, hsteps⟩

theorem boundary_account (w : WingId) :
    ((boundary s).fuse.wings.get w).spendUj = 0 ∧ ((boundary s).fuse.wings.get w).reached = false := by
  have h := congrFun (congrArg Prod.snd (boundary_accounts s)) w
  simp only [Fusebox.accounts, Prod.mk.injEq] at h
  obtain ⟨hspend, hreached⟩ := (closedState_closed s).account w
  obtain ⟨hspend', hreached'⟩ := openAccounts_account (closedState s) w
  obtain ⟨hs, hr⟩ := h
  exact ⟨hs.trans (hspend'.trans hspend), hr.trans (hreached'.trans hreached)⟩

theorem boundary_grant : (boundary s).fuse.grant = (openAccounts (closedState s)).fuse.grant :=
  congrArg (fun a => a.1.2.2.2.2.2) (boundary_accounts s)

variable {s}

theorem boundary_grant_armed (ha : s.fuse.armed = true) (hst : s.phase.st ≠ .unlocked) :
    (boundary s).fuse.grant = BitVec.ofNat 32 (max
      (min (energyOf s s.fuse.allot.toNat + s.fuse.borrowGranted - s.fuse.lend - (spentMj s - s.fuse.grant.toNat))
        ((BitVec.ofNat 32 (spentMj s)).toNat + energyOf s s.fuse.rampLimit.toNat) - energyOf s (s.fuse.derateW * 100))
      (floorEnergy s)) := by
  have hc := closedState_closed s
  rw [boundary_grant, openAccounts_grant_armed (hc.armed ha) (hc.phase ▸ hst), hc.allot, hc.borrowGranted, hc.lend,
    hc.excess, hc.spentLast, hc.rampLimit, hc.derateW, floorEnergy_congr hc.phase hc.wings hc.wingTop]
  simp only [energyOf_congr hc.phase]

theorem boundary_grant_unlocked (hst : s.phase.st = .unlocked) :
    (boundary s).fuse.grant = BitVec.ofNat 32 (floorEnergy s) := by
  have hc := closedState_closed s
  rw [boundary_grant, openAccounts_grant_unlocked (hc.phase ▸ hst), floorEnergy_congr hc.phase hc.wings hc.wingTop]

end

/-- The half-cycle of phase time has begun: its boundary is made once (R184). -/
def State.inHalf (s : State) : State := s.onFuse fun f => { f with half := some (halfIndex s.phase.time) }

theorem halfCycleBoundary_due {s : State} (hr : phaseRuns s = true) (ht : s.phase.time.toNat % 32768 = 0)
    (hh : s.fuse.half ≠ some (halfIndex s.phase.time)) :
    exec .halfCycleBoundary s = .next (boundary s.inHalf) := by
  rw [exec_halfCycleBoundary, execHalfCycleBoundary, if_pos ⟨hr, ht, hh⟩]
  rfl

theorem unlockedAccountClose_due {s : State} (hst : s.phase.st = .unlocked) (h6 : 6 ≤ s.sys.bootStage.toNat)
    (h10 : s.sys.bootStage.toNat ≤ 10) (hr : s.sys.inReset = false) :
    exec .unlockedAccountClose s = .next (boundary s) := by
  rw [exec_unlockedAccountClose, execUnlockedAccountClose, if_pos ⟨hst, h6, h10, by simp [hr]⟩]

/-! ### Charging and stretching (R199, R200, R207) -/

/-- A wing's account after a step's charge. -/
def chargedAccount (s : State) (e : StepEnergy) (w : WingId) : WingAccount :=
  let a := s.fuse.wings.get w
  let spend := a.spendUj + if w = 0 then 0 else stepCharge s e w
  let hit := decide (w ≠ 0 ∧ (s.wing w).st.exists_ ∧ a.grant.toNat * 1000 ≤ spend)
  { a with spendUj := spend, reached := a.reached || hit, capped := if hit ∧ !a.reached then satAdd a.capped 1 else a.capped }

/-- The glide path of a wing at the end of the step, in µJ. -/
def glidePath (s : State) (w : WingId) : Nat :=
  (s.fuse.wings.get w).grant.toNat * 1000 * (2 * (s.fuse.steps + 1)) *
    (if s.phase.mainsMhz = 0 then 50000 else s.phase.mainsMhz.toNat) / 500000000

/-- The level of a Room outside any gang after the step. -/
def movedLevel (s : State) (e : StepEnergy) (r : RoomId) : BitVec 4 :=
  let w := roomOwner s r
  let a := chargedAccount s e w
  let l := s.fuse.stretch.get r
  if w = 0 then 0 else if a.reached then 15
  else if glidePath s w < a.spendUj then (if l = 15 then 15 else l + 1)
  else if a.spendUj < glidePath s w then (if l = 0 then 0 else l - 1) else l

theorem any_failed_eq_false {v : Vector Regulator 4} (h : ∀ i, (v.get i).failed = false) :
    v.toList.any (·.failed) = false := by
  rw [List.any_eq_false]
  intro x hx
  obtain ⟨i, hi, rfl⟩ := List.mem_iff_getElem.1 hx
  rw [Vector.getElem_toList hi]
  exact Bool.eq_false_iff.1 (h ⟨i, by simpa using hi⟩)

/-- Without a failed regulator the estimates are charged as they are. -/
theorem stretchStep_moves {s : State} {e : StepEnergy} (h : ∀ i, (s.fuse.regs.get i).failed = false) :
    ∃ t, exec (.stretchStep e) s = .next t ∧ t.fuse.steps = s.fuse.steps + 1 ∧
      (∀ w, t.fuse.wings.get w = chargedAccount s e w) ∧
      ∀ r, (s.storey (storeyOf r)).gang.getLsbD (r.1 % 8) = false → t.fuse.stretch.get r = movedLevel s e r := by
  rw [exec_stretchStep]
  unfold execStretchStep
  rw [any_failed_eq_false h]
  extract_lets margin m e' mhz n charge tenants acct level0 level lost s1 s2
  have he : e' = e := by
    simp [e', m, margin]
  have hacct (w : WingId) : acct w = chargedAccount s e w := by
    rw [← he]
    rfl
  refine ⟨_, rfl, rfl, fun w => (get_tableOf _ _).trans (hacct w), fun r hr => ?_⟩
  have hlevel : level r = level0 r := if_neg (by simp [hr])
  refine (get_tableOf _ _).trans (hlevel.trans ?_)
  simp only [level0, hacct]
  rfl

section
variable {s : State} {e : StepEnergy} {r : RoomId}

theorem movedLevel_house (h : roomOwner s r = 0) : movedLevel s e r = 0 := if_pos h

theorem movedLevel_reached (h0 : roomOwner s r ≠ 0) (h : (chargedAccount s e (roomOwner s r)).reached = true) :
    movedLevel s e r = 15 := by
  rw [movedLevel]
  simp [h0, h]

theorem toNat_levelUp (l : BitVec 4) : (if l = 15 then 15 else l + 1 : BitVec 4).toNat = min 15 (l.toNat + 1) := by
  revert l
  decide

theorem toNat_levelDown (l : BitVec 4) : (if l = 0 then 0 else l - 1 : BitVec 4).toNat = l.toNat - 1 := by
  revert l
  decide

theorem movedLevel_gliding (h0 : roomOwner s r ≠ 0) (h : (chargedAccount s e (roomOwner s r)).reached = false) :
    let spend := (chargedAccount s e (roomOwner s r)).spendUj
    (movedLevel s e r).toNat = if glidePath s (roomOwner s r) < spend then min 15 ((s.fuse.stretch.get r).toNat + 1)
      else if spend < glidePath s (roomOwner s r) then (s.fuse.stretch.get r).toNat - 1
      else (s.fuse.stretch.get r).toNat := by
  rw [movedLevel]
  simp only [h0, h, if_false, Bool.false_eq_true]
  rw [← toNat_levelUp, ← toNat_levelDown, apply_ite BitVec.toNat]
  exact congrArg _ (apply_ite BitVec.toNat _ _ _)

theorem chargedAccount_spend {w : WingId} (h0 : w ≠ 0) :
    (chargedAccount s e w).spendUj = (s.fuse.wings.get w).spendUj + stepCharge s e w := by
  simp [chargedAccount, h0]

theorem chargedAccount_reached {w : WingId} (h0 : w ≠ 0) : (chargedAccount s e w).reached = ((s.fuse.wings.get w).reached ||
    decide ((s.wing w).st.exists_ = true ∧
      (s.fuse.wings.get w).grant.toNat * 1000 ≤ (s.fuse.wings.get w).spendUj + stepCharge s e w)) := by
  simp [chargedAccount, h0]

end

/-! ### Telemetry (R199) -/

/-- What a read that completes or fails makes of its regulator. -/
def countedRead (x : Regulator) (ok : Bool) : Regulator :=
  if ok then { failsInRow := 0, goodInRow := x.goodInRow + 1, failed := x.failed && decide (x.goodInRow + 1 < 2) }
  else { failsInRow := x.failsInRow + 1, goodInRow := 0, failed := x.failed || decide (3 ≤ x.failsInRow + 1) }

theorem pmbusTransactionDone_counts (s : State) (r : Fin 4) (ok : Bool) (round : Option (W16 × W16)) :
    ∃ t, exec (.pmbusTransactionDone r ok round none) s = .next t ∧
      t.fuse.regs.get r = countedRead (s.fuse.regs.get r) ok ∧
      ∀ p, round = some p → t.fuse.powerNow = p.1 ∧ t.fuse.vddCoreMv = p.2 := by
  rw [exec_pmbusTransactionDone]
  unfold execPmbusTransactionDone
  cases round with
  | none =>
    refine ⟨_, rfl, ?_, fun p hp => nomatch hp⟩
    rw [ite_logDev_fuse]
    exact get_vset_same _ _ _
  | some p =>
    refine ⟨_, rfl, ?_, ?_⟩
    · rw [State.onFuse_fuse, ite_logDev_fuse]
      exact get_vset_same _ _ _
    · rintro _ ⟨⟩
      exact ⟨rfl, rfl⟩

/-- Settles O19: a boundary by `boundary_closed`, `boundary_account` and `boundary_grant_armed`, a step by
`stretchStep_moves`. -/
theorem energyAccounts : Obligations.EnergyAccounts := by
  refine ⟨⟨?_, ?_⟩, ?_, ?_⟩
  · intro s hr ht hh
    refine ⟨_, halfCycleBoundary_due hr ht hh, ?_⟩
    obtain ⟨hhalf, hspent, hexcess, hhouse, hsteps⟩ := boundary_closed s.inHalf
    refine ⟨hhalf, hspent, hexcess, hhouse, hsteps, boundary_account _, fun ha hst => ?_⟩
    have hgrant := boundary_grant_armed (s := s.inHalf) ha hst
    rw [floorEnergy_congr (s := s) (t := s.inHalf) rfl rfl rfl] at hgrant
    simp only [energyOf_congr (s := s) (t := s.inHalf) rfl] at hgrant
    exact hgrant
  · intro s hst h6 h10 hr
    exact ⟨_, unlockedAccountClose_due hst h6 h10 hr, boundary_grant_unlocked hst, fun w => (boundary_account s w).1⟩
  · intro s e h
    obtain ⟨t, ht, hsteps, hacct, hlevel⟩ := stretchStep_moves (e := e) h
    refine ⟨t, ht, hsteps, fun w => congrArg (·.spendUj) (hacct w), ?_⟩
    intro r hr w spend mhz path
    rw [hlevel r hr]
    refine ⟨movedLevel_house, fun h0 hhit => movedLevel_reached h0 ?_, fun h0 hnot hlt => ?_⟩
    · rw [chargedAccount_reached h0]
      rcases hhit with hhit | hhit
      · simp [w, hhit]
      · simpa using .inr hhit
    · have hreached : (chargedAccount s e w).reached = false := by
        rw [chargedAccount_reached h0, hnot, Bool.false_or, decide_eq_false_iff_not]
        rintro ⟨-, hle⟩
        omega
      rw [movedLevel_gliding h0 hreached, chargedAccount_spend h0]
      rfl
  · intro s r ok round
    obtain ⟨t, ht, hreg, hround⟩ := pmbusTransactionDone_counts s r ok round
    refine ⟨t, ht, ?_, ?_, hround⟩
    · rintro rfl
      rw [hreg]
      exact ⟨rfl, rfl, fun h => by simp [countedRead]; omega⟩
    · rintro rfl
      rw [hreg]
      exact ⟨rfl, rfl, fun h => by simp [countedRead]; omega⟩

end Sys2Proof.Machine
end

section
/-!
Targets of phase time (R160, R185, R186, R196): what a tick makes of one comparator, when a TIMED job starts, when a stream
leaves its WAITPH, and O41.
-/
namespace Sys2Proof.Machine
open Sys2Proof

theorem reached_iff (t target : W48) : reached t target = true ↔ (t - target).toNat < 2 ^ 47 := decide_eq_true_iff

/-! ### Writes of the Larder (R267, R282) -/

/-- Only the Larder differs. -/
def LarderOnly (s t : State) : Prop := ∃ l, t = s.onLarder fun _ => l

theorem LarderOnly.refl (s : State) : LarderOnly s s := ⟨s.larder, rfl⟩

theorem LarderOnly.trans {s t u : State} : LarderOnly s t → LarderOnly t u → LarderOnly s u := by
  rintro ⟨l, rfl⟩ ⟨l', rfl⟩
  exact ⟨l', rfl⟩

theorem larderOnly_foldl {α : Type} {f : State → α → State} (h : ∀ s a, LarderOnly s (f s a)) (l : List α) (s : State) :
    LarderOnly s (l.foldl f s) := by
  induction l generalizing s with
  | nil => exact .refl s
  | cons a l ih => exact (h s a).trans (ih _)

section
variable (s : State)

theorem homePut_larder (line : Nat) (d : List Byte) (p : Bool) : LarderOnly s (homePut s line d p) := by
  unfold homePut
  dsimp only
  split <;> exact ⟨_, rfl⟩

theorem homeMerge_larder (line : Nat) (d : List Byte) (be : BitVec 64) : LarderOnly s (homeMerge s line d be) := by
  unfold homeMerge
  split
  · exact homePut_larder s _ _ _
  · exact (homePut_larder s _ _ _).trans ⟨_, rfl⟩

theorem pullDirty_larder (c : CoreId) (line : Nat) : LarderOnly s (pullDirty s c line) := by
  unfold pullDirty
  repeat' split
  · exact homePut_larder s _ _ _
  · exact .refl s
  · exact .refl s

theorem recallAll_larder (line : Nat) : LarderOnly s (recallAll s line) := by
  unfold recallAll
  split
  · have hpull := larderOnly_foldl (fun s c => pullDirty_larder s c line)
    have hdrop := larderOnly_foldl (f := fun s c => s.onCache c fun k => cacheRemove k line) fun s c => ⟨_, rfl⟩
    exact ((hpull _ s).trans (hdrop _ _)).trans ⟨_, rfl⟩
  · exact .refl s

theorem ncWrite_larder (a : Nat) (bs : List Byte) : LarderOnly s (ncWrite s a bs) :=
  larderOnly_foldl (fun s l => (recallAll_larder s l).trans (homeMerge_larder _ _ _ _)) _ s

theorem postWrite_larder (w : WingId) (o : Nat) (bs : List Byte) : LarderOnly s (postWrite s w o bs) := by
  unfold postWrite
  repeat' split
  · exact .refl s
  · exact larderOnly_foldl (fun s _ => ncWrite_larder s _ _) _ s
  · exact ⟨_, rfl⟩
  · exact .refl s

end

/-! ### One comparator at a tick (R196, R198) -/

section
variable (s : State) (n : Fin 64)

/-- A match delivered changes no comparator but its own, there only the count of matches. -/
theorem deliverMatch_keeps (time : W48) (late freeze : Bool) :
    (deliverMatch s n time late freeze).phase = (s.onCmp n fun c => { c with fires := c.fires + 1 }).phase ∧
      (deliverMatch s n time late freeze).wings = s.wings := by
  unfold deliverMatch
  dsimp only
  obtain ⟨l, hl⟩ := postWrite_larder (s.onCmp n fun c => { c with fires := c.fires + 1 }) _ _ _
  rw [hl]
  repeat' split
  all_goals exact ⟨rfl, rfl⟩

/-- A comparator in turn at a tick changes of the phase base only itself, and no wing. -/
theorem cmpMatch_keeps : (∃ f, (cmpMatch s n).phase = (s.onCmp n f).phase) ∧ (cmpMatch s n).wings = s.wings := by
  have hself : s.phase = (s.onCmp n id).phase := by
    rw [State.onCmp_phase, vmod_id]
  unfold cmpMatch
  dsimp only
  split
  · exact ⟨⟨id, hself⟩, rfl⟩
  · split
    · split <;> exact ⟨⟨_, rfl⟩, rfl⟩
    · obtain ⟨hphase, hwings⟩ := deliverMatch_keeps
        (s.onCmp n fun c => { rearm c s.phase.time 0 with fired := true }) n (s.phase.cmps.get n).time
        (s.phase.cmps.get n).late false
      refine ⟨⟨fun c => { rearm c s.phase.time 0 with fired := true, fires := (rearm c s.phase.time 0).fires + 1 }, ?_⟩,
        hwings⟩
      rw [hphase]
      simp [vmod_vmod]

theorem cmpMatch_time : (cmpMatch s n).phase.time = s.phase.time := by
  obtain ⟨⟨f, hf⟩, -⟩ := cmpMatch_keeps s n
  rw [hf]
  rfl

theorem cmpMatch_other {k : Fin 64} (h : n ≠ k) : (cmpMatch s n).phase.cmps.get k = s.phase.cmps.get k := by
  obtain ⟨⟨f, hf⟩, -⟩ := cmpMatch_keeps s n
  rw [hf]
  exact get_vmod_ne _ _ h

variable {s n}

theorem cmpMatch_fired (hheld : (s.phase.cmps.get n).held = true) (harm : (s.phase.cmps.get n).arm = true)
    (hrun : wingFrozen s (s.phase.cmps.get n).wing = false) (hnot : (s.phase.cmps.get n).fired = false) :
    ((cmpMatch s n).phase.cmps.get n).fired = reached s.phase.time (s.phase.cmps.get n).time := by
  unfold cmpMatch
  dsimp only
  cases ht : reached s.phase.time (s.phase.cmps.get n).time with
  | false => simp [hnot]
  | true =>
    rw [if_neg (by simp [hheld, harm]), if_neg (by simp [hrun]), (deliverMatch_keeps _ _ _ _ _).1]
    simp

end

theorem foldl_cmpMatch_time (l : List (Fin 64)) (s : State) : (l.foldl cmpMatch s).phase.time = s.phase.time :=
  foldl_keeps (p := fun t : State => t.phase.time) cmpMatch_time l s

theorem foldl_cmpMatch_other {l : List (Fin 64)} {n : Fin 64} (hn : n ∉ l) (s : State) :
    (l.foldl cmpMatch s).phase.cmps.get n = s.phase.cmps.get n := by
  induction l generalizing s with
  | nil => rfl
  | cons k l ih =>
    obtain ⟨hkn, hn⟩ := not_or.1 (mt List.mem_cons.2 hn)
    rw [List.foldl_cons, ih hn, cmpMatch_other s k (Ne.symm hkn)]

/-- A comparator that is in turn once finds itself, its wing and phase time as they were. -/
theorem foldl_cmpMatch_at {l : List (Fin 64)} {n : Fin 64} (hl : l.Nodup) (hn : n ∈ l) (s : State) :
    ∃ u : State, u.phase.time = s.phase.time ∧ u.wings = s.wings ∧ u.phase.cmps.get n = s.phase.cmps.get n ∧
      (l.foldl cmpMatch s).phase.cmps.get n = (cmpMatch u n).phase.cmps.get n := by
  induction l generalizing s with
  | nil => simp at hn
  | cons k l ih =>
    obtain ⟨hk, hl⟩ := List.nodup_cons.1 hl
    by_cases hkn : k = n
    · subst hkn
      exact ⟨s, rfl, rfl, rfl, foldl_cmpMatch_other hk _⟩
    · obtain ⟨u, htime, hwings, hcmp, hu⟩ := ih hl ((List.mem_cons.1 hn).resolve_left (Ne.symm hkn)) (cmpMatch s k)
      exact ⟨u, htime.trans (cmpMatch_time s k), hwings.trans (cmpMatch_keeps s k).2,
        hcmp.trans (cmpMatch_other s k hkn), hu⟩

theorem beaconSend_doors (s : State) : DoorsOnly s (beaconSend s) := by
  unfold beaconSend
  split
  · refine doorsOnly_foldl (fun s d => ?_) _ s
    split
    · exact postOn_doors s d .beacon _
    · exact .refl s
  · exact .refl s

/-- A tick adds 1 to phase time, and then every comparator is in turn. -/
theorem tick_turns (s : State) : ∃ u : State, tick s = (List.finRange 64).foldl cmpMatch u ∧
    u.phase.time = s.phase.time + 1 ∧ u.phase.cmps = s.phase.cmps ∧ u.wings = s.wings := by
  unfold tick
  dsimp only
  refine ⟨_, rfl, ?_⟩
  obtain ⟨v, hv⟩ := beaconSend_doors (s.onPhase fun p =>
    { p with time := p.time + 1,
             holdoverUsed := if p.st = .holdover ∧ (p.time + 1).toNat % 65536 = 0 then p.holdoverUsed + 1
                             else p.holdoverUsed })
  rw [hv]
  exact ⟨rfl, rfl, rfl⟩

/-- A tick fires an armed comparator of a wing that runs exactly when its target is reached. -/
theorem tick_fired {s : State} {n : Fin 64} (hheld : (s.phase.cmps.get n).held = true)
    (harm : (s.phase.cmps.get n).arm = true) (hrun : wingFrozen s (s.phase.cmps.get n).wing = false)
    (hnot : (s.phase.cmps.get n).fired = false) : (tick s).phase.time = s.phase.time + 1 ∧
      ((tick s).phase.cmps.get n).fired = reached (s.phase.time + 1) (s.phase.cmps.get n).time := by
  obtain ⟨t, htick, htime, hcmps, hwings⟩ := tick_turns s
  obtain ⟨u, hut, huw, hun, hfold⟩ := foldl_cmpMatch_at (List.nodup_finRange 64) (List.mem_finRange n) t
  have hcmp : u.phase.cmps.get n = s.phase.cmps.get n := by rw [hun, hcmps]
  have hfrozen : wingFrozen u (u.phase.cmps.get n).wing = false := by
    simpa only [wingFrozen, State.wing, huw, hwings, hcmp] using hrun
  rw [htick, foldl_cmpMatch_time, hfold, cmpMatch_fired (hcmp ▸ hheld) (hcmp ▸ harm) hfrozen (hcmp ▸ hnot), hut, hcmp,
    htime]
  exact ⟨rfl, rfl⟩

/-! ### TIMED jobs (R160) -/

section
variable {s : State} {w : WingId} {d : HeldDesc} (hen : (s.ring w).en = true) (hact : (s.ring w).active = true)
  (hopen : dispatchOpen s w = true) (hd : (s.ring w).held = some d) (hc : d.checked = true)
  (hf : dFence d.bytes = false) (ht : dTimed d.bytes = true) (htyp : dType d.bytes = 1)
include hen hact hopen hd hc hf ht htyp

/-- What a checked, unfenced NOP job waits at is its START_PHASE or nothing. -/
theorem holdCode_timedNop : holdCode s w = if reached s.phase.time (dStart d.bytes) = true then 0 else 3 := by
  unfold holdCode
  cases hr : reached s.phase.time (dStart d.bytes) <;> simp [hen, hact, hopen, hd, hc, hf, ht, htyp, hr]

theorem startable_timedNop :
    startable s w 1 = if reached s.phase.time (dStart d.bytes) = true then some d.bytes else none := by
  rw [startable, hd, holdCode_timedNop hen hact hopen hd hc hf ht htyp]
  cases hr : reached s.phase.time (dStart d.bytes) <;> simp [hc, htyp, hopen]

theorem jobNop_timed : exec (.jobNop w) s = .next
    (if reached s.phase.time (dStart d.bytes) = true then endAtStart s w d.bytes ⟨0, 0, 0, 0xFF⟩ else s) := by
  rw [exec_jobNop, execJobNop, startable_timedNop hen hact hopen hd hc hf ht htyp]
  cases reached s.phase.time (dStart d.bytes) <;> rfl

end

/-! ### WAITPH (R186, R386) -/

theorem strmOf_roomStrm (x : Room) (k : Which) (f : Strm → Strm) : strmOf (roomStrm x k f) k = f (strmOf x k) := by
  cases k <;> rfl

theorem strmOf_xIssued (x : Room) (k : Which) (b : Bool) : strmOf { x with xIssued := b } k = strmOf x k := by
  cases k <;> rfl

/-- The stream that a WAITPH_DONE names. -/
def whichStrm (xs : Bool) : Which := if xs = true then .x else .a

section
variable {s : State} {r : RoomId} {xs : Bool} {target : W48} (hgoes : roomGoes s r = true)
  (hrun : (strmOf (s.room r) (whichStrm xs)).running = true)
  (hwait : (strmOf (s.room r) (whichStrm xs)).wait = .waitph target)
include hwait

theorem waitphDone_early (h : reached s.phase.time target = false) : exec (.waitphDone r xs) s = .next s := by
  rw [exec_waitphDone]
  unfold execWaitphDone
  dsimp only
  rw [show (if xs = true then Which.x else .a) = whichStrm xs from rfl, hwait]
  simp [h]

include hgoes hrun

theorem waitphDone_reached (h : reached s.phase.time target = true) : ∃ t, exec (.waitphDone r xs) s = .next t ∧
    (strmOf (t.room r) (whichStrm xs)).wait = .ready ∧ (strmOf (t.room r) (whichStrm xs)).mark = target := by
  rw [exec_waitphDone]
  unfold execWaitphDone
  dsimp only
  rw [show (if xs = true then Which.x else .a) = whichStrm xs from rfl, hwait]
  dsimp only
  rw [if_pos (by simp [hgoes, hrun, h])]
  refine ⟨_, rfl, ?_⟩
  rw [State.room_onRoom_same, strmOf_xIssued, onStrm, State.room_onRoom_same, strmOf_roomStrm]
  exact ⟨rfl, rfl⟩

end

/-- Settles O41: a comparator by `tick_fired`, a TIMED job by `jobNop_timed`, a WAITPH by `waitphDone_reached` and
`waitphDone_early`. -/
theorem phaseTargets : Obligations.PhaseTargets := by
  refine ⟨?_, ?_, ?_⟩
  · intro s n hr hheld harm hrun hnot
    obtain ⟨htime, hfired⟩ := tick_fired hheld harm hrun hnot
    refine ⟨_, (exec_phaseTick s).trans (if_pos hr), ?_⟩
    rw [hfired, htime, reached_iff]
  · intro s w d hen hact hopen hd hc hf ht htyp
    rw [jobNop_timed hen hact hopen hd hc hf ht htyp, ← reached_iff]
    refine ⟨fun h => by rw [if_pos h], fun h => ?_⟩
    rw [if_neg (by rw [reached_iff]; omega)]
  · intro s r xs target k hgoes hrun hwait
    cases h : reached s.phase.time target with
    | true =>
      obtain ⟨t, ht, hgo⟩ := waitphDone_reached hgoes hrun hwait h
      exact ⟨t, ht, fun _ => hgo, fun hlate => absurd ((reached_iff _ _).1 h) (by omega)⟩
    | false =>
      refine ⟨s, waitphDone_early hwait h, fun hearly => ?_, fun _ => rfl⟩
      rw [← reached_iff, h] at hearly
      contradiction

end Sys2Proof.Machine
end

section
/-!
Waits and Larder lines of the A-stream (R186, R365, R382, R383, R385, R386, R388, R389): what LDT and STT, WAITPH, SYNC and
END make of the Room, what the ends of lines and of waits make of it, and O43. That as many lines issue at once as the limit
of 64 admits (log 76) and that END waits for the lines in flight (log 143) are the model's choices.
-/
namespace Sys2Proof.Machine
open Sys2Proof

/-! ### A command that goes on -/

theorem onRoom_eq_self {s : State} {r : RoomId} {f : Room → Room} (h : f (s.room r) = s.room r) : s.onRoom r f = s := by
  have hself : s.onRoom r id = s := by rw [State.onRoom, vmod_id]
  rw [onRoom_congr s r (g := id) h, hself]

/-- A command that leaves the stream where it was goes on with the next one. -/
theorem strmResult_next {t : State} {r : RoomId} {pc : Nat} (h : (t.room r).astream.strm.pc = pc) :
    strmResult r .a (.ok (some (pc + 8)) t) = .next (t.aNext r) := by
  subst h
  exact congrArg _ (onRoom_congr t r rfl)

/-! ### Lines entered (R382, R383) -/

/-- The A-stream of a Room is at the same place, with as many lines of its command issued. -/
def KeepsPlace (r : RoomId) (s t : State) : Prop :=
  (t.room r).astream.strm = (s.room r).astream.strm ∧ (t.room r).astream.issued = (s.room r).astream.issued

theorem KeepsPlace.of_rooms {r : RoomId} {s t : State} (h : t.rooms = s.rooms) : KeepsPlace r s t := by
  simp only [KeepsPlace, State.room, h, and_self]

theorem KeepsPlace.trans {r : RoomId} {s t u : State} (h : KeepsPlace r s t) (h' : KeepsPlace r t u) : KeepsPlace r s u :=
  ⟨h'.1.trans h.1, h'.2.trans h.2⟩

theorem keepsPlace_onRoom {r : RoomId} {s : State} {f : Room → Room}
    (h : (f (s.room r)).astream.strm = (s.room r).astream.strm ∧ (f (s.room r)).astream.issued = (s.room r).astream.issued) :
    KeepsPlace r s (s.onRoom r f) := by
  rw [KeepsPlace, State.room_onRoom_same]
  exact h

theorem tagSlots_astream (x : Room) (slots : List Nat) (full : Bool) : (tagSlots x slots full).astream = x.astream :=
  foldl_keeps (p := Room.astream) (f := fun x k => setTag x k full) (fun _ _ => rfl) slots x

theorem readPieces_astream {x y : Room} {token : Bool} {cls : Nat} {ps : List Piece} {d : List Byte}
    (h : readPieces x token cls ps = .done (d, y)) : y.astream = x.astream := by
  unfold readPieces at h
  dsimp only at h
  split at h
  · contradiction
  · injection h with h
    injection h with _ h
    rw [← h]
    split
    · exact tagSlots_astream _ _ _
    · rfl

section
variable (s : State) (r : RoomId)

theorem sendPart_rooms (l : LineXfer) (data : List Byte) (p : LinePart) (k : Nat) :
    (sendPart s r l data p k).rooms = s.rooms := by
  unfold sendPart
  dsimp only
  split
  · rfl
  · rw [postPacket_rooms]
    rfl

theorem foldl_sendPart_rooms (l : LineXfer) (data : List Byte) (ps : List (LinePart × Nat)) :
    (ps.foldl (fun s p => sendPart s r l data p.1 p.2) s).rooms = s.rooms := by
  induction ps generalizing s with
  | nil => rfl
  | cons p ps ih => rw [List.foldl_cons, ih, sendPart_rooms]

theorem sendLineParts_keepsPlace (l : LineXfer) (data : List Byte) : KeepsPlace r s (sendLineParts s r l data) := by
  unfold sendLineParts
  split
  · exact keepsPlace_onRoom ⟨rfl, rfl⟩
  · exact .of_rooms (foldl_sendPart_rooms s r l data _)

theorem sendStore_keepsPlace (l : LineXfer) : KeepsPlace r s (sendStore s r l) := by
  unfold sendStore
  dsimp only
  split
  · rename_i hread
    have hy := readPieces_astream hread
    exact (keepsPlace_onRoom (by simp [hy])).trans (sendLineParts_keepsPlace _ r l _)
  · exact .of_rooms rfl

theorem enterLine_keepsPlace (store tagged : Bool) (dev : Option DevAddr) (ps : List Piece) (parts : List LinePart) :
    KeepsPlace r s (enterLine s r store tagged dev ps parts) := by
  unfold enterLine
  dsimp only
  split
  · exact (keepsPlace_onRoom (by simp)).trans (sendStore_keepsPlace _ r _)
  · exact (keepsPlace_onRoom (by simp)).trans (sendLineParts_keepsPlace _ r _ _)

end

section
variable {s : State} {r : RoomId} {store : Bool}

/-- A line of the Larder of this device that the wing may reach enters. -/
theorem issueLine_larder {a b : Nat} {ps : List Piece} (hdec : devDecode s a 64 = some (.larder b))
    (hok : localRefuse s (roomOwner s r) false store (.larder b) 64 = 0) :
    issueLine s r store false a ps = .ok () (enterLine s r store false none ps (lineParts b)) := by
  unfold issueLine
  rw [hdec]
  dsimp only
  rw [if_neg (by simp [hok])]

theorem issueLines_one {tagged : Bool} {g : Fin 4} {a : Nat} {ps : List Piece} {t : State}
    (hissued : (s.room r).astream.issued = 0) (hroom : (s.room r).astream.lines.length < 64)
    (hps : resolve s r .a g 0 64 = .ok ps s) (hline : issueLine s r store tagged (a % 2 ^ 48) ps = .ok () t) :
    issueLines 1 s r store tagged g a =
      .ok () (t.onRoom r fun x => { x with astream := { x.astream with issued := 1 } }) := by
  unfold issueLines
  dsimp only
  rw [if_neg (by omega), hissued, Nat.mul_zero, Nat.add_zero, hps]
  simp only [Got.andThen, hline]
  rfl

theorem issueLines_full {n : Nat} {tagged : Bool} {g : Fin 4} {a : Nat} (hn : n ≠ 0)
    (hfull : (s.room r).astream.lines.length = 64) : issueLines n s r store tagged g a =
      .wait (s.onSys fun y => { y with stallRoom := vmod y.stallRoom r fun c => satAdd c 1 }) .inflight := by
  obtain ⟨n, rfl⟩ := Nat.exists_eq_succ_of_ne_zero hn
  rw [issueLines]
  exact if_pos (Nat.le_of_eq hfull.symm)

/-- LDT and STT of one line of the Larder of this device. -/
theorem xferLines_one {c : ACmd} {next b : Nat} {ps : List Piece} (hn : bitsOf c.arg 39 27 = 0)
    (htag : bitOf c.arg 43 = false) (hstep : bitOf c.arg 40 = false) (hissued : (s.room r).astream.issued = 0)
    (hroom : (s.room r).astream.lines.length < 64) (hps : resolve s r .a (c.two 44) 0 64 = .ok ps s)
    (hdec : devDecode s (adrOf s r (c.two 41)).toNat 64 = some (.larder b))
    (hok : localRefuse s (roomOwner s r) false store (.larder b) 64 = 0) :
    xferLines r store c next s = .ok (some next) (enterLine s r store false none ps (lineParts b)) := by
  have hmod : (adrOf s r (c.two 41)).toNat % 2 ^ 48 = (adrOf s r (c.two 41)).toNat := Nat.mod_eq_of_lt (adrOf s r _).isLt
  have hline : issueLine s r store false ((adrOf s r (c.two 41)).toNat % 2 ^ 48) ps = _ :=
    issueLine_larder (hmod.symm ▸ hdec) hok
  obtain ⟨-, hplace⟩ := enterLine_keepsPlace s r store false none ps (lineParts b)
  unfold xferLines
  simp only [htag, hn, hstep, hissued, issueLines_one hissued hroom hps hline, Got.andThen, onRoom_onRoom, Bool.and_false,
    Bool.false_and, Bool.false_eq_true, if_false]
  rw [onRoom_eq_self]
  rw [← hissued, ← hplace]

/-- LDT and STT as rows of the A-stream. -/
theorem exec_xferLines {p : (RoomId → Instr) × Nat × Bool}
    (hp : p ∈ ([(Instr.ldt, 0x01, false), (Instr.stt, 0x02, true)] : List ((RoomId → Instr) × Nat × Bool))) :
    exec (p.1 r) s = aRow r p.2.1 (xferLines r p.2.2) s := by
  simp only [List.mem_cons, List.not_mem_nil, or_false] at hp
  rcases hp with rfl | rfl <;> rfl

theorem ldt_full {w : Nat} (h : s.atCommand r 0x01 w) (hissued : (s.room r).astream.issued = 0)
    (hfull : (s.room r).astream.lines.length = 64) : ∃ t, exec (.ldt r) s = .next t ∧
      (t.room r).astream.strm.wait = .blocked .inflight ∧ (t.room r).astream.lines = (s.room r).astream.lines := by
  rw [exec_ldt, execLdt, aRow_atCommand h]
  unfold xferLines
  dsimp only
  rw [if_neg (by simp), issueLines_full (by omega) hfull]
  refine ⟨_, rfl, ?_⟩
  rw [onStrm, State.room_onRoom_same]
  exact ⟨rfl, rfl⟩

/-! ### WAITPH, SYNC and END (R365, R385, R386) -/

theorem asWaitph_atCommand {w : Nat} (h : s.atCommand r 0x20 w) :
    let c := aDecode w
    let target : W48 := if bitOf c.arg 45 = true then (s.room r).astream.strm.mark + BitVec.ofNat 48 (c.arg % 2 ^ 32)
      else adrOf s r (c.two 43)
    exec (.asWaitph r) s = .next (if reached s.phase.time target = true then
        (onStrm s r .a fun t => { t with mark := target }).aNext r
      else onStrm s r .a fun t => { t with wait := .waitph target }) := by
  intro c target
  rw [exec_asWaitph, execAsWaitph, aRow_atCommand h]
  change strmResult r .a (waitPhase s r .a target _) = _
  unfold waitPhase
  split
  · exact strmResult_next (by rw [onStrm, State.room_onRoom_same]; rfl)
  · rfl

theorem asSync_atCommand {w : Nat} (h : s.atCommand r 0x21 w) : exec (.asSync r) s = .next (
    if bitOf (aDecode w).arg 45 = true ∧ (s.room r).astream.lines ≠ [] then s.aWaits r .sync
    else if bitOf (aDecode w).arg 44 = true then onStrm s r .a fun t => { t with wait := .rdv (aDecode w).tag }
    else s.aNext r) := by
  rw [exec_asSync, execAsSync, aRow_atCommand h]
  simp only [Bool.and_eq_true, Bool.not_eq_true', List.isEmpty_eq_false_iff]
  split
  · rfl
  · split
    · rfl
    · exact strmResult_next rfl

theorem asEnd_waits {w : Nat} (h : s.atCommand r 0x3F w) (hlines : (s.room r).astream.lines ≠ []) :
    exec (.asEnd r) s = .next (s.aWaits r .none) := by
  rw [exec_asEnd, execAsEnd, aRow_atCommand h, if_pos (by simpa using hlines)]
  rfl

theorem asEnd_ends {w : Nat} (h : s.atCommand r 0x3F w) (hlines : (s.room r).astream.lines = []) :
    ∃ t, exec (.asEnd r) s = .next t ∧ (t.room r).astream.strm.running = false ∧
      (t.room r).newel.pendStream = true ∧ (t.room r).newel.streamSrc = 1 ∧ (t.room r).pantry = (s.room r).pantry := by
  rw [exec_asEnd, execAsEnd, aRow_atCommand h, if_neg (by simp [hlines])]
  refine ⟨_, rfl, ?_⟩
  simp [endStrm, onStrm, roomStrm]

end

/-! ### Lines that end (R267, R305, R382) -/

section
variable {s : State} {r : RoomId} {id : Nat} {l : LineXfer} (hmove : linesMove (s.room r) = true)
include hmove

section
variable (hl : (s.room r).astream.lines.find? (fun l => l.id == id && !l.store && l.answered) = some l)
include hl

theorem ldtLineDone_poisoned (hp : linePoison l = true) :
    exec (.ldtLineDone r id) s = .next (haltRoom s r 0x0703 ⟨2, BitVec.ofNat 32 l.pc, l.count⟩) := by
  rw [exec_ldtLineDone, execLdtLineDone]
  rw [hl]
  dsimp only
  rw [if_neg (by simp [hmove]), if_pos hp]

theorem ldtLineDone_plain (hp : linePoison l = false) (ht : l.tagged = false) : exec (.ldtLineDone r id) s =
    .next (s.onRoom r fun x => dropLine (storePieces x l.pieces (lineData l)) id) := by
  rw [exec_ldtLineDone, execLdtLineDone]
  rw [hl]
  dsimp only
  rw [if_neg (by simp [hmove]), if_neg (by simp [hp]), writePieces, if_neg (by simp [ht])]
  simp only [ht, Bool.false_eq_true, if_false]
  exact congrArg _ (onRoom_congr s r rfl)

end

theorem sttLineDone_acknowledged (hl : (s.room r).astream.lines.find? (fun l => l.id == id && l.store) = some l)
    (ha : l.answered = true) : exec (.sttLineDone r id) s = .next (s.onRoom r fun x => dropLine x id) := by
  rw [exec_sttLineDone, execSttLineDone]
  rw [hl]
  dsimp only
  rw [if_neg (by simp [hmove]), if_pos ha]

end

/-! ### Rendezvous and the debug resume (R385, R388, R389) -/

section
variable {s : State} {r : RoomId}

theorem syncRendezvous_sameTag {tag : Byte} (hgoes : roomGoes s r = true) (ha : (s.room r).astream.strm.wait = .rdv tag)
    (hx : (s.room r).xstream.wait = .rdv tag) : ∃ t, exec (.syncRendezvous r) s = .next t ∧
      (t.room r).astream.strm.wait = .ready ∧ (t.room r).xstream.wait = .ready := by
  rw [exec_syncRendezvous, execSyncRendezvous]
  dsimp only
  rw [ha, hx]
  dsimp only
  rw [if_neg (by simp [hgoes]), if_pos rfl]
  refine ⟨_, rfl, ?_⟩
  rw [State.room_onRoom_same]
  exact ⟨rfl, rfl⟩

theorem syncRendezvous_otherTag {ta tx : Byte} (hgoes : roomGoes s r = true)
    (ha : (s.room r).astream.strm.wait = .rdv ta) (hx : (s.room r).xstream.wait = .rdv tx) (h : ta ≠ tx) :
    exec (.syncRendezvous r) s = .next (haltRoom s r 0x0A06 (FaultAt.astream (s.room r))) := by
  rw [exec_syncRendezvous, execSyncRendezvous]
  dsimp only
  rw [ha, hx]
  dsimp only
  rw [if_neg (by simp [hgoes]), if_neg h]

theorem streamDebugResume_running (hbar : s.barReady (storeyDomain r)) (hst : (s.room r).st = .debugHalt)
    (hwhich : (s.room r).sdbgWhich ≠ 0) (hallow : debugAllows s r 0 = true) :
    ∃ t, exec (.streamDebugResume r) s = .next t ∧ (t.room r).st = .running := by
  rw [exec_streamDebugResume, execStreamDebugResume, barGo_ready hbar, streamDebugResumeOp]
  dsimp only
  rw [if_pos ⟨hst, hwhich, hallow⟩]
  exact ⟨_, rfl, by rw [State.room_onRoom_same]⟩

end

/-- Settles O43: a line by `xferLines_one` and `enterLine_keepsPlace`, the waits by `asWaitph_atCommand`,
`asSync_atCommand` and `asEnd_ends`, the ends of lines by `ldtLineDone_plain` and `sttLineDone_acknowledged`. It rests on
the model's choices of rows 76 and 143 of the assumption log. -/
theorem streamWaitsAndLines : Obligations.StreamWaitsAndLines := by
  refine ⟨fun s r w => ⟨?_, ldt_full, asWaitph_atCommand, asSync_atCommand, fun h => ⟨asEnd_waits h, asEnd_ends h⟩⟩,
    ?_, ?_, fun s r => streamDebugResume_running⟩
  · intro p hp la b ps a h hn htag hstep hissued hroom hps hdec hla hok
    subst hla
    rw [exec_xferLines hp, aRow_atCommand h, xferLines_one hn htag hstep hissued hroom hps hdec hok]
    exact strmResult_next (congrArg Strm.pc (enterLine_keepsPlace s r _ _ _ _ _).1)
  · intro s r id l hmove _
    exact ⟨fun hl => ⟨ldtLineDone_poisoned hmove hl, ldtLineDone_plain hmove hl⟩, sttLineDone_acknowledged hmove⟩
  · intro s r ta tx hgoes ha hx
    refine ⟨?_, syncRendezvous_otherTag hgoes ha hx⟩
    rintro rfl
    exact syncRendezvous_sameTag hgoes ha hx

end Sys2Proof.Machine
end
